-- ==== Sys2Proof/Word.lean ====
section
/-! DEFINITION. The byte, the sparse table in canonical form and the plainest arithmetic the model uses. -/

namespace Sys2Proof

/-- One byte of a frame, a window or a key. -/
abbrev Byte := BitVec 8

/-- A sparse table: entries in strictly rising key order, none equal to what an unlisted key reads as. -/
abbrev SMap (α : Type) := List (Nat × α)

/-- Bits `[hi:lo]` of a field map (Table 0.3), as a number. -/
def fld {n : Nat} (x : BitVec n) (hi lo : Nat) : Nat := (x.toNat >>> lo) % 2 ^ (hi - lo + 1)

/-- Bit `i` of a word held as a number. -/
def nbit (x i : Nat) : Bool := x.testBit i

/-- `x` with bit `i` set. -/
def setBit (x i : Nat) : Nat := x ||| 2 ^ i

/-- `x` with bit `i` cleared. -/
def clrBit (x i : Nat) : Nat := if x.testBit i then x - 2 ^ i else x

/-- The bits of `x` that `m` does not name. -/
def without (x m : Nat) : Nat := x ^^^ (x &&& m)

/-- A number as a signed value of `w` bits (R184, two's complement). -/
def toSigned (w x : Nat) : Int := if 2 ^ (w - 1) ≤ x % 2 ^ w then (x % 2 ^ w : Int) - 2 ^ w else (x % 2 ^ w : Int)

/-- A signed value as the number its `w`-bit two's complement word holds. -/
def ofSigned (w : Nat) (x : Int) : Nat := (x % (2 ^ w : Int)).toNat

/-- R187: integer division truncates toward zero. -/
def tdiv (a b : Int) : Int := Int.tdiv a b

/-- R187: the arithmetic shift rounds toward minus infinity. -/
def asr (a : Int) (k : Nat) : Int := a / (2 ^ k : Int)

/-- `x` held between `lo` and `hi`. -/
def clampI (x lo hi : Int) : Int := max lo (min x hi)

/-- Bytes as one number, the first byte the most significant (R59). -/
def beNat (l : List Byte) : Nat := l.foldl (fun a b => a * 256 + b.toNat) 0

/-- The lowest `k` bytes of a number, the most significant first. -/
def toBytes : Nat → Nat → List Byte
  | 0, _ => []
  | k + 1, x => BitVec.ofNat 8 (x >>> (8 * k)) :: toBytes k x

end Sys2Proof
end

