-- ==== Sys2Proof/Syntax.lean ====
section
/-! DEFINITION. The commands of the block: one constructor for each row of the opcode table. A command that a manager
sends carries its request; a frame from outside is carried as the bits of its field map; an outcome that the manual
leaves to the part's surroundings (a verification, a self-test, a write to a memory) is an operand. -/

namespace Sys2Proof

/-- The codes of OP that Table 13.3 gives no request: NOTIFY is the module's own. -/
inductive ReservedOp where
  | op0 | op8 | opA | opB | opC | opD | opE | opF
  deriving DecidableEq, Repr

/-- A manager's request: the session it travels in, its request number and VERSION (R358, R360); `badOp` is a reserved OP
that the header carries in place of the row's own (R359). -/
structure Req where
  session : Fin 8
  reqId   : BitVec 32
  version : BitVec 4 := 1
  badOp   : Option ReservedOp := none
  deriving DecidableEq, Repr

/-- What a peer sends in a handshake (R353): a ClientHello, with the key share groups and cipher suites it offers, whether
it offers psk_dhe_ke, and whether it returns a cookie; or what it proves at the handshake's end. -/
inductive DtlsMsg where
  | hello (groups suites : List (BitVec 16)) (pskDhe cookie : Bool)
  | finished (key : List Byte)
  deriving DecidableEq, Repr

/-- The element formats of MX blocks (Table 7.5). -/
inductive MxElem where
  | e4m3 | e5m2 | e3m2 | e2m3 | e2m1 | int8
  deriving DecidableEq, Repr

/-- The operand formats of a cart (Table 6.2). -/
inductive CartFormat where
  | mx (elem : MxElem)
  | bf16
  | fp16
  deriving DecidableEq, Repr

/-- The functions of the vector function unit (Table 7.2). -/
inductive VecFn where
  | recip | rsqrt | exp2 | log2 | tanh | sigmoid
  deriving DecidableEq, Repr

/-- Elementwise arithmetic of the vector function unit (Table 6.1, R185). -/
inductive VecOp where
  | add | sub | mul | fma | div | sqrt
  deriving DecidableEq, Repr

/-- An operation that a coach's core issues before a stream descriptor completes (R157); `Off` is a byte offset in the
coach's SRAM. Values are binary32 words in big-endian order. `dot` adds the products of `n` block pairs at `a` and `b` to
the accumulator at `acc` on a logical cart (R194); `scan` runs a lane over `n` steps (R195, R196); `fn` and `arith`
apply to `n` elements; `toMx` and `fromMx` convert `n` blocks of 32 values (R192). -/
inductive EngOp where
  | store (dst : BitVec 22) (data : List Byte)
  | dot (cart : Fin 32) (fmt : CartFormat) (n : BitVec 16) (a b acc : BitVec 22)
  | scan (comp : Bool) (n : BitVec 16) (a b h : BitVec 22)
  | fn (f : VecFn) (n : BitVec 16) (src dst : BitVec 22)
  | arith (f : VecOp) (n : BitVec 16) (a b c dst : BitVec 22)
  | toMx (elem : MxElem) (n : BitVec 16) (src dst : BitVec 22)
  | fromMx (elem : MxElem) (n : BitVec 16) (src dst : BitVec 22)
  deriving DecidableEq, Repr

/-- What an uncorrectable HBM error hits (Table 7.11). -/
inductive HbmHit where
  | signature (tray : Fin 64) (bin : Fin 262144)
  | longRecord (channel : Fin 512) (block : BitVec 64)
  | ingest (channel : Fin 512)
  | model (granule : BitVec 28) (used : Bool)
  | adaptation (current : Bool)
  | recurrentState
  | unused
  deriving DecidableEq, Repr

/-- A row of a pseudo-channel of HBM (R163). -/
structure HbmRow where
  pch : Fin 128
  row : BitVec 32
  deriving DecidableEq, Repr

/-- An uncorrectable HBM error: what it hits, and the row (R204). -/
structure HbmError where
  hit : HbmHit
  row : HbmRow
  deriving DecidableEq, Repr

/-- A failed pseudo-channel and the granules of the model region that cannot be read (R164). -/
structure PchFailure where
  pch    : Fin 128
  unread : List (BitVec 32)
  deriving DecidableEq, Repr

/-- A finished pass of a background activity; one of the SRAM scrub says where it corrected words: in a coach's SRAM, or
in the Depot (R173, R177). -/
structure BgPass where
  act       : Fin 5
  corrected : List (Option (Fin 64))
  deriving DecidableEq, Repr

/-- What an ageing monitor measured, and on which unit (R403). -/
structure AgeReading where
  value : BitVec 32
  unit  : Fin 128
  deriving DecidableEq, Repr

/-- An uncorrectable error that a stream descriptor met: the first and last element it touched, and the row. -/
structure UeMet where
  first : BitVec 32
  last  : BitVec 32
  row   : HbmRow
  deriving DecidableEq, Repr

/-- The word that an uncorrectable engine SRAM error hits (R177): a word of 64 bits of a coach's SRAM, or a line of the
Depot by its number in the model region. -/
inductive EngWord where
  | sram (coach : Fin 64) (word : Fin 524288)
  | depot (line : BitVec 29)
  deriving DecidableEq, Repr

/-- The commands. -/
inductive Instr where
  /-- INGRESS_BUNDLE (R61): An ingress ticket bundle completes at a fabric port and is checked whole, then its tickets are verified, sequence-checked and steered into queues, or the bundle is discarded. -/
  | ingressBundle (lane : Fin 8) (macs frame : List Byte) (fcsOk : Bool)
  /-- REQUEST_DECISION (R101): A lane decides a queued REQUEST in its arbitration cycle against H(b), answering VOID, PARK or GRANT or handing it to preemption. -/
  | requestDecision (lane : Fin 8)
  /-- SIDING_OFFER (R104): A lane offers a ready siding entry after headroom rises, answering GRANT or RESUME for the next bin if it fits. -/
  | sidingOffer (lane : Fin 8)
  /-- PREEMPTION_TASK (R109): The revocation unit takes a preemption task, revokes lower-ranked revocable grants and grants the preempting REQUEST, or parks it. -/
  | preemptionTask
  /-- FALL_TASK (R112): The revocation unit takes a fall task and revokes grants from class 7 upward until the fall D is covered. -/
  | fallTask
  /-- EGRESS_HOLD_EXPIRY (R68): An open answers bundle closes when TKT_EGRESS_HOLD_NS has passed since its first answer. -/
  | egressHoldExpiry (tray : Fin 64) (prio : Fin 4)
  /-- EGRESS_SEND (R69): An answers or BRAKE bundle leaves a port in priority order once the port has room. -/
  | egressSend (port : Fin 8)
  /-- TKT_BRAKE_REQUEST (R85): A write to TKT_BRAKE_REQUEST issues BRAKE with reason MANAGER to each tray named. -/
  | tktBrakeRequest (r : Req) (v : BitVec 64)
  /-- BRAKE_CHECK (R86): At TKT_BRAKE_CHECK_US after a BRAKE leaves, each addressed tray's feeder power is compared with its floors plus margin, and non-compliance is counted and logged. -/
  | brakeCheck (tray : Fin 64)
  /-- TRAY_SEQ_RESET (R71): A write of 1 to TRAY_SEQ_RESET clears the SEQ history of the tray's requesters. -/
  | traySeqReset (r : Req) (tray : Fin 64) (v : BitVec 8)
  /-- ARB_COUNTER_CLEAR (R120): A write of 1 to ARB_COUNTER_CLEAR clears every requester record's counters at the next step boundary. -/
  | arbCounterClear (r : Req) (v : BitVec 8)
  /-- REQ_TABLE_WINDOW_WRITE (R119): A whole-record write to REQ_TABLE_WINDOW stages CLASS and BURST_LIMIT, or is refused whole with RESERVED_SET. -/
  | reqTableWindowWrite (r : Req) (off : BitVec 64) (data : List Byte)
  /-- LOAD_EVENT (R25): A rack aggregate sample crosses the threshold upward with hysteresis, forming a load event and updating the learned load offset. -/
  | loadEvent
  /-- TRK_SEARCH_LIMIT (R28): TRK_SEARCH_LIMIT_S elapses in SEARCH without an event and the tracker enters APERIODIC, latching TRACKER_UNLOCK. -/
  | trkSearchLimit
  /-- CAPTURE_WINDOW_CLOSE (R30): A wrap's capture window closes without an event, sending LOCKED to HOLDOVER or ending a stretched TRACK step into SEARCH. -/
  | captureWindowClose
  /-- STEP_BOUNDARY (R49): The phase wraps: step number advances, grants expire, requests are voided, pages swap or rows synthesise, staged groups, spares and model switches take effect, counters snapshot. -/
  | stepBoundary
  /-- BIN_END (R40): A bin ends: the excursion rule is evaluated, grants whose end bin begins end, siding entries become ready, and rest windows are judged. -/
  | binEnd
  /-- PAGE_VALIDATION_COMPLETE (R46): Validation of a committed shadow page ends, marking it COMMITTED or leaving it OPEN with the refusal code and row reported. -/
  | pageValidationComplete
  /-- SHADOW_COPY_COMPLETE (R48): The copy of the new live page into the shadow page completes and the shadow page leaves COPYING for OPEN. -/
  | shadowCopyComplete
  /-- PWM_COMPUTE_POINT (R133): At each frame's compute point the regulator computes every duty, recomputes S, sends card downlinks, HEARTBEAT and EPOCH_END, and applies frame-epoch effects. -/
  | pwmComputePoint
  /-- DIODE_EXIT (R137): A DIODE phase returns to WORKING once its current is low or CNV_BRAKE_MAX_FRAMES have passed. -/
  | diodeExit (p : Fin 100)
  /-- PHASE_SHED (R143): Once the shed dwell count reaches CNV_SHED_DWELL, the highest-numbered WORKING phase of the bank becomes WARM_SHED. -/
  | phaseShed (deep : Bool)
  /-- WARM_HOLD_EXPIRY (R143): A phase WARM_SHED for CNV_WARM_HOLD frames in SHED_ALLOWED bins becomes COLD_SHED. -/
  | warmHoldExpiry (p : Fin 100)
  /-- COLD_WAKE_EXPIRY (R144): CNV_COLD_WAKE_US after a COLD_SHED phase is commanded IDLE, it becomes WARM_SHED. -/
  | coldWakeExpiry (p : Fin 100)
  /-- OVERLOAD_CREDIT_EXHAUSTED (R135): A bank's overload credit reaches 0 and its phase limit falls to CNV_PH_CONT_W. -/
  | overloadCreditExhausted (deep : Bool)
  /-- SENSE_FRAME (R421): A sense-link frame arrives and delivers one sample set to the regulator, bank, feed and fault detectors. -/
  | senseFrame (frame : BitVec 336)
  /-- ALL_FIRE_END (R140): The all-fire frame ends, warm-shed participants become WORKING, compensators are preloaded and the frame grid restarts. -/
  | allFireEnd
  /-- SENSE_TIMEOUT (R236): No sample on a bus or bank channel for 3 µs latches SENSE_LINK and sends phases to DIODE or holds the estimator. -/
  | senseTimeout (ch : Fin 16)
  /-- CARD_UPLINK (R129): A card uplink frame arrives with currents, faults, token holder, readiness and slot identity. -/
  | cardUplink (card : Fin 25) (frame : BitVec 128)
  /-- CARD_LINK_LOSS (R147): Three consecutive uplink frames of a card are missing or bad, latching CARD_LINK and marking the card for removal. -/
  | cardLinkLoss (card : Fin 25)
  /-- CNV_CARD_READMIT (R149): A write to CNV_CARD_READMIT makes a FAULTED card a SPARE once its uplink is clean. -/
  | cnvCardReadmit (r : Req) (v : BitVec 32)
  /-- CNV_PWM_PERIOD_WRITE (R123): A write of CNV_PWM_PERIOD, accepted only while the converter is OFF, sets the frame length from the next frame. -/
  | cnvPwmPeriodWrite (r : Req) (v : BitVec 16)
  /-- CNV_BUS_SET_WRITE (R132): A new bus setpoint becomes the target that the reference slews toward from the next compute point. -/
  | cnvBusSetWrite (r : Req) (v : BitVec 32)
  /-- CNV_REGULATE_ENTRY (R151): After precharge and 100 frames of small error, the converter enters REGULATE and the rectifiers take CURRENT mode. -/
  | cnvRegulateEntry
  /-- CAL_OFFSET (R153): After 256 qualifying samples, a phase's offset correction is set to minus their mean. -/
  | calOffset (p : Fin 100)
  /-- CAL_SEQUENCE_COMPLETE (R153): A 127-frame perturbation sequence on one card completes and its correlation sums accumulate. -/
  | calSequenceComplete (card : Fin 25)
  /-- CAL_ESTIMATE (R254): After EST_CAL_SEQ sequences, the estimator forms the calibration estimate and applies or discards it at the next boundary. -/
  | calEstimate (card : Fin 25)
  /-- CALIBRATION_STARVED (R153): No perturbation sequence completes for 24 h and CALIBRATION_STARVED latches. -/
  | calibrationStarved
  /-- FORECAST_TICK_START (R167): A forecast tick starts and the engine takes its snapshot. -/
  | forecastTickStart
  /-- TICK_PUBLICATION (R168): The schedule signals completion: the correction is published, model channels are written, rows are released and state is stored. -/
  | tickPublication (corr : BitVec 32) (chans : List (Fin 256 × BitVec 32)) (state : List Byte)
  /-- TICK_ABANDON (R168): A tick reaches its end without publication and is abandoned, ENGINE_DEADLINE latching unless blanked. -/
  | tickAbandon
  /-- ROW_RELEASE (R169): The staging buffer releases the tick's rows into the shadow page once it is OPEN. -/
  | rowRelease
  /-- STREAM_DESCRIPTOR_COMPLETE (R160): A stream descriptor completes with status OK, UE, ABSENT or ABORTED. -/
  | streamDescriptorComplete (coach : Fin 64) (desc : BitVec 256) (ue : Option UeMet) (ops : List EngOp)
  /-- CART_FAILURE (R174): A working cart fails: the tick is abandoned, ENGINE_ECC_UE latches and no tick runs until the boundary. -/
  | cartFailure (coach : Fin 64) (cart : Fin 33)
  /-- CART_SELFTEST (R174): A cart self-test in a MAINT bin completes, failing the cart on a second consecutive failure. -/
  | cartSelftest (coach : Fin 64) (cart : Fin 33) (pass : Bool)
  /-- COACHMAN_LOCKSTEP (R176): A coach's coachman core fails its lockstep comparison and the coach is removed at the next boundary. -/
  | coachmanLockstep (coach : Fin 64)
  /-- ENGINE_SRAM_UE (R177): An uncorrectable error in coach SRAM or the Depot abandons the tick and invalidates the word. -/
  | engineSramUe (word : EngWord) (used : Bool)
  /-- HBM_UE (R204): An uncorrectable HBM error invalidates what it hits and latches HBM_ECC_UE. -/
  | hbmUe (error : HbmError)
  /-- HBM_CORRECTABLE_ERROR (R163): A corrected HBM error is counted against its row and can mark the row for repair. -/
  | hbmCorrectableError (pch : Fin 128) (row : BitVec 32)
  /-- HBM_ROW_REPAIR (R163): In the next MAINT bin, a temporary row repair is applied and HBM_REPAIR latches. -/
  | hbmRowRepair (pch : Fin 128) (row : BitVec 32)
  /-- PSEUDO_CHANNEL_FAILURE (R164): A failed pseudo-channel is mapped to its stack's spare, its data is copied or restored, and the reserve model runs meanwhile. -/
  | pseudoChannelFailure (failure : PchFailure)
  /-- PSEUDO_CHANNEL_RESTORE_COMPLETE (R164): The copy and restore of a repaired pseudo-channel completes and the running model returns at the next boundary. -/
  | pseudoChannelRestoreComplete (pch : Fin 128)
  /-- BACKGROUND_STARVED (R173): A background activity's age exceeds 86,400 s and BACKGROUND_STARVED latches. -/
  | backgroundStarved (act : Fin 5)
  /-- TIMETABLE_SRAM_UE (R204): An uncorrectable error in a timetable row replaces it with a synthesised or copied row and latches SRAM_ECC_UE. -/
  | timetableSramUe (live : Bool) (row : Fin 262144)
  /-- LONG_RECORD_BLOCK_CLOSE (R197): A channel's 80th buffered sample closes its block, which is coded and written over the oldest slot. -/
  | longRecordBlockClose (ch : Fin 512)
  /-- MDL_BEGIN (R219): The BEGIN command erases the INCOMING slots for a model load of MDL_LOAD_LENGTH. -/
  | mdlBegin (r : Req)
  /-- MDL_ERASE_COMPLETE (R219): The INCOMING slots are erased and the load enters RECEIVING. -/
  | mdlEraseComplete
  /-- MDL_LOAD_WINDOW_WRITE (R219): A write to MDL_LOAD_WINDOW places container bytes in ascending order and forwards them to the partner. -/
  | mdlLoadWindowWrite (r : Req) (off : BitVec 64) (data : List Byte)
  /-- MDL_VERIFY (R217): The VERIFY command starts the loader's checks of the received container. -/
  | mdlVerify (r : Req)
  /-- MDL_VERIFY_COMPLETE (R217): The container checks end and the load becomes VERIFIED or REFUSED with its reason reported. -/
  | mdlVerifyComplete
  /-- MDL_SWITCH (R222): The SWITCH command arms a verified container for switching at a step boundary. -/
  | mdlSwitch (r : Req)
  /-- MDL_CANCEL (R219): The CANCEL command returns the load to EMPTY. -/
  | mdlCancel (r : Req)
  /-- MODEL_IMAGE_COPY_COMPLETE (R223): The coach SRAM images are copied after a switch and the tick grid restarts. -/
  | modelImageCopyComplete
  /-- ADAPT_PASS_COMPLETE (R229): An adaptation pass ends with an adopt or discard verdict, and an adopted candidate is forwarded. -/
  | adaptPassComplete (adopt : Bool) (candidate : List Byte)
  /-- MDL_ADAPT_REVERT (R231): A write to MDL_ADAPT_REVERT starts copying the container's adaptable parameters into the non-current buffer. -/
  | mdlAdaptRevert (r : Req) (v : BitVec 8)
  /-- ADAPT_REVERT_COPY_COMPLETE (R231): The revert copy completes and becomes eligible to flip at the next permitted boundary. -/
  | adaptRevertCopyComplete
  /-- MONITOR_FRAME (R235): A module-monitor frame arrives on CAN FD bus 1 and feeds the cell, temperature and sum detectors. -/
  | monitorFrame (string : Fin 4) (m : Fin 20) (frame : BitVec 128)
  /-- MONITOR_TIMEOUT (R236): One monitor is silent for BNK_MON_TIMEOUT_MS and CAN_BMS asserts. -/
  | monitorTimeout (string : Fin 4) (m : Fin 20)
  /-- STRING_TIMEOUT (R236): No frame arrives from every monitor of a string for 1 s and BANK_DEEP asserts. -/
  | stringTimeout (string : Fin 4)
  /-- CAN_BUS_ERROR (R265): A CAN FD bus goes error-passive or bus-off, asserting CAN_RECT or CAN_BMS. -/
  | canBusError (bus : Fin 2)
  /-- ESTIMATOR_SAMPLE (R241): An estimation unit's sample interval ends: the model-derived current is integrated, uncertainty grows and e_x is published. -/
  | estimatorSample (u : Fin 5)
  /-- TAPER_DECLARATION (R253): A unit held at its end and low current for EST_TAPER_MS declares full or empty. -/
  | taperDeclaration (u : Fin 5)
  /-- REST_REQUEST (R250): 86,400 s without a rest sets the bank's bit in EST_REST_REQUEST. -/
  | restRequest (deep : Bool)
  /-- REST_REQUEST_OVERDUE (R250): A rest request that stays set for a further 86,400 s latches CALIBRATION_STARVED. -/
  | restRequestOverdue (deep : Bool)
  /-- REPORT_SLEW (R246): Every 0.6 s, a non-zero residual j moves 0.01% toward zero. -/
  | reportSlew
  /-- PRECHARGE_TIMEOUT (R238): Precharge does not complete within BNK_PRECHARGE_TIMEOUT_S: START aborts to STOP and BANK_FAST latches. -/
  | prechargeTimeout
  /-- LIFETIME_UPDATE (R256): Every 60 s of operating time each lifetime record is updated in both MRAM copies. -/
  | lifetimeUpdate
  /-- EST_LIFE_RESET (R256): A write to EST_LIFE_RESET returns the named lifetime records to their reset values. -/
  | estLifeReset (r : Req) (v : BitVec 8)
  /-- RECT_COMMAND_FRAME (R262): The periodic rectifier command frame is sent to each feed with BUS_REF_MV, MODE and LIMIT per R267. -/
  | rectCommandFrame (feed : Fin 2)
  /-- RECT_STATUS_FRAME (R264): A rectifier status frame arrives and updates health, mode echo and RECT_WINDOW. -/
  | rectStatusFrame (rect : Fin 24) (frame : BitVec 128)
  /-- RECT_TIMEOUT (R265): A rectifier's status is more than 30 ms old, so it is commanded OFF and CAN_RECT asserts. -/
  | rectTimeout (rect : Fin 24)
  /-- RECT_MODE_ECHO_CHECK (R265): 100 ms after a mode change, a wrong MODE_ECHO makes the rectifier unhealthy and latches RECTIFIER. -/
  | rectModeEchoCheck (rect : Fin 24)
  /-- RECT_ALARM (R265): A RECT_ALM_N line goes low, the rectifier is commanded OFF and RECTIFIER latches. -/
  | rectAlarm (rect : Fin 24) (low : Bool)
  /-- RECT_READMIT (R265): A write to RECT_READMIT starts a rectifier's readmission test. -/
  | rectReadmit (r : Req) (v : BitVec 32)
  /-- RECT_READMIT_COMPLETE (R265): A readmitted rectifier that has met the health conditions for 1 s becomes healthy. -/
  | rectReadmitComplete (rect : Fin 24)
  /-- GRID_CAP_WRITE (R266): A written GRID_CAP_W is taken into use, lowering B, sending an out-of-period command and starting fall tasks. -/
  | gridCapWrite (r : Req) (v : BitVec 32)
  /-- FEED_PRESENT (R270): A feed's envelope has stayed above FEED_LOSS_MV for FEED_RETURN_MS, so the feed is present. -/
  | feedPresent (feed : Fin 2)
  /-- FEED_LOSS (R272): A feed is found lost by envelope or by rectifier alarms, its rectifiers are commanded STANDBY and FEED1 or FEED2 latches. -/
  | feedLoss (feed : Fin 2)
  /-- FEED_TRANSFER_REQUEST (R271): A write to FEED_TRANSFER_REQUEST starts a planned transfer to the named feed. -/
  | feedTransferRequest (r : Req) (v : BitVec 8)
  /-- TRANSFER_TIMEOUT (R271): The incoming feed fails to report CURRENT within 100 ms, returns to STANDBY, and a record is written. -/
  | transferTimeout
  /-- TRANSFER_RAMP_END (R271): The transfer ramp ends, the outgoing feed goes to STANDBY and the overlap ends. -/
  | transferRampEnd
  /-- FEEDER_DOWNLINK (R276): Every 10 µs the module sends each feeder its downlink frame. -/
  | feederDownlink
  /-- FEEDER_UPLINK (R278): A feeder uplink frame arrives with state, current, early break and trip flags. -/
  | feederUplink (tray : Fin 64) (frame : BitVec 64)
  /-- FEEDER_LINK_LOSS (R279): Three bad or missing feeder uplinks, or a wrong slot, latch FEEDER_SIDEBAND. -/
  | feederLinkLoss (tray : Fin 64)
  /-- IDENTITY_READ_COMPLETE (R281): A tray identity read over the sideband completes or fails after retries. -/
  | identityReadComplete (tray : Fin 64) (record : Option (BitVec 256))
  /-- CST_REVERIFY (R283): A write to CST_REVERIFY re-reads the identity of each named open tray. -/
  | cstReverify (r : Req) (v : BitVec 64)
  /-- FDR_OPEN_REQUEST (R289): A write to FDR_OPEN_REQUEST issues BRAKE MANAGER to the tray ahead of opening it. -/
  | fdrOpenRequest (r : Req) (v : BitVec 64)
  /-- FEEDER_OPEN_AFTER_BRAKE (R289): TKT_BRAKE_CHECK_US after the BRAKE, the requested feeder is commanded OPEN. -/
  | feederOpenAfterBrake (tray : Fin 64)
  /-- FDR_CLOSE_REQUEST (R289): A write to FDR_CLOSE_REQUEST re-reads the tray's identity and closes the feeder under R284 and R285. -/
  | fdrCloseRequest (r : Req) (v : BitVec 64)
  /-- HOT_INSERT (R289): A tray seated at a planned open position for FDR_SETTLE_MS is treated as a close request. -/
  | hotInsert (tray : Fin 64)
  /-- FEEDER_CLOSE_START (R285): A feeder due to close starts its ramp once the inrush budget has room. -/
  | feederCloseStart (tray : Fin 64)
  /-- FEEDER_CLOSE_TIMEOUT (R287): A feeder not CLOSED within its ramp plus 50 ms is commanded TRIP_OPEN and FEEDER_TRIP latches. -/
  | feederCloseTimeout (tray : Fin 64)
  /-- START_REQUEST (R21): A start request in STOP enters START and begins partner discovery, consist verification and feed selection. -/
  | startRequest (r : Req)
  /-- STOP_REQUEST (R21): A stop request sends RUN to DRAIN, START to STOP, or TRIP to STOP when no C3 bit is set. -/
  | stopRequest (r : Req)
  /-- COMMISSION_REQUEST (R21): A request in STOP moves the module to COMMISSION. -/
  | commissionRequest (r : Req)
  /-- MODULE_RESET (R21): A reset request resets the module into BOOT. -/
  | moduleReset (r : Req)
  /-- DISCOVERY_END (R294): Partner discovery ends on the partner's IDENT or after 200 ms, and the module takes its role. -/
  | discoveryEnd
  /-- DISCOVERY_HOLD_TIMEOUT (R294): Slot A stops holding its START sequence after 300 ms without slot B reaching STANDBY. -/
  | discoveryHoldTimeout
  /-- BUS_RAMP_START (R286): With the rectifiers conducting in VOLTAGE mode, the bus ramp starts and the converter enters TRACK. -/
  | busRampStart
  /-- BUS_RAMP_END (R238): The bus ramp ends after RECT_BUS_RAMP_MS and bank precharge begins. -/
  | busRampEnd
  /-- PRIVILEGED_ON_DELAY (R286): A privileged entry's ON_DELAY_MS after REGULATE, its feeder closes over its ON_RAMP_MS. -/
  | privilegedOnDelay (tray : Fin 64)
  /-- RUN_ENTRY (R21): Once every enabled feeder reports CLOSED, the module enters RUN, accepts tickets and starts the tracker in SEARCH. -/
  | runEntry
  /-- ORDINARY_FEEDER_OFF (R21): At 1 ms intervals in shut-down, the next ordinary feeder is commanded OPEN. -/
  | ordinaryFeederOff (tray : Fin 64)
  /-- PRIVILEGED_OFF_DELAY (R21): A privileged entry's OFF_DELAY_MS after the ordinary feeders open, its feeder opens. -/
  | privilegedOffDelay (tray : Fin 64)
  /-- BUS_RAMP_DOWN (R151): Once every feeder reports OPEN, the rectifiers ramp the bus down and the converter returns to TRACK. -/
  | busRampDown
  /-- IDENT_SEND (R294): Every 1 ms until a role is held, the module sends an IDENT cell. -/
  | identSend
  /-- IDENT_CELL (R294): An IDENT cell from the partner arrives during discovery or resynchronisation. -/
  | identCell (cell : BitVec 1024)
  /-- HEARTBEAT_CELL (R303): A HEARTBEAT cell arrives on path L with the partner's role, state, frame and FLT_STATUS. -/
  | heartbeatCell (cell : BitVec 1024)
  /-- HB_W_PULSE (R303): A pulse on the heartbeat pair is received and classed as heartbeat, DEMOTE or none. -/
  | hbWPulse (widthNs : BitVec 16) (positive : Bool)
  /-- HEARTBEAT_PATH_LOSS (R303): A heartbeat path is lost for PTN_HB_FRAMES frames and HEARTBEAT_L or HEARTBEAT_W latches. -/
  | heartbeatPathLoss (wire : Bool)
  /-- PARTNER_FAILURE_DETECT (R304): Both heartbeat paths are lost in the same frames, so the partner has failed. -/
  | partnerFailureDetect
  /-- TOKEN_SHARE_TIMEOUT (R308): A claim not confirmed within 40 µs clears CLAIM and enters RESYNC with reason DEMOTED. -/
  | tokenShareTimeout
  /-- ORDER_CELL (R299): An ORDER cell of order records arrives at the STANDBY module. -/
  | orderCell (cell : BitVec 1024)
  /-- SENSE_CELL (R297): A SENSE cell of forwarded sample sets arrives. -/
  | senseCell (cell : BitVec 1024)
  /-- LINK_CELL (R297): A LINK cell of forwarded card or feeder uplinks and identity reads arrives. -/
  | linkCell (cell : BitVec 1024)
  /-- CAN_CELL (R297): A CAN cell of forwarded rectifier and monitor frames arrives. -/
  | canCell (cell : BitVec 1024)
  /-- EPOCH_END (R300): An EPOCH_END cell closes an epoch with its digests, correction and wrap data. -/
  | epochEnd (cell : BitVec 1024)
  /-- BULK_CELL (R297): A BULK cell delivers part of a forwarded page, container, candidate, state, commit or snapshot. -/
  | bulkCell (cell : BitVec 1024)
  /-- ACK_CELL (R221): An ACK cell reports the STANDBY module's completion and outcome for a BULK object. -/
  | ackCell (cell : BitVec 1024)
  /-- NAK_CELL (R298): A NAK cell names missing CELL_SEQ values and the sender resends them. -/
  | nakCell (cell : BitVec 1024)
  /-- FETCH_CELL (R301): A FETCH cell asks the ACTIVE module for a ticket, which it answers with a TICKET cell. -/
  | fetchCell (cell : BitVec 1024)
  /-- TICKET_CELL (R301): A TICKET cell delivers a ticket that the STANDBY module lacked. -/
  | ticketCell (cell : BitVec 1024)
  /-- DEMOTE_CELL (R305): A DEMOTE cell on path L makes the ACTIVE module clear CLAIM and enter RESYNC. -/
  | demoteCell (cell : BitVec 1024)
  /-- SWITCH_CELL (R312): A SWITCH cell marks the cut position of the order for a planned switchover. -/
  | switchCell (cell : BitVec 1024)
  /-- RESYNC_CELL (R315): A RESYNC cell carries the stage and reason of resynchronisation. -/
  | resyncCell (cell : BitVec 1024)
  /-- STANDBY_EPOCH_EXECUTE (R301): The STANDBY module executes a forwarded epoch on its own datapaths in the forwarded order. -/
  | standbyEpochExecute
  /-- STANDBY_FALL_BEHIND (R301): Epoch data still missing 2 µs before the deadline sends the STANDBY module to RESYNC and latches PARTNER_LINK. -/
  | standbyFallBehind
  /-- FETCH_TIMEOUT (R301): No matching ticket 1 µs after a record arrives, so the STANDBY module sends FETCH. -/
  | fetchTimeout
  /-- PARTNER_LINK_LOSS (R302): No good Coupler cell for 3 frames latches PARTNER_LINK. -/
  | partnerLinkLoss
  /-- PARTNER_LANE_SILENCE (R302): After 100 ms without a good cell, Coupler traffic moves to lane 9 and LANE_SPARED latches. -/
  | partnerLaneSilence
  /-- PTN_SWITCHOVER_REQUEST (R312): A write to PTN_SWITCHOVER_REQUEST schedules a role exchange at the next step boundary. -/
  | ptnSwitchoverRequest (r : Req) (v : BitVec 8)
  /-- PTN_RESYNC_REQUEST (R314): A write to PTN_RESYNC_REQUEST starts resynchronisation of a RESYNC module. -/
  | ptnResyncRequest (r : Req) (v : BitVec 8)
  /-- RESYNC_COMPLETE (R315): Replay brings the lag to one frame and the resynchronised module becomes STANDBY. -/
  | resyncComplete
  /-- FAULT_EVENT (R318): An error line rises: the bit latches, a record queues, the event is counted and the class action runs. -/
  | faultEvent (bit : Fin 64) (source : BitVec 16) (data : BitVec 32)
  /-- FLT_STATUS_CLEAR (R324): A write of 1-bits to FLT_STATUS clears those whose lines are deasserted, answering BUSY if any remain. -/
  | fltStatusClear (r : Req) (v : BitVec 64)
  /-- FLT_PARTNER_CLEAR (R324): A write to FLT_PARTNER_CLEAR is forwarded and clears the named bits of the STANDBY module. -/
  | fltPartnerClear (r : Req) (v : BitVec 64)
  /-- BLANKING_WINDOW_CLOSE (R326): A blanking window closes, and a still-asserted level line produces a capped event. -/
  | blankingWindowClose (bit : Fin 64)
  /-- INJ_START (R328): A write to INJ_START opens an injection window and produces one event on every bit of INJ_MASK. -/
  | injStart (r : Req) (v : BitVec 8)
  /-- INJECTION_WINDOW_CLOSE (R329): The injection window closes, INJECT_CLOSE is recorded and asserted injected lines take full class action. -/
  | injectionWindowClose
  /-- FAULT_N_PULSE_END (R332): A FAULT_N pulse ends after FLTN_PULSE_MS and FAULT_N returns to FLTN_LEVEL. -/
  | faultNPulseEnd
  /-- DIE_THERMAL_SAMPLE (R321): Each 1 ms die temperature sample drives THERMAL_WARN and THERMAL_TRIP. -/
  | dieThermalSample (celsius : BitVec 8)
  /-- CLOCK_LOSS (R321): Loss of the reference oscillator or of PLL lock asserts CLOCK. -/
  | clockLoss
  /-- WATCHDOG_EXPIRY (R321): A control pair fails to refresh its watchdog within FLT_WATCHDOG_MS and WATCHDOG pulses. -/
  | watchdogExpiry (pair : Fin 14)
  /-- FABRIC_LANE_DOWN (R321): A fabric lane lacking block lock for FLT_LANE_DOWN_US asserts SERDES_FABRIC. -/
  | fabricLaneDown (lane : Fin 8)
  /-- LANE9_BLOCK_LOCK (R427): Lane 9 reaches block lock on its new far end and carries traffic from then on. -/
  | lane9BlockLock
  /-- GUARD_LOG_FLUSH (R337): A queued record is written to the primary and mirror rings as background work. -/
  | guardLogFlush (failA failB : Bool)
  /-- GL_CLEAR (R341): A write of 1 to GL_CLEAR empties both rings and the queue and writes LOG_CLEARED. -/
  | glClear (r : Req) (v : BitVec 8)
  /-- CTR_CLEAR (R342): A write to CTR_CLEAR sets the named counters to 0 at once. -/
  | ctrClear (r : Req) (v : BitVec 64)
  /-- DTLS_HANDSHAKE (R353): A ClientHello starts a DTLS 1.3 PSK handshake that opens a session or fails authentication. -/
  | dtlsHandshake (port : Fin 3) (identity : List Byte) (msg : DtlsMsg) (addr : List Byte)
  /-- HANDSHAKE_TIMEOUT (R353): A handshake not completed within 1 s is abandoned. -/
  | handshakeTimeout (k : Fin 8)
  /-- VOP_OPEN (R359): OPEN returns the session number, manager, port, token holder and next REQ_ID. -/
  | vopOpen (r : Req)
  /-- VOP_READ (R359): READ returns an object's value in force, or its staged value when asked. -/
  | vopRead (r : Req) (staged : Bool) (idx : BitVec 16) (sub : BitVec 8) (len : BitVec 16)
  /-- VOP_WRITE (R349): WRITE to an object without behaviour of its own stages it or applies it at the next epoch after the checks of R362. -/
  | vopWrite (r : Req) (idx : BitVec 16) (sub : BitVec 8) (data : List Byte)
  /-- VOP_READ_DOMAIN (R376): READ_DOMAIN returns bytes of a DOMAIN window. -/
  | vopReadDomain (r : Req) (staged : Bool) (idx : BitVec 16) (sub : BitVec 8) (off : BitVec 64) (len : BitVec 16)
  /-- VOP_WRITE_DOMAIN (R376): WRITE_DOMAIN stages or places bytes in a DOMAIN window without behaviour of its own. -/
  | vopWriteDomain (r : Req) (idx : BitVec 16) (sub : BitVec 8) (off : BitVec 64) (data : List Byte)
  /-- VOP_KEEPALIVE (R359): KEEPALIVE refreshes the session and the holder's token. -/
  | vopKeepalive (r : Req)
  /-- VOP_CLOSE (R359): CLOSE answers and then closes the session. -/
  | vopClose (r : Req)
  /-- VOP_DESCRIBE (R359): DESCRIBE returns the object's 8-byte descriptor. -/
  | vopDescribe (r : Req) (idx : BitVec 16) (sub : BitVec 8)
  /-- NOTIFY_SEND (R363): A NOTIFY of a changed watched object is sent to each session, at most once per 10 ms per object. -/
  | notifySend (k : Fin 8) (obj : Fin 5)
  /-- REQ_ID_HOLD_TIMEOUT (R360): A held request's predecessor does not arrive within 50 ms and the session closes. -/
  | reqIdHoldTimeout (k : Fin 8)
  /-- SESSION_TIMEOUT (R357): A session with no authenticated message for MGMT_SESSION_TIMEOUT_S closes. -/
  | sessionTimeout (k : Fin 8)
  /-- MGMT_LINK_CHANGE (R352): A management port reaches or loses link and MGMT_LINK follows. -/
  | mgmtLinkChange (port : Fin 2) (up : Bool)
  /-- SESSION_LINK_DOWN (R357): A port down for 1 s closes every session bound to it. -/
  | sessionLinkDown (port : Fin 2)
  /-- TOKEN_HOLDER_WRITE (R364): A write to TOKEN_HOLDER acquires or releases the single-line token, discarding staged values on release. -/
  | tokenHolderWrite (r : Req) (v : BitVec 8)
  /-- TOKEN_LAPSE (R366): The token lapses on link or keep-alive loss, discarding staged values and latching TOKEN_LAPSE. -/
  | tokenLapse
  /-- STG_COMMIT (R370): A write to STG_COMMIT validates and accepts or refuses every staged value of the named groups together. -/
  | stgCommit (r : Req) (v : BitVec 8)
  /-- STG_DISCARD (R374): A write to STG_DISCARD discards the staged values of the named groups. -/
  | stgDiscard (r : Req) (v : BitVec 8)
  /-- COMMIT_ACK_TIMEOUT (R371): No acknowledgement of a forwarded commit in 100 ms: the ACTIVE module applies it alone, sends RESYNC and latches OD_COMMIT. -/
  | commitAckTimeout
  /-- STG_RESTORE_DEFAULTS (R351): A write to STG_RESTORE_DEFAULTS in COMMISSION returns persistent objects to their defaults, keys excepted. -/
  | stgRestoreDefaults (r : Req) (v : BitVec 8)
  /-- POWER_ON_RESET (R411): An AUX input within range releases the power-on reset and the ROM starts. -/
  | powerOnReset (slotB : Bool)
  /-- BOOT_COMPLETE (R387): Persisted objects load and the module leaves BOOT for SAFE, COMMISSION or STOP. -/
  | bootComplete (lostA lostB : Bool) (pairsPass : BitVec 14)
  /-- IMAGE_CONFIRM (R388): A TRIAL image becomes GOOD after BOOT_CONFIRM_S without a C3 event, applying key revocations and the SVN advance. -/
  | imageConfirm
  /-- CUSTOMER_IMAGE_CONFIRM (R393): A customer image that runs BOOT_CONFIRM_S without APP_CORE is confirmed and may raise APP_SVN_FLOOR. -/
  | customerImageConfirm
  /-- GUEST_START_TIMEOUT (R393): A guest that fails to reach running within 60 s three times falls back to another slot or the board support package. -/
  | guestStartTimeout
  /-- CONTROL_PAIR_LOCKSTEP (R391): A working control pair fails lockstep, halts and suspends its tasks until a spare pair resumes them. -/
  | controlPairLockstep (pair : Fin 14)
  /-- PAIR_RESUME (R391): A spare control pair resumes the failed pair's tasks from the checkpoint. -/
  | pairResume
  /-- APP_CORE_EXCEPTION (R394): An exception taken by the monitor latches APP_CORE and restarts the guest. -/
  | appCoreException
  /-- GUEST_WATCHDOG_LAPSE (R394): The guest watchdog lapses after 10 s, APP_CORE latches and the guest restarts. -/
  | guestWatchdogLapse
  /-- APP_RESTART_REQUEST (R394): A write to APP_RESTART_REQUEST restarts the guest and latches APP_CORE. -/
  | appRestartRequest (r : Req) (v : BitVec 8)
  /-- UPD_BEGIN (R395): BEGIN erases the inactive slot of the image's KIND. -/
  | updBegin (r : Req)
  /-- UPD_ERASE_COMPLETE (R395): The inactive slot is erased and the update enters RECEIVING. -/
  | updEraseComplete
  /-- UPD_WINDOW_WRITE (R395): A write to UPD_WINDOW places image bytes in ascending order and forwards them. -/
  | updWindowWrite (r : Req) (off : BitVec 64) (data : List Byte)
  /-- UPD_VERIFY (R385): VERIFY starts the image checks of R385. -/
  | updVerify (r : Req)
  /-- UPD_VERIFY_COMPLETE (R385): Image verification ends VERIFIED or REFUSED with its reason. -/
  | updVerifyComplete
  /-- UPD_CANCEL (R395): CANCEL abandons the image load. -/
  | updCancel (r : Req)
  /-- ACTIVATE_PARTNER (R397): ACTIVATE_PARTNER is forwarded, and the partner activates its verified image from STANDBY. -/
  | activatePartner (r : Req)
  /-- ACTIVATE_SELF (R397): ACTIVATE_SELF makes the verified slot preferred and TRIAL and resets the module, after a switchover where required. -/
  | activateSelf (r : Req)
  /-- ATT_REQUEST (R399): A write to ATT_REQUEST reserves the next leaf in both MRAM copies, or is refused. -/
  | attRequest (r : Req) (v : BitVec 8) (ok : Bool × Bool)
  /-- ATT_SIGN_COMPLETE (R400): The attestation report is signed and placed in ATT_REPORT_WINDOW. -/
  | attSignComplete
  /-- AGEING_MONITOR (R403): An ageing monitor runs at its interval and records AGEING_THRESHOLD when over its threshold. -/
  | ageingMonitor (n : Fin 5) (reading : AgeReading)
  /-- AUX_INPUT_FAULT (R410): An AUX input out of range for 100 µs asserts AUX1_IN or AUX2_IN. -/
  | auxInputFault (n : Fin 2)
  /-- AUX_OVERVOLTAGE (R409): An AUX input above 76 V is disconnected from the bulk, to be reconnected after 100 ms at or below 74 V. -/
  | auxOvervoltage (n : Fin 2)
  /-- POWER_FAIL_WARNING (R412): The bulk below 50 V for 20 µs stops heartbeats and drivers and flushes the log and persistent values before stopping. -/
  | powerFailWarning
  /-- POWER_RESTART (R413): After a warning, an input back in range for 100 ms restarts the module as at power-up. -/
  | powerRestart
  /-- AUX_INPUT_RETURN (R410): An AUX input that has stayed within 55.0–71.0 V for 100 ms deasserts its AUX1_IN or AUX2_IN line. -/
  | auxInputReturn (n : Fin 2)
  /-- AUX_RECONNECT (R409): An AUX input disconnected for overvoltage is reconnected to the bulk once it has stayed at or below 74 V for 100 ms. -/
  | auxReconnect (n : Fin 2)
  /-- HOLD_UP_END (R412): The bulk reaches 36 V after a power-fail warning and the module stops, every shared contact high-impedance and FAULT_N released. -/
  | holdUpEnd
  /-- FABRIC_LANE_BLOCK_LOCK (R321): A fabric lane 0–7 regains block lock and its SERDES_FABRIC condition ends. -/
  | fabricLaneBlockLock (lane : Fin 8)
  /-- CLOCK_LOCK_REGAINED (R321): The reference oscillator returns and every die PLL regains lock, so the CLOCK level line deasserts. -/
  | clockLockRegained
  /-- CAN_BUS_RECOVERY (R265): A CAN FD bus returns from error-passive or bus-off to error-active, ending that CAN_RECT or CAN_BMS condition. -/
  | canBusRecovery (bus : Fin 2)
  /-- BACKGROUND_PASS_COMPLETE (R173): An engine background activity such as HBM patrol scrub or SRAM scrub completes a full pass, resetting its age in ENG_BG_AGE_S. -/
  | backgroundPassComplete (pass : BgPass)
  /-- PERSISTENT_WRITE_COMPLETE (R350): A persistent-value transaction to MRAM A and B completes with its commit marker, or fails in both copies and pulses OD_COMMIT. -/
  | persistentWriteComplete (okA okB : Bool)
  /-- ALL_FIRE_HELD_START (R138): A trigger held during the separating regular frame starts a new all-fire frame when that regular frame ends. -/
  | allFireHeldStart
  /-- CARD_DOWNLINK_REPEAT (R307): At a PWM period above 10 µs, each module repeats its last card downlink frame midway between frames. -/
  | cardDownlinkRepeat (card : Fin 25)
  deriving DecidableEq, Repr

end Sys2Proof
end

