-- ==== Sys2Proof/Decode.lean ====
section
/-! DEFINITION. The block has no instruction words: the rows of its table carry no bits, so no word spells a command. -/

namespace Sys2Proof

/-- The command that a word spells: none, since no row of the table gives bits. -/
def decodeTableWord (_nbits _w : Nat) : Option Instr := none

end Sys2Proof
end

