-- ==== Sys2Proof/Machine/Bits.lean ====
section
/-! DEFINITION. The check fields of R434: CRC-16 with polynomial 0x1021 and CRC-32 of IEEE 802.3. -/

namespace Sys2Proof

/-- A CRC register shifted over bytes in order. Each round looks at the register, so that evaluation settles it byte by
byte. -/
def crcOver (f : Nat → Byte → Nat) : Nat → List Byte → Nat
  | c, [] => c
  | c, b :: r => if c = 0 then crcOver f (f 0 b) r else crcOver f (f c b) r

/-- One bit of the CRC-16 register. -/
def crc16Bit (c : Nat) : Nat :=
  if c.testBit 15 then ((c <<< 1) ^^^ 0x1021) % 65536 else (c <<< 1) % 65536

/-- One byte, most significant bit first. -/
def crc16Byte (c : Nat) (b : Byte) : Nat :=
  crc16Bit (crc16Bit (crc16Bit (crc16Bit (crc16Bit (crc16Bit (crc16Bit (crc16Bit (c ^^^ (b.toNat <<< 8)))))))))

/-- R434: CRC-16, initial value 0xFFFF, no reflection and no final XOR. -/
def crc16 (l : List Byte) : Nat := crcOver crc16Byte 0xFFFF l

/-- One bit of the reflected CRC-32 register. -/
def crc32Bit (c : Nat) : Nat :=
  if c.testBit 0 then (c >>> 1) ^^^ 0xEDB88320 else c >>> 1

/-- One byte, least significant bit first. -/
def crc32Byte (c : Nat) (b : Byte) : Nat :=
  crc32Bit (crc32Bit (crc32Bit (crc32Bit (crc32Bit (crc32Bit (crc32Bit (crc32Bit (c ^^^ b.toNat))))))))

/-- R434: the CRC-32 of IEEE 802.3. -/
def crc32 (l : List Byte) : Nat := crcOver crc32Byte 0xFFFFFFFF l ^^^ 0xFFFFFFFF

/-- The sum of 16-bit words, the last padded with a zero byte. -/
def sum16 : List Byte → Nat
  | a :: b :: r => a.toNat * 256 + b.toNat + sum16 r
  | [a] => a.toNat * 256
  | [] => 0

/-- A datagram's UDP checksum over IPv6 holds: the ones' complement sum over the two addresses that `ip` begins with, the
length `n`, the protocol and the datagram's `n` bytes. -/
def udpSumOk (ip udp : List Byte) (n : Nat) : Bool :=
  let sum := sum16 (ip.take 32) + n + 17 + sum16 (udp.take n)
  decide (8 ≤ n ∧ n ≤ udp.length ∧ sum16 ((udp.drop 6).take 2) ≠ 0 ∧ sum ≠ 0 ∧ sum % 65535 = 0)

/-- The bytes of a bit vector, the most significant first. -/
def bvBytes {n : Nat} (x : BitVec n) : List Byte := toBytes (n / 8) x.toNat

/-- How many of the bits below `n` are set in `x`. -/
def popBelow (x : Nat) : Nat → Nat
  | 0 => 0
  | n + 1 => popBelow x n + (if x.testBit n then 1 else 0)

/-- The numbers of the bits below `n` that are set in `x`, lowest first. -/
def bitsBelow (x n : Nat) : List Nat := (List.range n).filter fun i => x.testBit i

/-- A Boolean as 0 or 1. -/
def b2n (b : Bool) : Nat := if b then 1 else 0

end Sys2Proof
end

