-- ==== Sys2Proof/Machine/Fp.lean ====
section
/-! DEFINITION. IEEE 754 binary16 and binary32 values with exact arithmetic before one rounding to nearest even
(R38, R52, R184, R189). -/

namespace Sys2Proof

/-- A binary floating-point value: sign, magnitude `m` and exponent of its least significant bit, or infinity or NaN. -/
inductive Fv where
  | nan
  | inf (neg : Bool)
  | fin (neg : Bool) (m : Nat) (e : Int)
  deriving DecidableEq, Repr

/-- The value a word of a binary format with `p` significant and `x` exponent bits holds. -/
def fpDecode (p x : Nat) (w : Nat) : Fv :=
  let frac := w % 2 ^ (p - 1)
  let ex := (w >>> (p - 1)) % 2 ^ x
  let neg := w.testBit (p - 1 + x)
  let qmin : Int := 3 - (2 : Int) ^ (x - 1) - p
  if ex = 2 ^ x - 1 then (if frac = 0 then .inf neg else .nan)
  else if ex = 0 then .fin neg frac qmin
  else .fin neg (frac + 2 ^ (p - 1)) (qmin + ex - 1)

/-- `m * 2^e` rounded to the nearest even multiple of `2^q`, as a count of `2^q`. -/
def roundEven (m : Nat) (e q : Int) : Nat :=
  if q ≤ e then m <<< (e - q).toNat
  else
    let k := (q - e).toNat
    let t := m >>> k
    let r := m % 2 ^ k
    if r * 2 > 2 ^ k ∨ (r * 2 = 2 ^ k ∧ t % 2 = 1) then t + 1 else t

/-- The word of a value rounded to nearest even; a magnitude past the largest finite value gives infinity, and a NaN
gives the quiet NaN with a zero payload. -/
def fpEncode (p x : Nat) : Fv → Nat
  | .nan => ((2 ^ x - 1) <<< (p - 1)) + 2 ^ (p - 2)
  | .inf neg => (if neg then 2 ^ (p - 1 + x) else 0) + ((2 ^ x - 1) <<< (p - 1))
  | .fin neg m e =>
    let s := if neg then 2 ^ (p - 1 + x) else 0
    if m = 0 then s
    else
      let qmin : Int := 3 - (2 : Int) ^ (x - 1) - p
      let q := max (e + Nat.log2 m - (p - 1 : Nat)) qmin
      let t := roundEven m e q
      let w := (q - qmin).toNat * 2 ^ (p - 1) + t
      if (2 ^ x - 1) <<< (p - 1) ≤ w then s + ((2 ^ x - 1) <<< (p - 1)) else s + w

/-- binary16 to value. -/
def f16 (w : Nat) : Fv := fpDecode 11 5 w
/-- binary32 to value. -/
def f32 (w : Nat) : Fv := fpDecode 24 8 w
/-- Value to binary16. -/
def toF16 (v : Fv) : Nat := fpEncode 11 5 v
/-- Value to binary32. -/
def toF32 (v : Fv) : Nat := fpEncode 24 8 v
/-- A value rounded to binary32. -/
def r32 (v : Fv) : Fv := f32 (toF32 v)

/-- Exact sum of two finite values as `m * 2^e`. -/
def Fv.addExact (a b : Fv) : Fv :=
  match a, b with
  | .nan, _ => .nan
  | _, .nan => .nan
  | .inf n, .inf k => if n = k then .inf n else .nan
  | .inf n, _ => .inf n
  | _, .inf n => .inf n
  | .fin n m e, .fin k l f =>
    let g := min e f
    let x : Int := (m <<< (e - g).toNat : Nat)
    let y : Int := (l <<< (f - g).toNat : Nat)
    let z := (if n then -x else x) + (if k then -y else y)
    .fin (if z = 0 then n && k else decide (z < 0)) z.natAbs g

/-- The value with its sign turned. -/
def Fv.neg : Fv → Fv
  | .nan => .nan
  | .inf n => .inf !n
  | .fin n m e => .fin (!n) m e

/-- The magnitude. -/
def Fv.abs : Fv → Fv
  | .nan => .nan
  | .inf _ => .inf false
  | .fin _ m e => .fin false m e

/-- Exact product. -/
def Fv.mulExact (a b : Fv) : Fv :=
  match a, b with
  | .nan, _ => .nan
  | _, .nan => .nan
  | .inf n, .inf k => .inf (n != k)
  | .inf n, .fin k m _ => if m = 0 then .nan else .inf (n != k)
  | .fin k m _, .inf n => if m = 0 then .nan else .inf (n != k)
  | .fin n m e, .fin k l f => .fin (n != k) (m * l) (e + f)

/-- binary32 sum. -/
def Fv.add32 (a b : Fv) : Fv := r32 (a.addExact b)
/-- binary32 difference. -/
def Fv.sub32 (a b : Fv) : Fv := r32 (a.addExact b.neg)
/-- binary32 product. -/
def Fv.mul32 (a b : Fv) : Fv := r32 (a.mulExact b)

/-- An integer as an exact value. -/
def Fv.ofInt (x : Int) : Fv := .fin (decide (x < 0)) x.natAbs 0

/-- Whether the value is a NaN. -/
def Fv.isNan : Fv → Bool
  | .nan => true
  | _ => false
/-- Whether the value is infinite. -/
def Fv.isInf : Fv → Bool
  | .inf _ => true
  | _ => false
/-- Whether the value lies below 0. -/
def Fv.isNeg : Fv → Bool
  | .nan => false
  | .inf n => n
  | .fin n m _ => n && decide (m ≠ 0)

/-- A rational `n / d` (`d` above 0) as a value with a sticky last bit, exact enough for one rounding to `p` bits. -/
def Fv.ofRat (p : Nat) (n : Int) (d : Nat) : Fv :=
  if n = 0 then .fin false 0 0
  else
    let a := n.natAbs
    let k := p + 4 + Nat.log2 d - Nat.log2 a
    let t := (a <<< k) / d
    let st := if (a <<< k) % d = 0 then 0 else 1
    .fin (decide (n < 0)) (2 * t + st) (-(k : Int) - 1)

/-- The greatest integer at most `v * k`, for a finite value; 0 otherwise. -/
def Fv.floorMul (v : Fv) (k : Int) : Int :=
  match v with
  | .fin n m e =>
    let x : Int := (if n then -(m : Int) else (m : Int)) * k
    if 0 ≤ e then x * 2 ^ e.toNat else x / 2 ^ (-e).toNat
  | _ => 0

/-- A binary16 power in kW as watts rounded toward minus infinity (R38). -/
def kwFloorW (w : Nat) : Int := (f16 w).floorMul 1000

end Sys2Proof
end

