-- ==== Sys2Proof/Machine/Objects.lean ====
section
/-! DEFINITION. The object dictionary's rows: one `ObjDef` per row of the object tables of the chapters
(Tables 2.7, 3.11, 4.9, 5.10, 6.13, 8.13, 9.11, 10.17, 11.10, 12.11, 13.10 and 14.13), with index, subindex, type,
access code, default, range, persistence and commit group (R347 to R350, R368). -/

namespace Sys2Proof

/-- Table 13.1: object types; a Qm.n type carries m and n. -/
inductive ObjTy where
  | bool | u8 | u16 | u32 | u64 | i8 | i16 | i32 | i64 | str | domain
  | q (m n : Nat)
  deriving DecidableEq, Repr

/-- R8, R349: access codes. -/
inductive Access where
  | ro | rw | wo | rws
  deriving DecidableEq, Repr

/-- The range column of an object table. `bits m`: a set bit outside `m` is a reserved bit (R9). -/
inductive Rng where
  | any
  | btw (lo hi : Int)
  | bits (mask : Nat)
  | oneOf (l : List Nat)
  | mult (lo hi step : Nat)
  | sources
  | mac
  deriving DecidableEq, Repr

/-- One row of an object table: `insts` consecutive indices from `index`, `subs` consecutive subindices from `sub`;
`dflt` lists the defaults by instance (the last entry repeats), `size` is the bytes of a scalar, the most of a string
or the size of a window, `group` the bit of Table 13.6. -/
structure ObjDef where
  index   : Nat
  insts   : Nat
  sub     : Nat
  subs    : Nat
  ty      : ObjTy
  acc     : Access
  size    : Nat
  dflt    : List Nat
  range   : Rng
  persist : Bool
  group   : Option Nat
  deriving DecidableEq, Repr

/-- The key of instance `i`, subindex position `j`. -/
def ObjDef.key (o : ObjDef) (i j : Nat) : Nat := (o.index + i) * 256 + o.sub + j

/-- The default of instance `i`, subindex position `j` (R350). -/
def ObjDef.default (o : ObjDef) (i j : Nat) : Nat :=
  o.dflt.getD (i * o.subs + j) (o.dflt.getLastD 0)

/-- Whether index and subindex fall in the row. -/
def ObjDef.covers (o : ObjDef) (idx sub : Nat) : Bool :=
  decide (o.index ≤ idx ∧ idx < o.index + o.insts ∧ o.sub ≤ sub ∧ sub < o.sub + o.subs)

/-- 0x2000.00: 0 SEARCH, 1 TRACK, 2 LOCKED, 3 HOLDOVER, 4 APERIODIC -/
def Obj.TRK_STATE : ObjDef :=
  ⟨0x2000, 1, 0, 1, .u8, .ro, 1, [0], .btw (0) 4, false, none⟩
/-- 0x2001.00: Event sources per R26; P -/
def Obj.TRK_SOURCE : ObjDef :=
  ⟨0x2001, 1, 0, 1, .u8, .rw, 1, [2], .btw (0) 2, true, none⟩
/-- 0x2002.00: Width code per R34; P, G -/
def Obj.TRK_BIN_WIDTH : ObjDef :=
  ⟨0x2002, 1, 0, 1, .u8, .rws, 1, [0], .btw (0) 7, true, some 3⟩
/-- 0x2003.00: Current step number -/
def Obj.TRK_STEP_NUMBER : ObjDef :=
  ⟨0x2003, 1, 0, 1, .u16, .ro, 2, [0], .btw (0) 65535, false, none⟩
/-- 0x2004.00: Current bin -/
def Obj.TRK_BIN : ObjDef :=
  ⟨0x2004, 1, 0, 1, .u32, .ro, 4, [0], .btw (0) 262143, false, none⟩
/-- 0x2005.00: N of the current step -/
def Obj.TRK_BIN_COUNT : ObjDef :=
  ⟨0x2005, 1, 0, 1, .u32, .ro, 4, [0x3D090], .btw (1) 262144, false, none⟩
/-- 0x2006.00: Period estimate, ns; 0 while unknown -/
def Obj.TRK_PERIOD_NS : ObjDef :=
  ⟨0x2006, 1, 0, 1, .u64, .ro, 8, [0], .any, false, none⟩
/-- 0x2007.00: Actual bin duration d, ns, unsigned per R31 -/
def Obj.TRK_BIN_DURATION : ObjDef :=
  ⟨0x2007, 1, 0, 1, .q 18 14, .ro, 4, [0x3E80000], .any, false, none⟩
/-- 0x2008.00: Error e of the last accepted event -/
def Obj.TRK_PHASE_ERROR_NS : ObjDef :=
  ⟨0x2008, 1, 0, 1, .i32, .ro, 4, [0], .any, false, none⟩
/-- 0x2009.00: Missed-event count in HOLDOVER -/
def Obj.TRK_MISSED : ObjDef :=
  ⟨0x2009, 1, 0, 1, .u8, .ro, 1, [0], .btw (0) 9, false, none⟩
/-- 0x200A.00: Lock tolerance, bins; P -/
def Obj.TRK_LOCK_TOL : ObjDef :=
  ⟨0x200A, 1, 0, 1, .u16, .rw, 2, [2], .btw (1) 64, true, none⟩
/-- 0x200B.00: Capture half-window, bins; P -/
def Obj.TRK_CAPTURE_BINS : ObjDef :=
  ⟨0x200B, 1, 0, 1, .u16, .rw, 2, [256], .btw (16) 8192, true, none⟩
/-- 0x200C.00: Distinct MARKER senders per event; P -/
def Obj.TRK_MARKER_QUORUM : ObjDef :=
  ⟨0x200C, 1, 0, 1, .u8, .rw, 1, [4], .btw (1) 16, true, none⟩
/-- 0x200D.00: Latency subtracted from MARKER events; P -/
def Obj.TRK_MARKER_LATENCY_NS : ObjDef :=
  ⟨0x200D, 1, 0, 1, .u16, .rw, 2, [1000], .btw (0) 4000, true, none⟩
/-- 0x200E.01: Phase gain shift of R31; P -/
def Obj.TRK_KP_SHIFT : ObjDef :=
  ⟨0x200E, 1, 1, 1, .u8, .rw, 1, [2], .btw (0) 8, true, none⟩
/-- 0x200E.02: Period gain shift of R31; P -/
def Obj.TRK_KI_SHIFT : ObjDef :=
  ⟨0x200E, 1, 2, 1, .u8, .rw, 1, [4], .btw (0) 12, true, none⟩
/-- 0x200F.01: Least accepted event spacing; P, G; at most sub 02 -/
def Obj.TRK_PERIOD_MIN_MS : ObjDef :=
  ⟨0x200F, 1, 1, 1, .u16, .rws, 2, [100], .btw (100) 16777, true, some 3⟩
/-- 0x200F.02: Greatest accepted event spacing; P, G -/
def Obj.TRK_PERIOD_MAX_MS : ObjDef :=
  ⟨0x200F, 1, 2, 1, .u16, .rws, 2, [16777], .btw (100) 16777, true, some 3⟩
/-- 0x2010.00: SEARCH time before APERIODIC, s; P -/
def Obj.TRK_SEARCH_LIMIT_S : ObjDef :=
  ⟨0x2010, 1, 0, 1, .u16, .rw, 2, [30], .btw (5) 600, true, none⟩
/-- 0x2011.00: Missed steps allowed in HOLDOVER; P -/
def Obj.TRK_HOLDOVER_MAX : ObjDef :=
  ⟨0x2011, 1, 0, 1, .u8, .rw, 1, [8], .btw (1) 8, true, none⟩
/-- 0x2012.00: Early-ticket window of R50; P -/
def Obj.TRK_EARLY_WINDOW_NS : ObjDef :=
  ⟨0x2012, 1, 0, 1, .u16, .rw, 2, [4000], .btw (0) 4000, true, none⟩
/-- 0x2013.00: Learned load offset -/
def Obj.TRK_LOAD_OFFSET_NS : ObjDef :=
  ⟨0x2013, 1, 0, 1, .i32, .ro, 4, [0], .any, false, none⟩
/-- 0x2014.00: Steps since the last entry to LOCKED -/
def Obj.TRK_STEPS_LOCKED : ObjDef :=
  ⟨0x2014, 1, 0, 1, .u32, .ro, 4, [0], .any, false, none⟩
/-- 0x2020.00: 0 page A, 1 page B -/
def Obj.TT_LIVE_PAGE : ObjDef :=
  ⟨0x2020, 1, 0, 1, .u8, .ro, 1, [0], .btw (0) 1, false, none⟩
/-- 0x2021.00: Per R45 -/
def Obj.TT_SHADOW_STATE : ObjDef :=
  ⟨0x2021, 1, 0, 1, .u8, .ro, 1, [1], .btw (0) 2, false, none⟩
/-- 0x2022.01: Shadow header bin count; G -/
def Obj.TT_SHADOW_BIN_COUNT : ObjDef :=
  ⟨0x2022, 1, 1, 1, .u32, .rws, 4, [0], .btw (0) 262144, false, some 3⟩
/-- 0x2022.02: Shadow header width code, 1–7; 0 = none; G -/
def Obj.TT_SHADOW_BIN_WIDTH : ObjDef :=
  ⟨0x2022, 1, 2, 1, .u8, .rws, 1, [0], .btw (0) 7, false, some 3⟩
/-- 0x2022.03: Increments at each accepted commit -/
def Obj.TT_SHADOW_SEQUENCE : ObjDef :=
  ⟨0x2022, 1, 3, 1, .u32, .ro, 4, [0], .any, false, none⟩
/-- 0x2023.01: Live header bin count; 0 = no live page -/
def Obj.TT_LIVE_BIN_COUNT : ObjDef :=
  ⟨0x2023, 1, 1, 1, .u32, .ro, 4, [0], .btw (0) 262144, false, none⟩
/-- 0x2023.02: Live header width code -/
def Obj.TT_LIVE_BIN_WIDTH : ObjDef :=
  ⟨0x2023, 1, 2, 1, .u8, .ro, 1, [0], .btw (0) 7, false, none⟩
/-- 0x2023.03: Sequence of the live page -/
def Obj.TT_LIVE_SEQUENCE : ObjDef :=
  ⟨0x2023, 1, 3, 1, .u32, .ro, 4, [0], .any, false, none⟩
/-- 0x2024.00: Shadow writer per R43; P, G -/
def Obj.TT_WRITER : ObjDef :=
  ⟨0x2024, 1, 0, 1, .u8, .rws, 1, [0], .btw (0) 1, true, some 3⟩
/-- 0x2025.00: MAINT bin interval per R39; P, G -/
def Obj.TT_MAINT_INTERVAL : ObjDef :=
  ⟨0x2025, 1, 0, 1, .u16, .rws, 2, [256], .btw (16) 65535, true, some 3⟩
/-- 0x2026.00: FAST_SHARE of synthesised rows; P, G -/
def Obj.TT_FALLBACK_SHARE : ObjDef :=
  ⟨0x2026, 1, 0, 1, .u8, .rws, 1, [128], .btw (0) 128, true, some 3⟩
/-- 0x2027.00: Consecutive bins for R40; P, G -/
def Obj.TT_EXCURSION_BINS : ObjDef :=
  ⟨0x2027, 1, 0, 1, .u16, .rws, 2, [16], .btw (1) 4096, true, some 3⟩
/-- 0x2028.00: Synthesised rows in use -/
def Obj.TT_SYNTH_ACTIVE : ObjDef :=
  ⟨0x2028, 1, 0, 1, .bool, .ro, 1, [1], .btw 0 1, false, none⟩
/-- 0x2029.01: Code of the last refused commit -/
def Obj.TT_REFUSAL_CODE : ObjDef :=
  ⟨0x2029, 1, 1, 1, .u8, .ro, 1, [0], .any, false, none⟩
/-- 0x2029.02: First failing row -/
def Obj.TT_REFUSAL_ROW : ObjDef :=
  ⟨0x2029, 1, 2, 1, .u32, .ro, 4, [0], .btw (0) 262143, false, none⟩
/-- 0x202A.00: Page swaps since power-up -/
def Obj.TT_SWAP_COUNT : ObjDef :=
  ⟨0x202A, 1, 0, 1, .u32, .ro, 4, [0], .any, false, none⟩
/-- 0x202B.00: Steps in which R40 acted -/
def Obj.TT_EXCURSION_STEPS : ObjDef :=
  ⟨0x202B, 1, 0, 1, .u32, .ro, 4, [0], .any, false, none⟩
/-- 0x2030.00: Learning shift a of R52; P -/
def Obj.SIG_RATE_SHIFT : ObjDef :=
  ⟨0x2030, 1, 0, 1, .u8, .rw, 1, [3], .btw (0) 8, true, none⟩
/-- 0x2031.00: 1 stops learning -/
def Obj.SIG_FREEZE : ObjDef :=
  ⟨0x2031, 1, 0, 1, .bool, .rw, 1, [0], .btw 0 1, false, none⟩
/-- 0x2032.00: Steps learned since the last reset -/
def Obj.SIG_STEPS_LEARNED : ObjDef :=
  ⟨0x2032, 1, 0, 1, .u32, .ro, 4, [0], .any, false, none⟩
/-- 0x3010.00: Shadow rows; byte offset = row × 16 -/
def Obj.TT_SHADOW_WINDOW : ObjDef :=
  ⟨0x3010, 1, 0, 1, .domain, .rw, 4194304, [0], .any, false, none⟩
/-- 0x3011.00: Live rows; writes refused with ACTIVE_PAGE -/
def Obj.TT_LIVE_WINDOW : ObjDef :=
  ⟨0x3011, 1, 0, 1, .domain, .ro, 4194304, [0], .any, false, none⟩
/-- 0x3020.00: Signature entries per R51 -/
def Obj.SIG_WINDOW : ObjDef :=
  ⟨0x3020, 1, 0, 1, .domain, .ro, 67108864, [0], .any, false, none⟩
/-- 0x2101.00: Protocol version of the module -/
def Obj.TKT_VERSION : ObjDef :=
  ⟨0x2101, 1, 0, 1, .u8, .ro, 1, [16], .any, false, none⟩
/-- 0x2102.01: 0 Ethertype, 1 UDP/IPv6; P -/
def Obj.TKT_ENCAP : ObjDef :=
  ⟨0x2102, 1, 1, 1, .u8, .rw, 1, [0], .btw (0) 1, true, none⟩
/-- 0x2102.02: Ethertype of bundles; P -/
def Obj.TKT_ETHERTYPE : ObjDef :=
  ⟨0x2102, 1, 2, 1, .u16, .rw, 2, [34997], .btw (1536) 65535, true, none⟩
/-- 0x2102.03: UDP port of bundles; P -/
def Obj.TKT_UDP_PORT : ObjDef :=
  ⟨0x2102, 1, 3, 1, .u16, .rw, 2, [47040], .btw (1024) 65535, true, none⟩
/-- 0x2102.04: Ticket group address, Ethertype mode; P -/
def Obj.TKT_GROUP_MAC : ObjDef :=
  ⟨0x2102, 1, 4, 1, .u64, .rw, 8, [0x30000960001], .mac, true, none⟩
/-- 0x2102.05: Ticket group address, UDP mode; P -/
def Obj.TKT_GROUP_IPV6 : ObjDef :=
  ⟨0x2102, 1, 5, 1, .domain, .rw, 16, [0], .any, true, none⟩
/-- 0x2102.06: 0 untagged; otherwise VLAN ID; P -/
def Obj.TKT_VLAN : ObjDef :=
  ⟨0x2102, 1, 6, 1, .u16, .rw, 2, [0], .btw (0) 4094, true, none⟩
/-- 0x2103.00: Shelf identity prefixed in tags; P -/
def Obj.TKT_SHELF_ID : ObjDef :=
  ⟨0x2103, 1, 0, 1, .u64, .rw, 8, [0], .any, true, none⟩
/-- 0x2104.00: Bit t enables tickets from tray t; P, G -/
def Obj.TKT_TRAY_ENABLE : ObjDef :=
  ⟨0x2104, 1, 0, 1, .u64, .rws, 8, [0xFFFFFFFFFFFFFFFF], .any, true, some 2⟩
/-- 0x2105.00: Free slope, mW/µs; P, G -/
def Obj.TKT_FREE_SLOPE : ObjDef :=
  ⟨0x2105, 1, 0, 1, .u16, .rws, 2, [250], .btw (0) 4000, true, some 2⟩
/-- 0x2106.00: Floor before any REPORT, W; P, G -/
def Obj.TKT_FLOOR_DEFAULT_W : ObjDef :=
  ⟨0x2106, 1, 0, 1, .u16, .rws, 2, [16], .btw (0) 32767, true, some 2⟩
/-- 0x2107.00: Sum of floors in force, W -/
def Obj.TKT_FLOOR_SUM_W : ObjDef :=
  ⟨0x2107, 1, 0, 1, .u32, .ro, 4, [0x80000], .any, false, none⟩
/-- 0x2108.00: SPAN of BRAKE; 262,143 sends 0x3FFFF, until the step boundary; P, G -/
def Obj.TKT_BRAKE_HOLD_BINS : ObjDef :=
  ⟨0x2108, 1, 0, 1, .u32, .rws, 4, [0x3FFFF], .btw (1) 262143, true, some 2⟩
/-- 0x2109.00: Delay of the compliance check; P -/
def Obj.TKT_BRAKE_CHECK_US : ObjDef :=
  ⟨0x2109, 1, 0, 1, .u16, .rw, 2, [40], .btw (25) 1000, true, none⟩
/-- 0x210A.00: Tolerance of the compliance check per tray, W; P -/
def Obj.TKT_BRAKE_MARGIN_W : ObjDef :=
  ⟨0x210A, 1, 0, 1, .u16, .rw, 2, [2000], .btw (0) 32767, true, none⟩
/-- 0x210B.00: Egress gathering time of R68; P -/
def Obj.TKT_EGRESS_HOLD_NS : ObjDef :=
  ⟨0x210B, 1, 0, 1, .u16, .rw, 2, [100], .btw (0) 400, true, none⟩
/-- 0x210C.00: Bit t issues BRAKE with reason MANAGER to tray t; STATE outside RUN and DRAIN -/
def Obj.TKT_BRAKE_REQUEST : ObjDef :=
  ⟨0x210C, 1, 0, 1, .u64, .wo, 8, [0], .any, false, none⟩
/-- 0x2110.01: Tickets accepted -/
def Obj.TKT_RX_TICKETS : ObjDef :=
  ⟨0x2110, 1, 1, 1, .u64, .ro, 8, [0], .any, false, none⟩
/-- 0x2110.02: Bundles accepted -/
def Obj.TKT_RX_BUNDLES : ObjDef :=
  ⟨0x2110, 1, 2, 1, .u64, .ro, 8, [0], .any, false, none⟩
/-- 0x2110.03: Tickets discarded per R74 -/
def Obj.TKT_AUTH_FAIL : ObjDef :=
  ⟨0x2110, 1, 3, 1, .u64, .ro, 8, [0], .any, false, none⟩
/-- 0x2110.04: Tickets discarded per R71 -/
def Obj.TKT_SEQ_DISCARD : ObjDef :=
  ⟨0x2110, 1, 4, 1, .u64, .ro, 8, [0], .any, false, none⟩
/-- 0x2110.05: VOID STALE_STEP answers -/
def Obj.TKT_STEP_VOID : ObjDef :=
  ⟨0x2110, 1, 5, 1, .u64, .ro, 8, [0], .any, false, none⟩
/-- 0x2110.06: REQUESTs handled per R72 -/
def Obj.TKT_LATE_EFFECTIVE : ObjDef :=
  ⟨0x2110, 1, 6, 1, .u64, .ro, 8, [0], .any, false, none⟩
/-- 0x2110.07: Answers later than R88 allows -/
def Obj.TKT_LATE_ANSWER : ObjDef :=
  ⟨0x2110, 1, 7, 1, .u64, .ro, 8, [0], .any, false, none⟩
/-- 0x2110.08: Bundles discarded per R90 -/
def Obj.TKT_VERSION_DISCARD : ObjDef :=
  ⟨0x2110, 1, 8, 1, .u64, .ro, 8, [0], .any, false, none⟩
/-- 0x2110.09: Bundles discarded per R61 -/
def Obj.TKT_BUNDLE_DISCARD : ObjDef :=
  ⟨0x2110, 1, 9, 1, .u64, .ro, 8, [0], .any, false, none⟩
/-- 0x2110.0A: BRAKE bundles sent -/
def Obj.TKT_BRAKE_SENT : ObjDef :=
  ⟨0x2110, 1, 10, 1, .u64, .ro, 8, [0], .any, false, none⟩
/-- 0x2110.0B: Trays failing the check of R86 -/
def Obj.TKT_BRAKE_NONCOMPLIANT : ObjDef :=
  ⟨0x2110, 1, 11, 1, .u64, .ro, 8, [0], .any, false, none⟩
/-- 0x2110.0C: RELEASE tickets discarded -/
def Obj.TKT_RELEASE_UNKNOWN : ObjDef :=
  ⟨0x2110, 1, 12, 1, .u64, .ro, 8, [0], .any, false, none⟩
/-- 0x2111.00: Longest arrival-to-answer, ns, over the answers that R88 measures; a write of 0 clears it -/
def Obj.TKT_MAX_ANSWER_NS : ObjDef :=
  ⟨0x2111, 1, 0, 1, .u32, .rw, 4, [0], .btw 0 0, false, none⟩
/-- 0x2140+t.01: Key of slot 0 for tray t; P -/
def Obj.TRAY_KEY_0 : ObjDef :=
  ⟨0x2140, 64, 1, 1, .domain, .wo, 32, [0], .any, true, none⟩
/-- 0x2140+t.02: Key of slot 1 for tray t; P -/
def Obj.TRAY_KEY_1 : ObjDef :=
  ⟨0x2140, 64, 2, 1, .domain, .wo, 32, [0], .any, true, none⟩
/-- 0x2140+t.03: Bit 0 slot 0 valid, bit 1 slot 1 valid; P, G -/
def Obj.TRAY_KEY_VALID : ObjDef :=
  ⟨0x2140, 64, 3, 1, .u8, .rws, 1, [0], .btw (0) 3, true, some 2⟩
/-- 0x2140+t.04: Learned MAC, or IPv6 address and port, per R58 -/
def Obj.TRAY_ADDR : ObjDef :=
  ⟨0x2140, 64, 4, 1, .domain, .ro, 18, [0], .any, false, none⟩
/-- 0x2140+t.05: Tickets of tray t discarded per R74 -/
def Obj.TRAY_AUTH_FAIL : ObjDef :=
  ⟨0x2140, 64, 5, 1, .u32, .ro, 4, [0], .any, false, none⟩
/-- 0x2140+t.06: Failed checks of R86 for tray t -/
def Obj.TRAY_BRAKE_NONCOMPLIANT : ObjDef :=
  ⟨0x2140, 64, 6, 1, .u32, .ro, 4, [0], .any, false, none⟩
/-- 0x2140+t.07: 1 clears the SEQ history of tray t's requesters, per R71 -/
def Obj.TRAY_SEQ_RESET : ObjDef :=
  ⟨0x2140, 64, 7, 1, .bool, .wo, 1, [0], .btw 0 1, false, none⟩
/-- 0x2200.00: 1 while the module is in RUN or DRAIN -/
def Obj.ARB_OPEN : ObjDef :=
  ⟨0x2200, 1, 0, 1, .bool, .ro, 1, [0], .btw 0 1, false, none⟩
/-- 0x2201.00: Q in force -/
def Obj.ARB_RESERVE_W : ObjDef :=
  ⟨0x2201, 1, 0, 1, .u32, .ro, 4, [16000], .any, false, none⟩
/-- 0x2202.00: H of the bin after the bin in progress; during bin N − 1, H of bin N − 1 itself, since no bin follows within the step and R105 makes no offer -/
def Obj.ARB_HEADROOM_W : ObjDef :=
  ⟨0x2202, 1, 0, 1, .i32, .ro, 4, [0], .any, false, none⟩
/-- 0x2203.00: G of the bin in progress -/
def Obj.ARB_COMMITTED_W : ObjDef :=
  ⟨0x2203, 1, 0, 1, .u32, .ro, 4, [0], .any, false, none⟩
/-- 0x2204.01: S for the bin in progress -/
def Obj.ARB_S_W : ObjDef :=
  ⟨0x2204, 1, 1, 1, .u32, .ro, 4, [0], .any, false, none⟩
/-- 0x2204.02: s_fast of R94 -/
def Obj.ARB_S_FAST_W : ObjDef :=
  ⟨0x2204, 1, 2, 1, .u32, .ro, 4, [0], .any, false, none⟩
/-- 0x2204.03: s_deep of R94 -/
def Obj.ARB_S_DEEP_W : ObjDef :=
  ⟨0x2204, 1, 3, 1, .u32, .ro, 4, [0], .any, false, none⟩
/-- 0x2205.00: C in use -/
def Obj.ARB_CORRECTION_W : ObjDef :=
  ⟨0x2205, 1, 0, 1, .i32, .ro, 4, [0], .any, false, none⟩
/-- 0x2206.00: B of the bin in progress, after the grid cap -/
def Obj.ARB_BASE_W : ObjDef :=
  ⟨0x2206, 1, 0, 1, .i32, .ro, 4, [0], .any, false, none⟩
/-- 0x2210+c.01: Largest DELTA_P of class c, W; P, G -/
def Obj.ARB_MAX_DELTA_P : ObjDef :=
  ⟨0x2210, 8, 1, 1, .u16, .rws, 2, [2000], .btw (1) 32767, true, some 2⟩
/-- 0x2210+c.02: Class may preempt per R109; P, G -/
def Obj.ARB_PREEMPT : ObjDef :=
  ⟨0x2210, 8, 2, 1, .bool, .rws, 1, [1, 1, 1, 0], .btw 0 1, true, some 2⟩
/-- 0x2210+c.03: Class may be preempted; P, G -/
def Obj.ARB_REVOCABLE : ObjDef :=
  ⟨0x2210, 8, 3, 1, .bool, .rws, 1, [0, 1], .btw 0 1, true, some 2⟩
/-- 0x2210+c.04: Default burst limit of class c, bins; P, G -/
def Obj.ARB_BURST_LIMIT : ObjDef :=
  ⟨0x2210, 8, 4, 1, .u32, .rws, 4, [0x3FFFF], .btw (1) 262143, true, some 2⟩
/-- 0x2220.01: Energy horizon of R94; P, G -/
def Obj.ARB_S_HORIZON_MS : ObjDef :=
  ⟨0x2220, 1, 1, 1, .u16, .rws, 2, [500], .btw (10) 10000, true, some 2⟩
/-- 0x2220.02: Power counted per phase in R94; P, G -/
def Obj.ARB_PHASE_RATING_W : ObjDef :=
  ⟨0x2220, 1, 2, 1, .u16, .rws, 2, [15000], .btw (1000) 20000, true, some 2⟩
/-- 0x2222.01: Least C accepted; P, G -/
def Obj.ARB_C_MIN_W : ObjDef :=
  ⟨0x2222, 1, 1, 1, .i32, .rws, 4, [0xFFFC0000], .btw (-1600000) 0, true, some 2⟩
/-- 0x2222.02: Greatest C accepted; P, G -/
def Obj.ARB_C_MAX_W : ObjDef :=
  ⟨0x2222, 1, 2, 1, .i32, .rws, 4, [65536], .btw (0) 1600000, true, some 2⟩
/-- 0x2230.01: GRANT answers -/
def Obj.ARB_GRANTS : ObjDef :=
  ⟨0x2230, 1, 1, 1, .u64, .ro, 8, [0], .any, false, none⟩
/-- 0x2230.02: PARK answers -/
def Obj.ARB_PARKS : ObjDef :=
  ⟨0x2230, 1, 2, 1, .u64, .ro, 8, [0], .any, false, none⟩
/-- 0x2230.03: Grants revoked per R109 -/
def Obj.ARB_REVOKE_PREEMPT : ObjDef :=
  ⟨0x2230, 1, 3, 1, .u64, .ro, 8, [0], .any, false, none⟩
/-- 0x2230.04: Grants revoked per R112 -/
def Obj.ARB_REVOKE_FALL : ObjDef :=
  ⟨0x2230, 1, 4, 1, .u64, .ro, 8, [0], .any, false, none⟩
/-- 0x2230.05: RESUME answers -/
def Obj.ARB_RESUMES : ObjDef :=
  ⟨0x2230, 1, 5, 1, .u64, .ro, 8, [0], .any, false, none⟩
/-- 0x2230.06: GRANTs decided from the siding -/
def Obj.ARB_SIDING_GRANTS : ObjDef :=
  ⟨0x2230, 1, 6, 1, .u64, .ro, 8, [0], .any, false, none⟩
/-- 0x2230.07: VOID STEP_END answers -/
def Obj.ARB_STEP_VOIDS : ObjDef :=
  ⟨0x2230, 1, 7, 1, .u64, .ro, 8, [0], .any, false, none⟩
/-- 0x2230.08: Largest excess over B + C + S − Q, W; a write of 0 clears it -/
def Obj.ARB_MAX_OVERCOMMIT_W : ObjDef :=
  ⟨0x2230, 1, 8, 1, .u32, .rw, 4, [0], .btw 0 0, false, none⟩
/-- 0x2230.09: Largest siding occupancy since power-up -/
def Obj.ARB_MAX_SIDING : ObjDef :=
  ⟨0x2230, 1, 9, 1, .u32, .ro, 4, [0], .btw (0) 32768, false, none⟩
/-- 0x2231.00: 1 clears record counters per R120 -/
def Obj.ARB_COUNTER_CLEAR : ObjDef :=
  ⟨0x2231, 1, 0, 1, .bool, .wo, 1, [0], .btw 0 1, false, none⟩
/-- 0x2232.00: Siding entries occupied now -/
def Obj.ARB_SIDING_COUNT : ObjDef :=
  ⟨0x2232, 1, 0, 1, .u32, .ro, 4, [0], .btw (0) 32768, false, none⟩
/-- 0x3030.00: Requester records per R118 -/
def Obj.REQ_TABLE_WINDOW : ObjDef :=
  ⟨0x3030, 1, 0, 1, .domain, .rws, 1048576, [0], .any, false, some 2⟩
/-- 0x2300.00: 0 OFF, 1 TRACK, 2 REGULATE, 3 SAFE -/
def Obj.CNV_STATE : ObjDef :=
  ⟨0x2300, 1, 0, 1, .u8, .ro, 1, [0], .btw (0) 3, false, none⟩
/-- 0x2301.00: Frame in counts of 625 ps, per R123; P -/
def Obj.CNV_PWM_PERIOD : ObjDef :=
  ⟨0x2301, 1, 0, 1, .u16, .rw, 2, [16000], .btw (8000) 32000, true, none⟩
/-- 0x2302.01: Bus setpoint, mV; P -/
def Obj.CNV_BUS_SET_MV : ObjDef :=
  ⟨0x2302, 1, 1, 1, .u32, .rw, 4, [0xC3500], .btw (792000) 808000, true, none⟩
/-- 0x2302.02: Setpoint slew, mV/ms; P -/
def Obj.CNV_SLEW_MV_MS : ObjDef :=
  ⟨0x2302, 1, 2, 1, .u16, .rw, 2, [1000], .btw (10) 20000, true, none⟩
/-- 0x2302.03: Reference r in force -/
def Obj.CNV_REF_MV : ObjDef :=
  ⟨0x2302, 1, 3, 1, .u32, .ro, 4, [0], .any, false, none⟩
/-- 0x2303.01: Bus sense channel; STATE unless OFF; P -/
def Obj.CNV_BUS_CH : ObjDef :=
  ⟨0x2303, 1, 1, 1, .u8, .rw, 1, [0], .btw (0) 15, true, none⟩
/-- 0x2303.02: Check channel; STATE unless OFF; P -/
def Obj.CNV_BUS_CHECK_CH : ObjDef :=
  ⟨0x2303, 1, 2, 1, .u8, .rw, 1, [1], .btw (0) 15, true, none⟩
/-- 0x2303.03: Check tolerance; P -/
def Obj.CNV_BUS_DISAGREE_MV : ObjDef :=
  ⟨0x2303, 1, 3, 1, .u16, .rw, 2, [2000], .btw (100) 10000, true, none⟩
/-- 0x2303.04: Samples averaged per frame; P -/
def Obj.CNV_BUS_AVG : ObjDef :=
  ⟨0x2303, 1, 4, 1, .u8, .rw, 1, [4], .btw (1) 16, true, none⟩
/-- 0x2303.05: Bus value of the last frame -/
def Obj.CNV_BUS_MV : ObjDef :=
  ⟨0x2303, 1, 5, 1, .u32, .ro, 4, [0], .any, false, none⟩
/-- 0x2304.01: ff_grant of the last frame -/
def Obj.CNV_FF_GRANT_W : ObjDef :=
  ⟨0x2304, 1, 1, 1, .i32, .ro, 4, [0], .any, false, none⟩
/-- 0x2304.02: ff_sched of the last frame -/
def Obj.CNV_FF_SCHED_W : ObjDef :=
  ⟨0x2304, 1, 2, 1, .i32, .ro, 4, [0], .any, false, none⟩
/-- 0x2305.00: Frame count k: regular frames only, all-fire frames left out, per R138 -/
def Obj.CNV_FRAME : ObjDef :=
  ⟨0x2305, 1, 0, 1, .u32, .ro, 4, [0], .any, false, none⟩
/-- 0x2310+x.01–04: Error coefficients, fast / deep, W/mV; P, G -/
def Obj.CNV_B0_TO_CNV_B3 : ObjDef :=
  ⟨0x2310, 2, 1, 4, .q 16 16, .rws, 4, [0x780000, 0xFF9C0000, 0, 0, 0x150000, 0xFFEC0000, 0, 0], .any, true, some 0⟩
/-- 0x2310+x.05–07: Output coefficients; P, G -/
def Obj.CNV_A1_TO_CNV_A3 : ObjDef :=
  ⟨0x2310, 2, 5, 3, .q 16 16, .rws, 4, [0xFFFF0000, 0, 0, 0xFFFF0000, 0, 0], .any, true, some 0⟩
/-- 0x2310+x.08: Phase inductance, nH; P, G -/
def Obj.CNV_INDUCTANCE_NH : ObjDef :=
  ⟨0x2310, 2, 8, 1, .u32, .rws, 4, [40000], .btw (1000) 1000000, true, some 0⟩
/-- 0x2310+x.09: Calibrated loop resistance, µΩ -/
def Obj.CNV_LOOP_RES_UOHM : ObjDef :=
  ⟨0x2310, 2, 9, 1, .u32, .ro, 4, [12000], .any, false, none⟩
/-- 0x2310+x.0A: Least WORKING phases; P, G -/
def Obj.CNV_MIN_WORKING : ObjDef :=
  ⟨0x2310, 2, 10, 1, .u8, .rws, 1, [8], .btw (1) 48, true, some 0⟩
/-- 0x2310+x.0B: p_x of the last frame -/
def Obj.CNV_P_CMD_W : ObjDef :=
  ⟨0x2310, 2, 11, 1, .i32, .ro, 4, [0], .any, false, none⟩
/-- 0x2310+x.0C: u of the last frame -/
def Obj.CNV_U_W : ObjDef :=
  ⟨0x2310, 2, 12, 1, .i32, .ro, 4, [0], .any, false, none⟩
/-- 0x2310+x.0D: lim of the last frame -/
def Obj.CNV_LIMIT_W : ObjDef :=
  ⟨0x2310, 2, 13, 1, .u32, .ro, 4, [0], .any, false, none⟩
/-- 0x2320.01: Continuous phase limit, W; P, G -/
def Obj.CNV_PH_CONT_W : ObjDef :=
  ⟨0x2320, 1, 1, 1, .u16, .rws, 2, [15000], .btw (1000) 15000, true, some 0⟩
/-- 0x2320.02: Overload phase limit, W; P, G -/
def Obj.CNV_PH_PEAK_W : ObjDef :=
  ⟨0x2320, 1, 2, 1, .u16, .rws, 2, [20000], .btw (1000) 20000, true, some 0⟩
/-- 0x2320.03: Overload credit, ms; P, G -/
def Obj.CNV_OVERLOAD_MS : ObjDef :=
  ⟨0x2320, 1, 3, 1, .u16, .rws, 2, [2000], .btw (0) 2000, true, some 0⟩
/-- 0x2320.04: Credit refill ratio; P, G -/
def Obj.CNV_REFILL_RATIO : ObjDef :=
  ⟨0x2320, 1, 4, 1, .u8, .rws, 1, [10], .btw (1) 100, true, some 0⟩
/-- 0x2321.01: 0 disables R136; P, G -/
def Obj.CNV_BRAKE_ENABLE : ObjDef :=
  ⟨0x2321, 1, 1, 1, .bool, .rws, 1, [1], .btw 0 1, true, some 0⟩
/-- 0x2321.02: ff fall that triggers braking, W; P, G -/
def Obj.CNV_BRAKE_FF_W : ObjDef :=
  ⟨0x2321, 1, 2, 1, .u32, .rws, 4, [0x186A0], .btw (10000) 1440000, true, some 0⟩
/-- 0x2321.03: Rising bus slope that triggers braking, V/ms; P, G -/
def Obj.CNV_BRAKE_SLOPE : ObjDef :=
  ⟨0x2321, 1, 3, 1, .u16, .rws, 2, [20], .btw (5) 200, true, some 0⟩
/-- 0x2321.04: Current at which DIODE ends, mA; P, G -/
def Obj.CNV_BRAKE_EXIT_MA : ObjDef :=
  ⟨0x2321, 1, 4, 1, .u16, .rws, 2, [2000], .btw (100) 10000, true, some 0⟩
/-- 0x2321.05: Longest DIODE stay, frames; P, G -/
def Obj.CNV_BRAKE_MAX_FRAMES : ObjDef :=
  ⟨0x2321, 1, 5, 1, .u8, .rws, 1, [8], .btw (1) 64, true, some 0⟩
/-- 0x2321.06: Braking triggers, counted per bank: a slope trigger that triggers both banks counts 2 -/
def Obj.CNV_BRAKE_COUNT : ObjDef :=
  ⟨0x2321, 1, 6, 1, .u32, .ro, 4, [0], .any, false, none⟩
/-- 0x2322.01: 0 disables all-fire; P, G -/
def Obj.CNV_ALLFIRE_ENABLE : ObjDef :=
  ⟨0x2322, 1, 1, 1, .bool, .rws, 1, [1], .btw 0 1, true, some 0⟩
/-- 0x2322.02: Falling bus slope that triggers all-fire, V/ms; P, G -/
def Obj.CNV_ALLFIRE_SLOPE : ObjDef :=
  ⟨0x2322, 1, 2, 1, .u16, .rws, 2, [20], .btw (5) 200, true, some 0⟩
/-- 0x2322.03: Per-phase all-fire command, W; P, G -/
def Obj.CNV_ALLFIRE_PH_W : ObjDef :=
  ⟨0x2322, 1, 3, 1, .u16, .rws, 2, [20000], .btw (1000) 20000, true, some 0⟩
/-- 0x2322.04: All-fire frames -/
def Obj.CNV_ALLFIRE_COUNT : ObjDef :=
  ⟨0x2322, 1, 4, 1, .u32, .ro, 4, [0], .any, false, none⟩
/-- 0x2323.01: Load per phase for n_need, %; P, G -/
def Obj.CNV_SHED_LOAD_PCT : ObjDef :=
  ⟨0x2323, 1, 1, 1, .u8, .rws, 1, [50], .btw (10) 90, true, some 0⟩
/-- 0x2323.02: Load per phase that restores, %; P, G -/
def Obj.CNV_RESTORE_LOAD_PCT : ObjDef :=
  ⟨0x2323, 1, 2, 1, .u8, .rws, 1, [75], .btw (20) 100, true, some 0⟩
/-- 0x2323.03: Compute points before a shed; P, G -/
def Obj.CNV_SHED_DWELL : ObjDef :=
  ⟨0x2323, 1, 3, 1, .u16, .rws, 2, [64], .btw (16) 65535, true, some 0⟩
/-- 0x2323.04: Frames from WARM_SHED to COLD_SHED; P, G -/
def Obj.CNV_WARM_HOLD : ObjDef :=
  ⟨0x2323, 1, 4, 1, .u16, .rws, 2, [1000], .btw (100) 65535, true, some 0⟩
/-- 0x2323.05: Gate-supply wake time, µs; P, G -/
def Obj.CNV_COLD_WAKE_US : ObjDef :=
  ⟨0x2323, 1, 5, 1, .u16, .rws, 2, [2000], .btw (100) 10000, true, some 0⟩
/-- 0x2323.06: ff rise that is a load step, W; P, G -/
def Obj.CNV_STEP_FF_W : ObjDef :=
  ⟨0x2323, 1, 6, 1, .u32, .rws, 4, [0x186A0], .btw (10000) 1440000, true, some 0⟩
/-- 0x2330.01: Bank of each card, per R146; P -/
def Obj.CNV_CARD_BANK : ObjDef :=
  ⟨0x2330, 1, 1, 1, .u32, .rw, 4, [0xFFF000], .bits 0x1FFFFFF, true, none⟩
/-- 0x2330.02: Cards held as spares; P -/
def Obj.CNV_SPARE_CARDS : ObjDef :=
  ⟨0x2330, 1, 2, 1, .u32, .rw, 4, [0x1000000], .bits 0x1FFFFFF, true, none⟩
/-- 0x2330.03: Cards reporting the correct CARD_SLOT -/
def Obj.CNV_CARDS_FITTED : ObjDef :=
  ⟨0x2330, 1, 3, 1, .u32, .ro, 4, [0], .bits 0x1FFFFFF, false, none⟩
/-- 0x2330.04: Cards removed by R147 -/
def Obj.CNV_CARDS_FAULTED : ObjDef :=
  ⟨0x2330, 1, 4, 1, .u32, .ro, 4, [0], .bits 0x1FFFFFF, false, none⟩
/-- 0x2330.05: Readmission per R149 -/
def Obj.CNV_CARD_READMIT : ObjDef :=
  ⟨0x2330, 1, 5, 1, .u32, .wo, 4, [0], .bits 0x1FFFFFF, false, none⟩
/-- 0x2330.06: DEAD_TIME sent to the cards, ns; P, G -/
def Obj.CNV_DEAD_TIME_NS : ObjDef :=
  ⟨0x2330, 1, 6, 1, .u8, .rws, 1, [60], .btw (20) 255, true, some 0⟩
/-- 0x2330.07: Spare cards WORKING in place of a removed card -/
def Obj.CNV_SPARE_IN_USE : ObjDef :=
  ⟨0x2330, 1, 7, 1, .u32, .ro, 4, [0], .bits 0x1FFFFFF, false, none⟩
/-- 0x2331.01: WORKING and DIODE phases, fast bank -/
def Obj.CNV_WORKING_FAST : ObjDef :=
  ⟨0x2331, 1, 1, 1, .u8, .ro, 1, [0], .btw (0) 100, false, none⟩
/-- 0x2331.02: WORKING and DIODE phases, deep bank -/
def Obj.CNV_WORKING_DEEP : ObjDef :=
  ⟨0x2331, 1, 2, 1, .u8, .ro, 1, [0], .btw (0) 100, false, none⟩
/-- 0x2331.03: WARM_SHED phases -/
def Obj.CNV_WARM_SHED : ObjDef :=
  ⟨0x2331, 1, 3, 1, .u8, .ro, 1, [0], .btw (0) 100, false, none⟩
/-- 0x2331.04: COLD_SHED phases -/
def Obj.CNV_COLD_SHED : ObjDef :=
  ⟨0x2331, 1, 4, 1, .u8, .ro, 1, [0], .btw (0) 100, false, none⟩
/-- 0x2331.05: FAULTED phases -/
def Obj.CNV_FAULTED_PHASES : ObjDef :=
  ⟨0x2331, 1, 5, 1, .u8, .ro, 1, [0], .btw (0) 100, false, none⟩
/-- 0x2340.01: 0 coincident, 1 ratiometric; P -/
def Obj.CNV_TRACK_MODE : ObjDef :=
  ⟨0x2340, 1, 1, 1, .u8, .rw, 1, [0], .btw (0) 1, true, none⟩
/-- 0x2340.02: Bank power limit in TRACK, W; P -/
def Obj.CNV_TRACK_LIMIT_W : ObjDef :=
  ⟨0x2340, 1, 2, 1, .u32, .rw, 4, [50000], .btw (0) 720000, true, none⟩
/-- 0x2340.03: Bus voltage at which the converter turns OFF on stop, mV; P -/
def Obj.CNV_TRACK_OFF_MV : ObjDef :=
  ⟨0x2340, 1, 3, 1, .u32, .rw, 4, [50000], .btw (10000) 100000, true, none⟩
/-- 0x2350.01: 0 stops the perturbation of R153; P -/
def Obj.CNV_CAL_ENABLE : ObjDef :=
  ⟨0x2350, 1, 1, 1, .bool, .rw, 1, [1], .btw 0 1, true, none⟩
/-- 0x2350.02: Perturbation amplitude, W; P -/
def Obj.CNV_CAL_AMPL_W : ObjDef :=
  ⟨0x2350, 1, 2, 1, .u16, .rw, 2, [5000], .btw (500) 30000, true, none⟩
/-- 0x2350.03: Current-balance shift of R133; P -/
def Obj.CNV_BALANCE_SHIFT : ObjDef :=
  ⟨0x2350, 1, 3, 1, .u8, .rw, 1, [8], .btw (4) 16, true, none⟩
/-- 0x2350.04: Perturbation sequences completed -/
def Obj.CNV_CAL_SEQUENCES : ObjDef :=
  ⟨0x2350, 1, 4, 1, .u32, .ro, 4, [0], .any, false, none⟩
/-- 0x3040.00: Phase records per R155 -/
def Obj.CNV_PHASE_WINDOW : ObjDef :=
  ⟨0x3040, 1, 0, 1, .domain, .ro, 1600, [0], .any, false, none⟩
/-- 0x2400.00: 0 OFF; 1 IDLE, no model; 2 RUN; 3 SUSPENDED to the step boundary; 4 RESERVE, reserve model running -/
def Obj.ENG_STATE : ObjDef :=
  ⟨0x2400, 1, 0, 1, .u8, .ro, 1, [0], .btw (0) 4, false, none⟩
/-- 0x2401.01: Tick length per R166; P, G -/
def Obj.ENG_TICK_US : ObjDef :=
  ⟨0x2401, 1, 1, 1, .u16, .rws, 2, [250], .mult 100 2000 50, true, some 3⟩
/-- 0x2401.02: Commit lead per R170; P, G -/
def Obj.ENG_COMMIT_LEAD_US : ObjDef :=
  ⟨0x2401, 1, 2, 1, .u32, .rws, 4, [8000], .btw (1000) 1000000, true, some 3⟩
/-- 0x2402.00: Ticks started -/
def Obj.ENG_TICK_COUNT : ObjDef :=
  ⟨0x2402, 1, 0, 1, .u64, .ro, 8, [0], .any, false, none⟩
/-- 0x2403.01: Longest snapshot-to-publication time, ns; a write of 0 clears it -/
def Obj.ENG_TICK_MAX_NS : ObjDef :=
  ⟨0x2403, 1, 1, 1, .u32, .rw, 4, [0], .btw 0 0, false, none⟩
/-- 0x2403.02: Ticks abandoned per R168 -/
def Obj.ENG_TICKS_ABANDONED : ObjDef :=
  ⟨0x2403, 1, 2, 1, .u32, .ro, 4, [0], .any, false, none⟩
/-- 0x2404.00: Last published correction, before the clamp of R92 -/
def Obj.ENG_CORRECTION_W : ObjDef :=
  ⟨0x2404, 1, 0, 1, .i32, .ro, 4, [0], .any, false, none⟩
/-- 0x2405.01: Rows released into the shadow page -/
def Obj.ENG_ROWS_RELEASED : ObjDef :=
  ⟨0x2405, 1, 1, 1, .u64, .ro, 8, [0], .any, false, none⟩
/-- 0x2405.02: Commits made per R170 -/
def Obj.ENG_COMMITS : ObjDef :=
  ⟨0x2405, 1, 2, 1, .u32, .ro, 4, [0], .any, false, none⟩
/-- 0x2405.03: Commits withdrawn per R171 -/
def Obj.ENG_COMMITS_WITHDRAWN : ObjDef :=
  ⟨0x2405, 1, 3, 1, .u32, .ro, 4, [0], .any, false, none⟩
/-- 0x2410.00: Working carts in service -/
def Obj.ENG_CARTS_WORKING : ObjDef :=
  ⟨0x2410, 1, 0, 1, .u16, .ro, 2, [2048], .btw (0) 2048, false, none⟩
/-- 0x2411.00: Spare carts unused and passing self-test -/
def Obj.ENG_SPARE_CARTS : ObjDef :=
  ⟨0x2411, 1, 0, 1, .u8, .ro, 1, [64], .btw (0) 64, false, none⟩
/-- 0x2412.00: Coaches IN_SERVICE or DEGRADED -/
def Obj.ENG_COACHES_IN_SERVICE : ObjDef :=
  ⟨0x2412, 1, 0, 1, .u8, .ro, 1, [64], .btw (0) 64, false, none⟩
/-- 0x2420.01: HBM scrub pass interval, h; P -/
def Obj.ENG_HBM_SCRUB_H : ObjDef :=
  ⟨0x2420, 1, 1, 1, .u8, .rw, 1, [4], .btw (1) 24, true, none⟩
/-- 0x2420.02: SRAM scrub pass interval, min; P -/
def Obj.ENG_SRAM_SCRUB_MIN : ObjDef :=
  ⟨0x2420, 1, 2, 1, .u16, .rw, 2, [60], .btw (5) 1440, true, none⟩
/-- 0x2420.03: 0 stops cart self-test; the residue check stays on; P -/
def Obj.ENG_SELFTEST_ENABLE : ObjDef :=
  ⟨0x2420, 1, 3, 1, .bool, .rw, 1, [1], .btw 0 1, true, none⟩
/-- 0x2421.01: Corrected HBM errors -/
def Obj.ENG_HBM_CE : ObjDef :=
  ⟨0x2421, 1, 1, 1, .u64, .ro, 8, [0], .any, false, none⟩
/-- 0x2421.02: Uncorrectable HBM errors -/
def Obj.ENG_HBM_UE : ObjDef :=
  ⟨0x2421, 1, 2, 1, .u32, .ro, 4, [0], .any, false, none⟩
/-- 0x2421.03: Corrected coach SRAM and Depot errors -/
def Obj.ENG_SRAM_CE : ObjDef :=
  ⟨0x2421, 1, 3, 1, .u64, .ro, 8, [0], .any, false, none⟩
/-- 0x2421.04: Uncorrectable coach SRAM and Depot errors -/
def Obj.ENG_SRAM_UE : ObjDef :=
  ⟨0x2421, 1, 4, 1, .u32, .ro, 4, [0], .any, false, none⟩
/-- 0x2421.05: Row repairs per R163 -/
def Obj.ENG_ROW_REPAIRS : ObjDef :=
  ⟨0x2421, 1, 5, 1, .u16, .ro, 2, [0], .any, false, none⟩
/-- 0x2421.06: Pseudo-channel repairs per R164 -/
def Obj.ENG_PCH_REPAIRS : ObjDef :=
  ⟨0x2421, 1, 6, 1, .u8, .ro, 1, [0], .btw (0) 2, false, none⟩
/-- 0x2422.01: Corrected errors per row that trigger repair; P -/
def Obj.ENG_ROW_REPAIR_CE : ObjDef :=
  ⟨0x2422, 1, 1, 1, .u16, .rw, 2, [16], .btw (1) 1024, true, none⟩
/-- 0x2430.01–05: Age of each activity of Table 6.9, s -/
def Obj.ENG_BG_AGE_S : ObjDef :=
  ⟨0x2430, 1, 1, 5, .u32, .ro, 4, [0], .any, false, none⟩
/-- 0x2434.00: Long Record coding bound, LSB; applies to samples recorded from the step boundary; P, G -/
def Obj.LR_BOUND_K : ObjDef :=
  ⟨0x2434, 1, 0, 1, .u8, .rws, 1, [0], .oneOf [0, 1, 2, 4, 8], true, some 3⟩
/-- 0x3050.00: Coach records per R182 -/
def Obj.ENG_COACH_WINDOW : ObjDef :=
  ⟨0x3050, 1, 0, 1, .domain, .ro, 1024, [0], .any, false, none⟩
/-- 0x2440.00: 1 BEGIN, 2 VERIFY, 3 SWITCH, 4 CANCEL, per R219 -/
def Obj.MDL_LOAD_CONTROL : ObjDef :=
  ⟨0x2440, 1, 0, 1, .u8, .wo, 1, [0], .btw (1) 4, false, none⟩
/-- 0x2441.00: Container length for BEGIN -/
def Obj.MDL_LOAD_LENGTH : ObjDef :=
  ⟨0x2441, 1, 0, 1, .u64, .rw, 8, [0], .btw (64) 3221225472, false, none⟩
/-- 0x2442.00: Per Table 8.10 -/
def Obj.MDL_LOAD_STATE : ObjDef :=
  ⟨0x2442, 1, 0, 1, .u8, .ro, 1, [0], .btw (0) 5, false, none⟩
/-- 0x2443.01: Code of the last failed check -/
def Obj.MDL_REFUSAL_CODE : ObjDef :=
  ⟨0x2443, 1, 1, 1, .u8, .ro, 1, [0], .any, false, none⟩
/-- 0x2443.02: Per Table 8.9 -/
def Obj.MDL_REFUSAL_REASON : ObjDef :=
  ⟨0x2443, 1, 2, 1, .u8, .ro, 1, [0], .btw (0) 15, false, none⟩
/-- 0x2443.03: Logical coach per Table 8.9 -/
def Obj.MDL_REFUSAL_COACH : ObjDef :=
  ⟨0x2443, 1, 3, 1, .u8, .ro, 1, [255], .any, false, none⟩
/-- 0x2443.04: Excess per Table 8.9 -/
def Obj.MDL_REFUSAL_EXCESS : ObjDef :=
  ⟨0x2443, 1, 4, 1, .u64, .ro, 8, [0], .any, false, none⟩
/-- 0x2444.01: MODEL_ID of the RUNNING container -/
def Obj.MDL_LOADED_ID : ObjDef :=
  ⟨0x2444, 1, 1, 1, .u32, .ro, 4, [0], .any, false, none⟩
/-- 0x2444.02: MODEL_REVISION of the RUNNING container -/
def Obj.MDL_LOADED_REVISION : ObjDef :=
  ⟨0x2444, 1, 2, 1, .u16, .ro, 2, [0], .any, false, none⟩
/-- 0x2444.03: DIGEST of the RUNNING container -/
def Obj.MDL_LOADED_DIGEST : ObjDef :=
  ⟨0x2444, 1, 3, 1, .domain, .ro, 32, [0], .any, false, none⟩
/-- 0x2445.01: MODEL_ID of the reserve model -/
def Obj.MDL_RESERVE_ID : ObjDef :=
  ⟨0x2445, 1, 1, 1, .u32, .ro, 4, [0], .any, false, none⟩
/-- 0x2445.02: MODEL_REVISION of the reserve model -/
def Obj.MDL_RESERVE_REVISION : ObjDef :=
  ⟨0x2445, 1, 2, 1, .u16, .ro, 2, [0], .any, false, none⟩
/-- 0x2446.00: 0 none, 1 loaded model, 2 reserve model -/
def Obj.MDL_ACTIVE_MODEL : ObjDef :=
  ⟨0x2446, 1, 0, 1, .u8, .ro, 1, [0], .btw (0) 2, false, none⟩
/-- 0x2447.00: 1 runs the reserve model per R225; P, G -/
def Obj.MDL_FORCE_RESERVE : ObjDef :=
  ⟨0x2447, 1, 0, 1, .bool, .rws, 1, [0], .btw 0 1, true, some 3⟩
/-- 0x2448.01: Budget of the last check -/
def Obj.MDL_BUDGET_CYCLES : ObjDef :=
  ⟨0x2448, 1, 1, 1, .u32, .ro, 4, [0], .any, false, none⟩
/-- 0x2448.02: Worst case of the last check -/
def Obj.MDL_WORST_CYCLES : ObjDef :=
  ⟨0x2448, 1, 2, 1, .u32, .ro, 4, [0], .any, false, none⟩
/-- 0x2448.03: Width code of w_check per R214 -/
def Obj.MDL_CHECK_WIDTH : ObjDef :=
  ⟨0x2448, 1, 3, 1, .u8, .ro, 1, [3], .btw (1) 7, false, none⟩
/-- 0x2449.00: Switches per R222 -/
def Obj.MDL_SWITCH_COUNT : ObjDef :=
  ⟨0x2449, 1, 0, 1, .u32, .ro, 4, [0], .any, false, none⟩
/-- 0x244A.01: 0 nothing received; 1 acknowledged, verified; 2 acknowledged, refused -/
def Obj.MDL_PARTNER_STATUS : ObjDef :=
  ⟨0x244A, 1, 1, 1, .u8, .ro, 1, [0], .btw (0) 2, false, none⟩
/-- 0x244A.02: The STANDBY module's reason per Table 8.9 -/
def Obj.MDL_PARTNER_REASON : ObjDef :=
  ⟨0x244A, 1, 2, 1, .u8, .ro, 1, [0], .btw (0) 15, false, none⟩
/-- 0x2450.00: Per R216; P -/
def Obj.MDL_SIGNATURE_REQUIRED : ObjDef :=
  ⟨0x2450, 1, 0, 1, .bool, .rw, 1, [0], .btw 0 1, true, none⟩
/-- 0x2451.00: XMSS public key per R216; P -/
def Obj.MDL_AUTHOR_KEY : ObjDef :=
  ⟨0x2451, 1, 0, 1, .domain, .rw, 68, [0], .any, true, none⟩
/-- 0x2460.01: Per R229; P, G -/
def Obj.MDL_ADAPT_ENABLE : ObjDef :=
  ⟨0x2460, 1, 1, 1, .bool, .rws, 1, [1], .btw 0 1, true, some 3⟩
/-- 0x2460.02: Share of MAINT time per R229; P, G -/
def Obj.MDL_ADAPT_SHARE_PCT : ObjDef :=
  ⟨0x2460, 1, 2, 1, .u8, .rws, 1, [50], .btw (10) 90, true, some 3⟩
/-- 0x2460.03: Per R231 -/
def Obj.MDL_ADAPT_REVERT : ObjDef :=
  ⟨0x2460, 1, 3, 1, .bool, .wo, 1, [0], .btw 0 1, false, none⟩
/-- 0x2460.04: Flips since the model started -/
def Obj.MDL_ADAPT_GENERATION : ObjDef :=
  ⟨0x2460, 1, 4, 1, .u32, .ro, 4, [0], .any, false, none⟩
/-- 0x2460.05: Discard verdicts since the model started -/
def Obj.MDL_ADAPT_REJECTED : ObjDef :=
  ⟨0x2460, 1, 5, 1, .u32, .ro, 4, [0], .any, false, none⟩
/-- 0x2461.00: Per R224 -/
def Obj.MDL_WARMUP_LEFT : ObjDef :=
  ⟨0x2461, 1, 0, 1, .u16, .ro, 2, [0], .btw (0) 65535, false, none⟩
/-- 0x3060.00: Container bytes per R219 -/
def Obj.MDL_LOAD_WINDOW : ObjDef :=
  ⟨0x3060, 1, 0, 1, .domain, .wo, 3221225472, [0], .any, false, none⟩
/-- 0x2500.00: 0 OFF, 1 PRECHARGE, 2 READY, 3 FAILED, per R238 -/
def Obj.BNK_STATE : ObjDef :=
  ⟨0x2500, 1, 0, 1, .u8, .ro, 1, [0], .btw (0) 3, false, none⟩
/-- 0x2501.01–04: Channels of Table 9.1; P -/
def Obj.BNK_FAST_CH_TO_BNK_DEEP_CHECK_CH : ObjDef :=
  ⟨0x2501, 1, 1, 4, .u8, .rw, 1, [4, 5, 6, 7], .btw (0) 15, true, none⟩
/-- 0x2501.05: Check tolerance; P -/
def Obj.BNK_DISAGREE_MV : ObjDef :=
  ⟨0x2501, 1, 5, 1, .u16, .rw, 2, [2000], .btw (100) 10000, true, none⟩
/-- 0x2502.01: Fast low limit; P, G -/
def Obj.BNK_FAST_LO_MV : ObjDef :=
  ⟨0x2502, 1, 1, 1, .u32, .rws, 4, [0x57E40], .btw (200000) 500000, true, some 3⟩
/-- 0x2502.02: Fast upper limit; P, G -/
def Obj.BNK_FAST_HI_MV : ObjDef :=
  ⟨0x2502, 1, 2, 1, .u32, .rws, 4, [0xAFC80], .btw (500000) 740000, true, some 3⟩
/-- 0x2502.03: Deep low limit; P, G -/
def Obj.BNK_DEEP_LO_MV : ObjDef :=
  ⟨0x2502, 1, 3, 1, .u32, .rws, 4, [0x57E40], .btw (300000) 500000, true, some 3⟩
/-- 0x2502.04: Deep upper limit; P, G -/
def Obj.BNK_DEEP_HI_MV : ObjDef :=
  ⟨0x2502, 1, 4, 1, .u32, .rws, 4, [0xA4100], .btw (500000) 684000, true, some 3⟩
/-- 0x2502.05: BANK_FAST threshold; P, G -/
def Obj.BNK_FAST_TRIP_MV : ObjDef :=
  ⟨0x2502, 1, 5, 1, .u32, .rws, 4, [0xB4AA0], .btw (700000) 760000, true, some 3⟩
/-- 0x2502.06: Cell over-voltage; P, G -/
def Obj.BNK_CELL_TRIP_HI_UV : ObjDef :=
  ⟨0x2502, 1, 6, 1, .u32, .rws, 4, [0x2B7CD0], .btw (2700000) 2900000, true, some 3⟩
/-- 0x2502.07: Cell under-voltage; P, G -/
def Obj.BNK_CELL_TRIP_LO_UV : ObjDef :=
  ⟨0x2502, 1, 7, 1, .u32, .rws, 4, [0x155CC0], .btw (1200000) 1600000, true, some 3⟩
/-- 0x2502.08: Cell over-temperature, °C; P, G -/
def Obj.BNK_CELL_TRIP_C : ObjDef :=
  ⟨0x2502, 1, 8, 1, .i8, .rws, 1, [55], .btw (30) 70, true, some 3⟩
/-- 0x2505.01: Fast precharge target; P -/
def Obj.BNK_PRECHARGE_MV : ObjDef :=
  ⟨0x2505, 1, 1, 1, .u32, .rw, 4, [0x83D60], .btw (360000) 700000, true, none⟩
/-- 0x2505.02: Rectifier reference offset; P -/
def Obj.BNK_PRECHARGE_OFFSET_MV : ObjDef :=
  ⟨0x2505, 1, 2, 1, .u16, .rw, 2, [4000], .btw (1000) 8000, true, none⟩
/-- 0x2505.03: Precharge time limit; P -/
def Obj.BNK_PRECHARGE_TIMEOUT_S : ObjDef :=
  ⟨0x2505, 1, 3, 1, .u16, .rw, 2, [300], .btw (10) 3600, true, none⟩
/-- 0x2505.04: Least fast voltage for converter start; P -/
def Obj.BNK_FAST_MIN_MV : ObjDef :=
  ⟨0x2505, 1, 4, 1, .u32, .rw, 4, [0x186A0], .btw (60000) 200000, true, none⟩
/-- 0x2506.01–04: Bit m: monitor m of string 0–3 reporting -/
def Obj.BNK_MON_PRESENT : ObjDef :=
  ⟨0x2506, 1, 1, 4, .u32, .ro, 4, [0], .bits 0xFFFFF, false, none⟩
/-- 0x2506.05: Silence that latches CAN_BMS; P -/
def Obj.BNK_MON_TIMEOUT_MS : ObjDef :=
  ⟨0x2506, 1, 5, 1, .u16, .rw, 2, [300], .btw (150) 2000, true, none⟩
/-- 0x2506.06: Module-sum tolerance; P -/
def Obj.BNK_MON_SUM_TOL_MV : ObjDef :=
  ⟨0x2506, 1, 6, 1, .u32, .rw, 4, [5000], .btw (500) 50000, true, none⟩
/-- 0x2506.07: Lowest CELL_MIN of the bank -/
def Obj.BNK_CELL_MIN_UV : ObjDef :=
  ⟨0x2506, 1, 7, 1, .u32, .ro, 4, [0], .any, false, none⟩
/-- 0x2506.08: Highest CELL_MAX of the bank -/
def Obj.BNK_CELL_MAX_UV : ObjDef :=
  ⟨0x2506, 1, 8, 1, .u32, .ro, 4, [0], .any, false, none⟩
/-- 0x2510+u.01: Commissioned R0; COMMIT also sets sub 02; P, G -/
def Obj.EST_R0_INIT_UOHM : ObjDef :=
  ⟨0x2510, 5, 1, 1, .u32, .rws, 4, [40000, 0x2BF20], .btw (1000) 2000000, true, some 3⟩
/-- 0x2510+u.02: Calibrated R0 in use; persistent -/
def Obj.EST_R0_UOHM : ObjDef :=
  ⟨0x2510, 5, 2, 1, .u32, .ro, 4, [40000, 0x2BF20], .any, true, none⟩
/-- 0x2510+u.03: Branch 1 resistance; P, G -/
def Obj.EST_R1_UOHM : ObjDef :=
  ⟨0x2510, 5, 3, 1, .u32, .rws, 4, [20000, 60000], .btw (0) 2000000, true, some 3⟩
/-- 0x2510+u.04: Branch 1 time constant; P, G -/
def Obj.EST_TAU1_MS : ObjDef :=
  ⟨0x2510, 5, 4, 1, .u32, .rws, 4, [1000, 2000], .btw (10) 1000000, true, some 3⟩
/-- 0x2510+u.05: Branch 2 resistance; P, G -/
def Obj.EST_R2_UOHM : ObjDef :=
  ⟨0x2510, 5, 5, 1, .u32, .rws, 4, [10000, 40000], .btw (0) 2000000, true, some 3⟩
/-- 0x2510+u.06: Branch 2 time constant; P, G -/
def Obj.EST_TAU2_MS : ObjDef :=
  ⟨0x2510, 5, 6, 1, .u32, .rws, 4, [60000, 0x1D4C0], .btw (10) 1000000, true, some 3⟩
/-- 0x2510+u.07: Charge in force, mAs -/
def Obj.EST_Q_MAS : ObjDef :=
  ⟨0x2510, 5, 7, 1, .i64, .ro, 8, [0], .any, false, none⟩
/-- 0x2510+u.08: q_c, mAs -/
def Obj.EST_Q_COUNT_MAS : ObjDef :=
  ⟨0x2510, 5, 8, 1, .i64, .ro, 8, [0], .any, false, none⟩
/-- 0x2510+u.09: q_v, mAs -/
def Obj.EST_Q_VOLT_MAS : ObjDef :=
  ⟨0x2510, 5, 9, 1, .i64, .ro, 8, [0], .any, false, none⟩
/-- 0x2510+u.0A: Uncertainty in force, mAs -/
def Obj.EST_SIGMA_MAS : ObjDef :=
  ⟨0x2510, 5, 10, 1, .u32, .ro, 4, [0], .any, false, none⟩
/-- 0x2510+u.0B: Reported state of charge, 0.01% -/
def Obj.EST_SOC : ObjDef :=
  ⟨0x2510, 5, 11, 1, .u16, .ro, 2, [0], .btw (0) 10000, false, none⟩
/-- 0x2510+u.0C: Temperature used, °C -/
def Obj.EST_TEMP_C : ObjDef :=
  ⟨0x2510, 5, 12, 1, .i8, .ro, 1, [0], .any, false, none⟩
/-- 0x2510+u.0D: Last model-derived current -/
def Obj.EST_CURRENT_MA : ObjDef :=
  ⟨0x2510, 5, 13, 1, .i32, .ro, 4, [0], .any, false, none⟩
/-- 0x2510+u.0E: Operating time since the last rest -/
def Obj.EST_REST_AGE_S : ObjDef :=
  ⟨0x2510, 5, 14, 1, .u32, .ro, 4, [0], .any, false, none⟩
/-- 0x2510+u.0F: Bit 0 voltage in force; 1 disagreement pending; 2 run at least EST_QR_STEPS; 3 last declaration full; 4 last declaration empty -/
def Obj.EST_FLAGS : ObjDef :=
  ⟨0x2510, 5, 15, 1, .u8, .ro, 1, [0], .bits 0x1F, false, none⟩
/-- 0x2516.00: Deep bank: Σ(q − q_zero) / Σ(q_full − q_zero), slewed per R246 -/
def Obj.EST_DEEP_SOC : ObjDef :=
  ⟨0x2516, 1, 0, 1, .u16, .ro, 2, [0], .btw (0) 10000, false, none⟩
/-- 0x2517.01: e_fast of R245 -/
def Obj.EST_E_FAST_J : ObjDef :=
  ⟨0x2517, 1, 1, 1, .u64, .ro, 8, [0], .any, false, none⟩
/-- 0x2517.02: e_deep of R245 -/
def Obj.EST_E_DEEP_J : ObjDef :=
  ⟨0x2517, 1, 2, 1, .u64, .ro, 8, [0], .any, false, none⟩
/-- 0x2518.00: Fast bank temperature; P -/
def Obj.EST_FAST_TEMP_C : ObjDef :=
  ⟨0x2518, 1, 0, 1, .i8, .rw, 1, [30], .btw (-10) 60, true, none⟩
/-- 0x2520.01: Periodic steps for a quasi-rest; P, G -/
def Obj.EST_QR_STEPS : ObjDef :=
  ⟨0x2520, 1, 1, 1, .u8, .rws, 1, [3], .btw (2) 16, true, some 3⟩
/-- 0x2520.02: Step-mean repeat tolerance; P, G -/
def Obj.EST_QR_REPEAT_MV : ObjDef :=
  ⟨0x2520, 1, 2, 1, .u16, .rws, 2, [50], .btw (1) 2000, true, some 3⟩
/-- 0x2520.03: Margin M, 0.01% of usable charge; P, G -/
def Obj.EST_DISAGREE_PCT : ObjDef :=
  ⟨0x2520, 1, 3, 1, .u16, .rws, 2, [200], .btw (10) 2000, true, some 3⟩
/-- 0x2520.04: Table uncertainty per unit; P, G -/
def Obj.EST_OCV_SIGMA_UV : ObjDef :=
  ⟨0x2520, 1, 4, 1, .u16, .rws, 2, [2000], .btw (100) 50000, true, some 3⟩
/-- 0x2520.05: Count uncertainty per charge moved; P, G -/
def Obj.EST_COUNT_ERR_PPM : ObjDef :=
  ⟨0x2520, 1, 5, 1, .u32, .rws, 4, [5000], .btw (0) 100000, true, some 3⟩
/-- 0x2521.01: Bit 0 fast, bit 1 deep -/
def Obj.EST_REST_REQUEST : ObjDef :=
  ⟨0x2521, 1, 1, 1, .u8, .ro, 1, [0], .bits 0x3, false, none⟩
/-- 0x2521.02: Rest windows counted per R252 -/
def Obj.EST_RESTS_TAKEN : ObjDef :=
  ⟨0x2521, 1, 2, 1, .u32, .ro, 4, [0], .any, false, none⟩
/-- 0x2522.01: Fast taper band; P, G -/
def Obj.EST_TAPER_FAST_MV : ObjDef :=
  ⟨0x2522, 1, 1, 1, .u16, .rws, 2, [2000], .btw (100) 20000, true, some 3⟩
/-- 0x2522.02: Cell taper band; P, G -/
def Obj.EST_TAPER_CELL_UV : ObjDef :=
  ⟨0x2522, 1, 2, 1, .u16, .rws, 2, [10000], .btw (1000) 50000, true, some 3⟩
/-- 0x2522.03: Fast taper current; P, G -/
def Obj.EST_TAPER_FAST_MA : ObjDef :=
  ⟨0x2522, 1, 3, 1, .u32, .rws, 4, [2000], .btw (100) 100000, true, some 3⟩
/-- 0x2522.04: String taper current; P, G -/
def Obj.EST_TAPER_STRING_MA : ObjDef :=
  ⟨0x2522, 1, 4, 1, .u32, .rws, 4, [1050], .btw (100) 20000, true, some 3⟩
/-- 0x2522.05: Taper duration; P, G -/
def Obj.EST_TAPER_MS : ObjDef :=
  ⟨0x2522, 1, 5, 1, .u32, .rws, 4, [10000], .btw (1000) 600000, true, some 3⟩
/-- 0x2523.01: Sequences per estimate; P -/
def Obj.EST_CAL_SEQ : ObjDef :=
  ⟨0x2523, 1, 1, 1, .u16, .rw, 2, [1024], .btw (128) 16384, true, none⟩
/-- 0x2523.02: Largest change per update; P -/
def Obj.EST_CAL_STEP_PPM : ObjDef :=
  ⟨0x2523, 1, 2, 1, .u32, .rw, 4, [10000], .btw (100) 100000, true, none⟩
/-- 0x2523.03: Estimates applied -/
def Obj.EST_CAL_UPDATES : ObjDef :=
  ⟨0x2523, 1, 3, 1, .u32, .ro, 4, [0], .any, false, none⟩
/-- 0x2523.04: Estimates discarded per R254 -/
def Obj.EST_CAL_DISCARDS : ObjDef :=
  ⟨0x2523, 1, 4, 1, .u32, .ro, 4, [0], .any, false, none⟩
/-- 0x2540.01: Per R256 -/
def Obj.EST_LIFE_RESET : ObjDef :=
  ⟨0x2540, 1, 1, 1, .u8, .wo, 1, [0], .bits 0x1F, false, none⟩
/-- 0x3070.00: OCV tables per R242; P, G -/
def Obj.EST_OCV_WINDOW : ObjDef :=
  ⟨0x3070, 1, 0, 1, .domain, .rws, 8192, [0], .any, true, some 3⟩
/-- 0x3071.00: Lifetime records per R255 -/
def Obj.EST_LIFE_WINDOW : ObjDef :=
  ⟨0x3071, 1, 0, 1, .domain, .ro, 960, [0], .any, false, none⟩
/-- 0x2600.00: 0 none, 1 Feed 1, 2 Feed 2, 3 transfer, 4 ride-through -/
def Obj.FEED_STATE : ObjDef :=
  ⟨0x2600, 1, 0, 1, .u8, .ro, 1, [0], .btw (0) 4, false, none⟩
/-- 0x2601.01: Feed taken at START; P -/
def Obj.FEED_PREFERRED : ObjDef :=
  ⟨0x2601, 1, 1, 1, .u8, .rw, 1, [1], .btw (1) 2, true, none⟩
/-- 0x2601.02: Per R274; P -/
def Obj.FEED_AUTO_TRANSFER : ObjDef :=
  ⟨0x2601, 1, 2, 1, .bool, .rw, 1, [1], .btw 0 1, true, none⟩
/-- 0x2601.03: Per R271 -/
def Obj.FEED_TRANSFER_REQUEST : ObjDef :=
  ⟨0x2601, 1, 3, 1, .u8, .wo, 1, [0], .btw (1) 2, false, none⟩
/-- 0x2601.04: Transfer ramp; P -/
def Obj.FEED_XFER_MS : ObjDef :=
  ⟨0x2601, 1, 4, 1, .u8, .rw, 1, [10], .btw (2) 18, true, none⟩
/-- 0x2602.01–04: Channels of Table 10.1; P -/
def Obj.FEED1_CH_TO_FEED2_I_CH : ObjDef :=
  ⟨0x2602, 1, 1, 4, .u8, .rw, 1, [8, 9, 10, 11], .btw (0) 15, true, none⟩
/-- 0x2602.05: Envelope loss threshold; P -/
def Obj.FEED_LOSS_MV : ObjDef :=
  ⟨0x2602, 1, 5, 1, .u32, .rw, 4, [0x75300], .btw (10000) 1000000, true, none⟩
/-- 0x2602.06: Loss time; P -/
def Obj.FEED_LOSS_US : ObjDef :=
  ⟨0x2602, 1, 6, 1, .u16, .rw, 2, [200], .btw (50) 5000, true, none⟩
/-- 0x2602.07: Presence time; P -/
def Obj.FEED_RETURN_MS : ObjDef :=
  ⟨0x2602, 1, 7, 1, .u16, .rw, 2, [5000], .btw (100) 60000, true, none⟩
/-- 0x2603.01–02: Losses found per R272 -/
def Obj.FEED1_LOSSES_FEED2_LOSSES : ObjDef :=
  ⟨0x2603, 1, 1, 2, .u32, .ro, 4, [0], .any, false, none⟩
/-- 0x2610.00: Grid cap; P -/
def Obj.GRID_CAP_W : ObjDef :=
  ⟨0x2610, 1, 0, 1, .u32, .rw, 4, [0], .btw (0) 2000000, true, none⟩
/-- 0x2611.00: Per R266 -/
def Obj.GRID_CAP_IN_FORCE_W : ObjDef :=
  ⟨0x2611, 1, 0, 1, .u32, .ro, 4, [0], .any, false, none⟩
/-- 0x2612.00: T of the last command frame -/
def Obj.GRID_TARGET_W : ObjDef :=
  ⟨0x2612, 1, 0, 1, .u32, .ro, 4, [0], .any, false, none⟩
/-- 0x2613.00: Per R261 -/
def Obj.GRID_DRAW_W : ObjDef :=
  ⟨0x2613, 1, 0, 1, .u32, .ro, 4, [0], .any, false, none⟩
/-- 0x2614.00: Target rise rate; P -/
def Obj.GRID_RISE_W_MS : ObjDef :=
  ⟨0x2614, 1, 0, 1, .u32, .rw, 4, [0x30D40], .btw (1000) 2000000, true, none⟩
/-- 0x2615.00: Horizon of R269; P -/
def Obj.GRID_FOLLOW_MS : ObjDef :=
  ⟨0x2615, 1, 0, 1, .u16, .rw, 2, [50], .btw (1) 1000, true, none⟩
/-- 0x2616.00: Last deficit -/
def Obj.GRID_DEFICIT_W : ObjDef :=
  ⟨0x2616, 1, 0, 1, .i32, .ro, 4, [0], .any, false, none⟩
/-- 0x2620.01: Per R261; P -/
def Obj.RECT_EFF_PPM : ObjDef :=
  ⟨0x2620, 1, 1, 1, .u32, .rw, 4, [0xECD10], .btw (900000) 1000000, true, none⟩
/-- 0x2620.02: Per R266; P -/
def Obj.RECT_RATED_W : ObjDef :=
  ⟨0x2620, 1, 2, 1, .u32, .rw, 4, [0x1ADB0], .btw (10000) 200000, true, none⟩
/-- 0x2620.03: Bus ramp; P -/
def Obj.RECT_BUS_RAMP_MS : ObjDef :=
  ⟨0x2620, 1, 3, 1, .u16, .rw, 2, [2000], .btw (100) 10000, true, none⟩
/-- 0x2620.04: CURRENT-mode clamp; P -/
def Obj.RECT_CLAMP_MV : ObjDef :=
  ⟨0x2620, 1, 4, 1, .u16, .rw, 2, [16000], .btw (4000) 40000, true, none⟩
/-- 0x2620.05: Per R270; P -/
def Obj.RECT_MIN_ON : ObjDef :=
  ⟨0x2620, 1, 5, 1, .u8, .rw, 1, [10], .btw (1) 12, true, none⟩
/-- 0x2621.00: Fitted rectifiers; P -/
def Obj.RECT_FITTED : ObjDef :=
  ⟨0x2621, 1, 0, 1, .u32, .rw, 4, [0xFFFFFF], .bits 0xFFFFFF, true, none⟩
/-- 0x2622.01: Per R265 -/
def Obj.RECT_HEALTHY : ObjDef :=
  ⟨0x2622, 1, 1, 1, .u32, .ro, 4, [0], .bits 0xFFFFFF, false, none⟩
/-- 0x2622.02: Per R265 -/
def Obj.RECT_READMIT : ObjDef :=
  ⟨0x2622, 1, 2, 1, .u32, .wo, 4, [0], .bits 0xFFFFFF, false, none⟩
/-- 0x2630.01: Ride-through cap; P -/
def Obj.RT_CAP_W : ObjDef :=
  ⟨0x2630, 1, 1, 1, .u32, .rw, 4, [0xAAE60], .btw (100000) 1600000, true, none⟩
/-- 0x2630.02: Per R275 -/
def Obj.RT_ENDURANCE_S : ObjDef :=
  ⟨0x2630, 1, 2, 1, .u32, .ro, 4, [0], .any, false, none⟩
/-- 0x2630.03: Per R275; P -/
def Obj.RT_STOP_S : ObjDef :=
  ⟨0x2630, 1, 3, 1, .u16, .rw, 2, [20], .btw (5) 600, true, none⟩
/-- 0x2630.04: Ride-throughs entered -/
def Obj.RT_EVENTS : ObjDef :=
  ⟨0x2630, 1, 4, 1, .u32, .ro, 4, [0], .any, false, none⟩
/-- 0x2640.01: Per R285; P -/
def Obj.FDR_MAX_RAMPING : ObjDef :=
  ⟨0x2640, 1, 1, 1, .u8, .rw, 1, [4], .btw (1) 4, true, none⟩
/-- 0x2640.02: Per R285; P -/
def Obj.FDR_INRUSH_A : ObjDef :=
  ⟨0x2640, 1, 2, 1, .u8, .rw, 1, [50], .btw (1) 50, true, none⟩
/-- 0x2640.03: Ordinary on-ramp; P -/
def Obj.FDR_ORD_ON_RAMP_MS : ObjDef :=
  ⟨0x2640, 1, 3, 1, .u16, .rw, 2, [50], .btw (1) 500, true, none⟩
/-- 0x2640.04: Ordinary off-ramp; P -/
def Obj.FDR_ORD_OFF_RAMP_MS : ObjDef :=
  ⟨0x2640, 1, 4, 1, .u16, .rw, 2, [50], .btw (1) 500, true, none⟩
/-- 0x2640.05: Per R289; P -/
def Obj.FDR_SETTLE_MS : ObjDef :=
  ⟨0x2640, 1, 5, 1, .u16, .rw, 2, [500], .btw (100) 10000, true, none⟩
/-- 0x2640.06: Per R289; P -/
def Obj.FDR_HOT_INSERT : ObjDef :=
  ⟨0x2640, 1, 6, 1, .bool, .rw, 1, [1], .btw 0 1, true, none⟩
/-- 0x2641.00: Per R288; P -/
def Obj.FDR_TRIP_PLAN : ObjDef :=
  ⟨0x2641, 1, 0, 1, .u64, .rw, 8, [0], .any, true, none⟩
/-- 0x2642.00: Per R289; STATE outside RUN and DRAIN -/
def Obj.FDR_OPEN_REQUEST : ObjDef :=
  ⟨0x2642, 1, 0, 1, .u64, .wo, 8, [0], .any, false, none⟩
/-- 0x2643.00: Per R280 and R289 -/
def Obj.FDR_CLOSE_REQUEST : ObjDef :=
  ⟨0x2643, 1, 0, 1, .u64, .wo, 8, [0], .any, false, none⟩
/-- 0x2644.00: Bit t: feeder CLOSED -/
def Obj.FDR_CLOSED : ObjDef :=
  ⟨0x2644, 1, 0, 1, .u64, .ro, 8, [0], .any, false, none⟩
/-- 0x2645.00: Bit t: feeder TRIPPED -/
def Obj.FDR_TRIPPED : ObjDef :=
  ⟨0x2645, 1, 0, 1, .u64, .ro, 8, [0], .any, false, none⟩
/-- 0x2650.01: Bit t: entry MATCHED -/
def Obj.CST_MATCHED : ObjDef :=
  ⟨0x2650, 1, 1, 1, .u64, .ro, 8, [0], .any, false, none⟩
/-- 0x2650.02: Bit t: entry MISMATCH -/
def Obj.CST_MISMATCH : ObjDef :=
  ⟨0x2650, 1, 2, 1, .u64, .ro, 8, [0], .any, false, none⟩
/-- 0x2650.03: Bit t: entry MISSING -/
def Obj.CST_MISSING : ObjDef :=
  ⟨0x2650, 1, 3, 1, .u64, .ro, 8, [0], .any, false, none⟩
/-- 0x2650.04: Bit t: closed under OVERRIDE without a match -/
def Obj.CST_OVERRIDDEN : ObjDef :=
  ⟨0x2650, 1, 4, 1, .u64, .ro, 8, [0], .any, false, none⟩
/-- 0x2651.00: Bit t: re-read identity; STATE unless feeder t is OPEN -/
def Obj.CST_REVERIFY : ObjDef :=
  ⟨0x2651, 1, 0, 1, .u64, .wo, 8, [0], .any, false, none⟩
/-- 0x3080.00: Consist entries per R282; P -/
def Obj.CST_WINDOW : ObjDef :=
  ⟨0x3080, 1, 0, 1, .domain, .rws, 2048, [0], .any, true, some 4⟩
/-- 0x3081.00: Identity records per R281 -/
def Obj.FDR_IDENTITY_WINDOW : ObjDef :=
  ⟨0x3081, 1, 0, 1, .domain, .ro, 2048, [0], .any, false, none⟩
/-- 0x3082.00: Rectifier status per R264 -/
def Obj.RECT_WINDOW : ObjDef :=
  ⟨0x3082, 1, 0, 1, .domain, .ro, 384, [0], .any, false, none⟩
/-- 0x2700.00: 0 none, 1 ACTIVE, 2 STANDBY, 3 SOLO, 4 RESYNC -/
def Obj.PTN_ROLE : ObjDef :=
  ⟨0x2700, 1, 0, 1, .u8, .ro, 1, [0], .btw (0) 4, false, none⟩
/-- 0x2701.00: 0 slot A, 1 slot B -/
def Obj.PTN_SLOT : ObjDef :=
  ⟨0x2701, 1, 0, 1, .u8, .ro, 1, [0], .btw (0) 1, false, none⟩
/-- 0x2702.00: Partner's role from its last HEARTBEAT; 5 unknown -/
def Obj.PTN_PARTNER_ROLE : ObjDef :=
  ⟨0x2702, 1, 0, 1, .u8, .ro, 1, [5], .btw (0) 5, false, none⟩
/-- 0x2703.00: 0 heartbeat, 1 compare; P, G -/
def Obj.PTN_DETECT_MODE : ObjDef :=
  ⟨0x2703, 1, 0, 1, .u8, .rws, 1, [0], .btw (0) 1, true, some 3⟩
/-- 0x2704.01: Frames of R303 and R304; P, G -/
def Obj.PTN_HB_FRAMES : ObjDef :=
  ⟨0x2704, 1, 1, 1, .u8, .rws, 1, [3], .btw (3) 3, true, some 3⟩
/-- 0x2704.02: Epochs of R305; P, G -/
def Obj.PTN_COMPARE_FRAMES : ObjDef :=
  ⟨0x2704, 1, 2, 1, .u8, .rws, 1, [2], .btw (2) 2, true, some 3⟩
/-- 0x2706.00: Per R314; P -/
def Obj.PTN_AUTO_RESYNC : ObjDef :=
  ⟨0x2706, 1, 0, 1, .bool, .rw, 1, [1], .btw 0 1, true, none⟩
/-- 0x2707.00: Per R314; STATE unless RESYNC -/
def Obj.PTN_RESYNC_REQUEST : ObjDef :=
  ⟨0x2707, 1, 0, 1, .bool, .wo, 1, [0], .btw 0 1, false, none⟩
/-- 0x2708.01: 0 none, 1 no partner, 2 VERSION, 3 LINK, 4 DEMOTED, 5 snapshot failed -/
def Obj.PTN_RESYNC_REASON : ObjDef :=
  ⟨0x2708, 1, 1, 1, .u8, .ro, 1, [0], .btw (0) 5, false, none⟩
/-- 0x2708.02: 0 idle, 1 IDENT, 2 configuration, 3 snapshot, 4 replay -/
def Obj.PTN_RESYNC_STAGE : ObjDef :=
  ⟨0x2708, 1, 2, 1, .u8, .ro, 1, [0], .btw (0) 4, false, none⟩
/-- 0x2709.00: Per R312 -/
def Obj.PTN_SWITCHOVER_REQUEST : ObjDef :=
  ⟨0x2709, 1, 0, 1, .bool, .wo, 1, [0], .btw 0 1, false, none⟩
/-- 0x270A.00: Lane carrying Coupler traffic -/
def Obj.PTN_LANE : ObjDef :=
  ⟨0x270A, 1, 0, 1, .u8, .ro, 1, [8], .btw (8) 9, false, none⟩
/-- 0x270B.00: STANDBY: time from EPOCH_END arrival to epoch completion -/
def Obj.PTN_LAG_NS : ObjDef :=
  ⟨0x270B, 1, 0, 1, .u32, .ro, 4, [0], .any, false, none⟩
/-- 0x2710.01: Takeovers completed -/
def Obj.PTN_TAKEOVERS : ObjDef :=
  ⟨0x2710, 1, 1, 1, .u32, .ro, 4, [0], .any, false, none⟩
/-- 0x2710.02: Planned switchovers -/
def Obj.PTN_SWITCHOVERS : ObjDef :=
  ⟨0x2710, 1, 2, 1, .u32, .ro, 4, [0], .any, false, none⟩
/-- 0x2710.03: Resynchronisations completed -/
def Obj.PTN_RESYNCS : ObjDef :=
  ⟨0x2710, 1, 3, 1, .u32, .ro, 4, [0], .any, false, none⟩
/-- 0x2710.04: Epochs with a digest mismatch -/
def Obj.PTN_MISMATCHES : ObjDef :=
  ⟨0x2710, 1, 4, 1, .u32, .ro, 4, [0], .any, false, none⟩
/-- 0x2710.05: Cells resent per R298 -/
def Obj.PTN_CELL_RESENDS : ObjDef :=
  ⟨0x2710, 1, 5, 1, .u32, .ro, 4, [0], .any, false, none⟩
/-- 0x2710.06: FETCH cells sent -/
def Obj.PTN_FETCHES : ObjDef :=
  ⟨0x2710, 1, 6, 1, .u32, .ro, 4, [0], .any, false, none⟩
/-- 0x2710.09: Per R311 -/
def Obj.PTN_LAST_TAKEOVER_NS : ObjDef :=
  ⟨0x2710, 1, 9, 1, .u32, .ro, 4, [0], .any, false, none⟩
/-- 0x2711.00: Per R313; persistent -/
def Obj.PTN_PATH_AGE_S : ObjDef :=
  ⟨0x2711, 1, 0, 1, .u32, .ro, 4, [0], .any, true, none⟩
/-- 0x2720.01: Per R311; P -/
def Obj.PTN_FOLLOW_TOL_MA : ObjDef :=
  ⟨0x2720, 1, 1, 1, .u16, .rw, 2, [5000], .btw (500) 20000, true, none⟩
/-- 0x2720.02: Per R311; P -/
def Obj.PTN_FOLLOW_FRAMES : ObjDef :=
  ⟨0x2720, 1, 2, 1, .u8, .rw, 1, [8], .btw (2) 64, true, none⟩
/-- 0x2800.00: Sticky bits; writing 1 clears per R324 -/
def Obj.FLT_STATUS : ObjDef :=
  ⟨0x2800, 1, 0, 1, .u64, .rw, 8, [0], .bits 0x803FFFFFFFFFFFFF, false, none⟩
/-- 0x2801.00: Bit k: a set, non-quiet bit has taken a class-k action -/
def Obj.FLT_SUMMARY : ObjDef :=
  ⟨0x2801, 1, 0, 1, .u8, .ro, 1, [0], .bits 0xF, false, none⟩
/-- 0x2802.00: Per R324; STATE unless ACTIVE -/
def Obj.FLT_PARTNER_CLEAR : ObjDef :=
  ⟨0x2802, 1, 0, 1, .u64, .wo, 8, [0], .bits 0x803FFFFFFFFFFFFF, false, none⟩
/-- 0x2803.00: Partner's FLT_STATUS -/
def Obj.FLT_PARTNER_STATUS : ObjDef :=
  ⟨0x2803, 1, 0, 1, .u64, .ro, 8, [0], .any, false, none⟩
/-- 0x2804.00: Line levels now -/
def Obj.FLT_LINES : ObjDef :=
  ⟨0x2804, 1, 0, 1, .u64, .ro, 8, [0], .any, false, none⟩
/-- 0x2805.00: Lines blanked now -/
def Obj.FLT_BLANKED : ObjDef :=
  ⟨0x2805, 1, 0, 1, .u64, .ro, 8, [0], .any, false, none⟩
/-- 0x2806.00: Quiet bits per R329 -/
def Obj.FLT_QUIET : ObjDef :=
  ⟨0x2806, 1, 0, 1, .u64, .ro, 8, [0], .any, false, none⟩
/-- 0x2810.s: Class of bit n; P, F -/
def Obj.FLT_CLASS : ObjDef :=
  ⟨0x2810, 1, 1, 64, .u8, .rws, 1, [2, 2, 1, 1, 3, 3, 0, 2, 2, 2, 1, 2, 2, 3, 3, 0, 1, 0, 2, 2, 0, 1, 1, 1, 0, 1, 0, 1, 1, 1, 1, 1, 1, 1, 2, 1, 3, 3, 1, 3, 1, 1, 1, 0, 3, 0, 1, 1, 1, 2, 1, 0, 0, 0, 0, 0, 0, 0, 0, 0, 0, 0, 0], .btw 0 3, true, some 1⟩
/-- 0x2811.s: Dependency mask of bit n; P, F -/
def Obj.FLT_DEP_MASK : ObjDef :=
  ⟨0x2811, 1, 1, 64, .u64, .rws, 8, [0, 0, 0, 0, 0, 0, 0, 0x2000000000000, 0, 0, 0, 0x4000000000200, 0, 0, 0, 0, 0, 0, 0, 0, 0, 0, 0, 0x400000, 0, 0, 0x400000, 0, 65536, 0, 0, 0, 0, 0x7000000010000, 0xC00000, 0, 0, 0, 0, 0, 0, 0, 0, 0, 0, 0, 0, 0, 0, 0, 0, 0, 0, 0, 0, 0, 0, 0, 0, 0, 0, 0, 0], .any, true, some 1⟩
/-- 0x2812.s: Settle window of bit n; P, F -/
def Obj.FLT_SETTLE_US : ObjDef :=
  ⟨0x2812, 1, 1, 64, .u16, .rws, 2, [0, 0, 0, 0, 0, 0, 0, 100, 0, 0, 0, 1000, 0, 0, 0, 0, 0, 0, 0, 0, 0, 0, 0, 1000, 0, 0, 100, 0, 1000, 0, 0, 0, 0, 1000, 1000, 0, 0, 0, 0, 0, 0, 0, 0, 0, 0, 0, 0, 0, 0, 0, 0, 0, 0, 0, 0, 0, 0, 0, 0, 0, 0, 0, 0], .btw (0) 1000, true, some 1⟩
/-- 0x2820.01: BUS_OV threshold; P, F -/
def Obj.FLT_BUS_OV_MV : ObjDef :=
  ⟨0x2820, 1, 1, 1, .u32, .rws, 4, [0xCD140], .btw (808000) 880000, true, some 1⟩
/-- 0x2820.02: BUS_UV threshold; P, F -/
def Obj.FLT_BUS_UV_MV : ObjDef :=
  ⟨0x2820, 1, 2, 1, .u32, .rws, 4, [0xAFC80], .btw (600000) 792000, true, some 1⟩
/-- 0x2820.03: Consecutive samples, per R321; P, F -/
def Obj.FLT_BUS_SAMPLES : ObjDef :=
  ⟨0x2820, 1, 3, 1, .u8, .rws, 1, [16], .btw (2) 100, true, some 1⟩
/-- 0x2822.01: Die warning, °C; P, F -/
def Obj.FLT_THERMAL_WARN_C : ObjDef :=
  ⟨0x2822, 1, 1, 1, .i8, .rws, 1, [95], .btw (70) 105, true, some 1⟩
/-- 0x2822.02: Die trip, °C; P, F -/
def Obj.FLT_THERMAL_TRIP_C : ObjDef :=
  ⟨0x2822, 1, 2, 1, .i8, .rws, 1, [110], .btw (100) 115, true, some 1⟩
/-- 0x2823.00: Watchdog period; P, F -/
def Obj.FLT_WATCHDOG_MS : ObjDef :=
  ⟨0x2823, 1, 0, 1, .u16, .rws, 2, [5], .btw (1) 100, true, some 1⟩
/-- 0x2825.00: Fabric lane down time; P, F -/
def Obj.FLT_LANE_DOWN_US : ObjDef :=
  ⟨0x2825, 1, 0, 1, .u16, .rws, 2, [1000], .btw (100) 10000, true, some 1⟩
/-- 0x2830.01: Bits injected -/
def Obj.INJ_MASK : ObjDef :=
  ⟨0x2830, 1, 1, 1, .u64, .rw, 8, [0], .bits 0x3FFFFFFFFFFFFF, false, none⟩
/-- 0x2830.02: Dry injection per R329 -/
def Obj.INJ_DRY : ObjDef :=
  ⟨0x2830, 1, 2, 1, .bool, .rw, 1, [0], .btw 0 1, false, none⟩
/-- 0x2830.03: Window length -/
def Obj.INJ_WINDOW_US : ObjDef :=
  ⟨0x2830, 1, 3, 1, .u16, .rw, 2, [10000], .btw (100) 10000, false, none⟩
/-- 0x2830.04: Per R328 -/
def Obj.INJ_START : ObjDef :=
  ⟨0x2830, 1, 4, 1, .bool, .wo, 1, [0], .btw 0 1, false, none⟩
/-- 0x2830.05: A window is open -/
def Obj.INJ_OPEN : ObjDef :=
  ⟨0x2830, 1, 5, 1, .bool, .ro, 1, [0], .btw 0 1, false, none⟩
/-- 0x2830.06: Windows opened since power-up -/
def Obj.INJ_COUNT : ObjDef :=
  ⟨0x2830, 1, 6, 1, .u32, .ro, 4, [0], .any, false, none⟩
/-- 0x2840.01: Least class that drives FAULT_N; P -/
def Obj.FLTN_CLASS : ObjDef :=
  ⟨0x2840, 1, 1, 1, .u8, .rw, 1, [2], .btw (0) 3, true, none⟩
/-- 0x2840.02: Pulse length; P -/
def Obj.FLTN_PULSE_MS : ObjDef :=
  ⟨0x2840, 1, 2, 1, .u16, .rw, 2, [10], .btw (5) 1000, true, none⟩
/-- 0x2840.03: Level outside pulses; STATE in static mode -/
def Obj.FLTN_LEVEL : ObjDef :=
  ⟨0x2840, 1, 3, 1, .bool, .rw, 1, [0], .btw 0 1, false, none⟩
/-- 0x2840.04: 0 pulse, 1 static -/
def Obj.FLTN_MODE : ObjDef :=
  ⟨0x2840, 1, 4, 1, .u8, .ro, 1, [0], .btw (0) 1, false, none⟩
/-- 0x2840.05: FAULT_N now: 0 low, 1 released -/
def Obj.FLTN_PIN : ObjDef :=
  ⟨0x2840, 1, 5, 1, .bool, .ro, 1, [1], .btw 0 1, false, none⟩
/-- 0x2850.01: Operating time, s -/
def Obj.GL_OPERATING_S : ObjDef :=
  ⟨0x2850, 1, 1, 1, .u32, .ro, 4, [0], .any, false, none⟩
/-- 0x2850.02: Power-ups -/
def Obj.GL_POWER_CYCLES : ObjDef :=
  ⟨0x2850, 1, 2, 1, .u32, .ro, 4, [0], .btw (0) 16777215, false, none⟩
/-- 0x2850.03: RECORD_NO of the newest record -/
def Obj.GL_NEWEST : ObjDef :=
  ⟨0x2850, 1, 3, 1, .u32, .ro, 4, [0], .any, false, none⟩
/-- 0x2850.04: Records held -/
def Obj.GL_RECORDS : ObjDef :=
  ⟨0x2850, 1, 4, 1, .u32, .ro, 4, [0], .btw (0) 131072, false, none⟩
/-- 0x2850.05: Bit 0 primary good, bit 1 mirror good, bit 2 volatile ring in use -/
def Obj.GL_RING_STATE : ObjDef :=
  ⟨0x2850, 1, 5, 1, .u8, .ro, 1, [3], .bits 0x7, false, none⟩
/-- 0x2850.06: Records dropped per R337 -/
def Obj.GL_DROPPED : ObjDef :=
  ⟨0x2850, 1, 6, 1, .u32, .ro, 4, [0], .any, false, none⟩
/-- 0x2850.07: Records waiting -/
def Obj.GL_QUEUE : ObjDef :=
  ⟨0x2850, 1, 7, 1, .u16, .ro, 2, [0], .btw (0) 1024, false, none⟩
/-- 0x2851.00: Per R341 -/
def Obj.GL_CLEAR : ObjDef :=
  ⟨0x2851, 1, 0, 1, .bool, .wo, 1, [0], .btw 0 1, false, none⟩
/-- 0x2860.s: Source of counter n; P, G -/
def Obj.CTR_SOURCE : ObjDef :=
  ⟨0x2860, 1, 1, 64, .u16, .rws, 2, [0, 1, 2, 3, 4, 5, 6, 7, 8, 9, 10, 11, 12, 13, 14, 15, 16, 17, 18, 19, 20, 21, 22, 23, 24, 25, 26, 27, 28, 29, 30, 31, 32, 33, 34, 35, 36, 37, 38, 39, 40, 41, 42, 43, 44, 45, 46, 47, 48, 49, 50, 51, 52, 53, 54, 55, 56, 57, 58, 59, 60, 61, 62, 63], .sources, true, some 3⟩
/-- 0x2861.00: Bit c: snapshot of counter c; P, G -/
def Obj.CTR_SNAP_ENABLE : ObjDef :=
  ⟨0x2861, 1, 0, 1, .u64, .rws, 8, [0], .any, true, some 3⟩
/-- 0x2862.00: Bit c clears counter c -/
def Obj.CTR_CLEAR : ObjDef :=
  ⟨0x2862, 1, 0, 1, .u64, .wo, 8, [0], .any, false, none⟩
/-- 0x3090.00: Records per R334 and R339 -/
def Obj.GL_WINDOW : ObjDef :=
  ⟨0x3090, 1, 0, 1, .domain, .ro, 4194304, [0], .any, false, none⟩
/-- 0x3091.00: Volatile ring per R340 -/
def Obj.GL_VOLATILE_WINDOW : ObjDef :=
  ⟨0x3091, 1, 0, 1, .domain, .ro, 262144, [0], .any, false, none⟩
/-- 0x3092.00: Counter records per R344 -/
def Obj.CTR_WINDOW : ObjDef :=
  ⟨0x3092, 1, 0, 1, .domain, .ro, 1024, [0], .any, false, none⟩
/-- 0x1000.00: Vendor -/
def Obj.ID_VENDOR : ObjDef :=
  ⟨0x1000, 1, 0, 1, .str, .ro, 16, [0], .any, false, none⟩
/-- 0x1001.00: Ordering code per R2 -/
def Obj.ID_ORDERING_CODE : ObjDef :=
  ⟨0x1001, 1, 0, 1, .str, .ro, 16, [0], .any, false, none⟩
/-- 0x1002.00: Module serial number -/
def Obj.ID_SERIAL : ObjDef :=
  ⟨0x1002, 1, 0, 1, .str, .ro, 16, [0], .any, false, none⟩
/-- 0x1003.01: Running firmware release, major -/
def Obj.ID_FW_MAJOR : ObjDef :=
  ⟨0x1003, 1, 1, 1, .u8, .ro, 1, [0], .any, false, none⟩
/-- 0x1003.02: Running firmware release, minor -/
def Obj.ID_FW_MINOR : ObjDef :=
  ⟨0x1003, 1, 2, 1, .u8, .ro, 1, [0], .any, false, none⟩
/-- 0x1003.03: Build within the release -/
def Obj.ID_FW_BUILD : ObjDef :=
  ⟨0x1003, 1, 3, 1, .u16, .ro, 2, [0], .any, false, none⟩
/-- 0x1004.00: Package name, for example VA-PZ96-FW-3.1 -/
def Obj.ID_FW_PACKAGE : ObjDef :=
  ⟨0x1004, 1, 0, 1, .str, .ro, 32, [0], .any, false, none⟩
/-- 0x1005.00: Module hardware revision -/
def Obj.ID_HW_REVISION : ObjDef :=
  ⟨0x1005, 1, 0, 1, .u8, .ro, 1, [0], .any, false, none⟩
/-- 0x1006.00: Fused Puzal die identity -/
def Obj.ID_DIE_ID : ObjDef :=
  ⟨0x1006, 1, 0, 1, .u64, .ro, 8, [0], .any, false, none⟩
/-- 0x1007.00: Object dictionary and VOP version; major [7:4] -/
def Obj.ID_OD_VERSION : ObjDef :=
  ⟨0x1007, 1, 0, 1, .u8, .ro, 1, [16], .any, false, none⟩
/-- 0x1010.00: 0 BOOT, 1 SAFE, 2 COMMISSION, 3 START, 4 RUN, 5 DRAIN, 6 STOP, 7 TRIP -/
def Obj.MOD_STATE : ObjDef :=
  ⟨0x1010, 1, 0, 1, .u8, .ro, 1, [0], .btw (0) 7, false, none⟩
/-- 0x1011.00: 1 start, in STOP; 2 stop: RUN to DRAIN, START to STOP, TRIP to STOP when no C3 bit as R322 defines it is set; 3 to COMMISSION, in STOP; 4 module reset, in any state. Otherwise STATE -/
def Obj.MOD_STATE_REQUEST : ObjDef :=
  ⟨0x1011, 1, 0, 1, .u8, .wo, 1, [0], .btw (1) 4, false, none⟩
/-- 0x1012.00: GL_OPERATING_S at the last state change -/
def Obj.MOD_STATE_SINCE_S : ObjDef :=
  ⟨0x1012, 1, 0, 1, .u32, .ro, 4, [0], .any, false, none⟩
/-- 0x1100+p.01: Link of port p up, per R352; 0 from power-up until link is first reached -/
def Obj.MGMT_LINK : ObjDef :=
  ⟨0x1100, 2, 1, 1, .bool, .ro, 1, [0], .btw 0 1, false, none⟩
/-- 0x1100+p.02: Fused MAC address of port p -/
def Obj.MGMT_MAC : ObjDef :=
  ⟨0x1100, 2, 2, 1, .u64, .ro, 8, [0], .any, false, none⟩
/-- 0x1100+p.03: Static IPv6 address; zeros for none; P, M -/
def Obj.MGMT_ADDR : ObjDef :=
  ⟨0x1100, 2, 3, 1, .domain, .rws, 16, [0], .any, true, some 5⟩
/-- 0x1100+p.04: Prefix length of the static address; P, M -/
def Obj.MGMT_PREFIX_LEN : ObjDef :=
  ⟨0x1100, 2, 4, 1, .u8, .rws, 1, [64], .btw (1) 128, true, some 5⟩
/-- 0x1100+p.05: Default router; zeros for none; P, M -/
def Obj.MGMT_GATEWAY : ObjDef :=
  ⟨0x1100, 2, 5, 1, .domain, .rws, 16, [0], .any, true, some 5⟩
/-- 0x1100+p.06: 0 untagged; otherwise VLAN ID; P, M -/
def Obj.MGMT_VLAN : ObjDef :=
  ⟨0x1100, 2, 6, 1, .u16, .rws, 2, [0], .btw (0) 4094, true, some 5⟩
/-- 0x1100+p.07: Port enabled; P, M -/
def Obj.MGMT_ENABLE : ObjDef :=
  ⟨0x1100, 2, 7, 1, .bool, .rws, 1, [1], .btw 0 1, true, some 5⟩
/-- 0x1104.00: VOP port; P, M -/
def Obj.MGMT_UDP_PORT : ObjDef :=
  ⟨0x1104, 1, 0, 1, .u16, .rws, 2, [47041], .btw (1024) 65535, true, some 5⟩
/-- 0x1105.00: Per R357; P, M -/
def Obj.MGMT_LOOPBACK_AS : ObjDef :=
  ⟨0x1105, 1, 0, 1, .u8, .rws, 1, [0], .btw (0) 2, true, some 5⟩
/-- 0x1106.00: Per R357; P -/
def Obj.MGMT_SESSION_TIMEOUT_S : ObjDef :=
  ⟨0x1106, 1, 0, 1, .u16, .rw, 2, [30], .btw (5) 600, true, none⟩
/-- 0x1110+k.01: 0 closed, 1 handshake, 2 open -/
def Obj.SES_STATE : ObjDef :=
  ⟨0x1110, 8, 1, 1, .u8, .ro, 1, [0], .btw (0) 2, false, none⟩
/-- 0x1110+k.02: 0 none, 1 M0, 2 M1 -/
def Obj.SES_MANAGER : ObjDef :=
  ⟨0x1110, 8, 2, 1, .u8, .ro, 1, [0], .btw (0) 2, false, none⟩
/-- 0x1110+k.03: Port 0, 1; 2 loopback -/
def Obj.SES_PORT : ObjDef :=
  ⟨0x1110, 8, 3, 1, .u8, .ro, 1, [0], .btw (0) 2, false, none⟩
/-- 0x1110+k.04: Time since the last authenticated message -/
def Obj.SES_IDLE_MS : ObjDef :=
  ⟨0x1110, 8, 4, 1, .u32, .ro, 4, [0], .any, false, none⟩
/-- 0x1110+k.05: Requests executed -/
def Obj.SES_MESSAGES : ObjDef :=
  ⟨0x1110, 8, 5, 1, .u64, .ro, 8, [0], .any, false, none⟩
/-- 0x1120.00: Per R364; writable without the token -/
def Obj.TOKEN_HOLDER : ObjDef :=
  ⟨0x1120, 1, 0, 1, .u8, .rw, 1, [0], .btw (0) 2, false, none⟩
/-- 0x1121.00: Time since the token was last acquired; 0 while free -/
def Obj.TOKEN_HELD_MS : ObjDef :=
  ⟨0x1121, 1, 0, 1, .u32, .ro, 4, [0], .any, false, none⟩
/-- 0x1122.01: Lapses since power-up -/
def Obj.TOKEN_LAPSES : ObjDef :=
  ⟨0x1122, 1, 1, 1, .u32, .ro, 4, [0], .any, false, none⟩
/-- 0x1122.02: Per R366; 0 none -/
def Obj.TOKEN_LAST_CAUSE : ObjDef :=
  ⟨0x1122, 1, 2, 1, .u8, .ro, 1, [0], .btw (0) 4, false, none⟩
/-- 0x1130+m.01: Key slot 0 of manager m; P -/
def Obj.MGMT_PSK_0 : ObjDef :=
  ⟨0x1130, 2, 1, 1, .domain, .wo, 32, [0], .any, true, none⟩
/-- 0x1130+m.02: Key slot 1 of manager m; P -/
def Obj.MGMT_PSK_1 : ObjDef :=
  ⟨0x1130, 2, 2, 1, .domain, .wo, 32, [0], .any, true, none⟩
/-- 0x1130+m.03: Bit 0 slot 0 valid, bit 1 slot 1 valid; P, M -/
def Obj.MGMT_PSK_VALID : ObjDef :=
  ⟨0x1130, 2, 3, 1, .u8, .rws, 1, [0], .btw (0) 3, true, some 5⟩
/-- 0x1130+m.04: Failed handshakes naming manager m -/
def Obj.MGMT_AUTH_FAIL : ObjDef :=
  ⟨0x1130, 2, 4, 1, .u32, .ro, 4, [0], .any, false, none⟩
/-- 0x1138.00: Per R355 -/
def Obj.MGMT_COMMISSION_KEY_OPEN : ObjDef :=
  ⟨0x1138, 1, 0, 1, .bool, .ro, 1, [1], .btw 0 1, false, none⟩
/-- 0x2F00.00: Group mask per R370 -/
def Obj.STG_COMMIT : ObjDef :=
  ⟨0x2F00, 1, 0, 1, .u8, .wo, 1, [0], .bits 0x3F, false, none⟩
/-- 0x2F01.00: Group mask per R374 -/
def Obj.STG_DISCARD : ObjDef :=
  ⟨0x2F01, 1, 0, 1, .u8, .wo, 1, [0], .bits 0x3F, false, none⟩
/-- 0x2F02.00: Bit g: group g holds staged values -/
def Obj.STG_STAGED : ObjDef :=
  ⟨0x2F02, 1, 0, 1, .u8, .ro, 1, [0], .bits 0x3F, false, none⟩
/-- 0x2F03.00: Bit g: commit of group g accepted, not yet in effect -/
def Obj.STG_PENDING : ObjDef :=
  ⟨0x2F03, 1, 0, 1, .u8, .ro, 1, [0], .bits 0x3F, false, none⟩
/-- 0x2F04.00: Staged values per R369 -/
def Obj.STG_STAGED_COUNT : ObjDef :=
  ⟨0x2F04, 1, 0, 1, .u16, .ro, 2, [0], .btw (0) 4096, false, none⟩
/-- 0x2F05.01: Code of the last COMMIT -/
def Obj.STG_RESULT_CODE : ObjDef :=
  ⟨0x2F05, 1, 1, 1, .u8, .ro, 1, [0], .any, false, none⟩
/-- 0x2F05.02: First failing object, index -/
def Obj.STG_RESULT_INDEX : ObjDef :=
  ⟨0x2F05, 1, 2, 1, .u16, .ro, 2, [0], .any, false, none⟩
/-- 0x2F05.03: First failing object, subindex -/
def Obj.STG_RESULT_SUB : ObjDef :=
  ⟨0x2F05, 1, 3, 1, .u8, .ro, 1, [0], .any, false, none⟩
/-- 0x2F05.04: Groups named by the last COMMIT -/
def Obj.STG_RESULT_GROUPS : ObjDef :=
  ⟨0x2F05, 1, 4, 1, .u8, .ro, 1, [0], .bits 0x3F, false, none⟩
/-- 0x2F06.01: COMMITs accepted -/
def Obj.STG_COMMITS : ObjDef :=
  ⟨0x2F06, 1, 1, 1, .u32, .ro, 4, [0], .any, false, none⟩
/-- 0x2F06.02: COMMITs refused -/
def Obj.STG_REFUSALS : ObjDef :=
  ⟨0x2F06, 1, 2, 1, .u32, .ro, 4, [0], .any, false, none⟩
/-- 0x2F07.00: Step at which the last ARBITER or TIMETABLE commit took effect -/
def Obj.STG_EFFECT_STEP : ObjDef :=
  ⟨0x2F07, 1, 0, 1, .u16, .ro, 2, [0], .any, false, none⟩
/-- 0x2F10.00: Per R351 -/
def Obj.STG_RESTORE_DEFAULTS : ObjDef :=
  ⟨0x2F10, 1, 0, 1, .bool, .wo, 1, [0], .btw 0 1, false, none⟩
/-- 0x1200.01: Firmware slot running -/
def Obj.BOOT_SLOT_RUNNING : ObjDef :=
  ⟨0x1200, 1, 1, 1, .u8, .ro, 1, [0], .btw (0) 1, false, none⟩
/-- 0x1200.02: Running image unconfirmed -/
def Obj.BOOT_TRIAL : ObjDef :=
  ⟨0x1200, 1, 2, 1, .bool, .ro, 1, [0], .btw 0 1, false, none⟩
/-- 0x1200.03: 0 power-up, 1 reset request, 2 activation, 3 watchdog, 4 SAFE exit -/
def Obj.BOOT_LAST_CAUSE : ObjDef :=
  ⟨0x1200, 1, 3, 1, .u8, .ro, 1, [0], .btw (0) 4, false, none⟩
/-- 0x1200.04: Per R388; P -/
def Obj.BOOT_CONFIRM_S : ObjDef :=
  ⟨0x1200, 1, 4, 1, .u16, .rw, 2, [300], .btw (60) 3600, true, none⟩
/-- 0x1201+s.01: 0 EMPTY, 1 TRIAL, 2 GOOD, 3 BAD -/
def Obj.IMG_STATE : ObjDef :=
  ⟨0x1201, 2, 1, 1, .u8, .ro, 1, [0], .btw (0) 3, false, none⟩
/-- 0x1201+s.02: RELEASE of the slot -/
def Obj.IMG_RELEASE : ObjDef :=
  ⟨0x1201, 2, 2, 1, .u16, .ro, 2, [0], .any, false, none⟩
/-- 0x1201+s.03: BUILD of the slot -/
def Obj.IMG_BUILD : ObjDef :=
  ⟨0x1201, 2, 3, 1, .u16, .ro, 2, [0], .any, false, none⟩
/-- 0x1201+s.04: SVN of the slot -/
def Obj.IMG_SVN : ObjDef :=
  ⟨0x1201, 2, 4, 1, .u8, .ro, 1, [0], .any, false, none⟩
/-- 0x1201+s.05: DIGEST of the slot -/
def Obj.IMG_DIGEST : ObjDef :=
  ⟨0x1201, 2, 5, 1, .domain, .ro, 32, [0], .any, false, none⟩
/-- 0x1203+s.01: Customer slot -/
def Obj.CUS_STATE : ObjDef :=
  ⟨0x1203, 2, 1, 1, .u8, .ro, 1, [0], .btw (0) 3, false, none⟩
/-- 0x1203+s.02: Customer slot -/
def Obj.CUS_RELEASE : ObjDef :=
  ⟨0x1203, 2, 2, 1, .u16, .ro, 2, [0], .any, false, none⟩
/-- 0x1203+s.03: Customer slot -/
def Obj.CUS_BUILD : ObjDef :=
  ⟨0x1203, 2, 3, 1, .u16, .ro, 2, [0], .any, false, none⟩
/-- 0x1203+s.04: Customer slot -/
def Obj.CUS_SVN : ObjDef :=
  ⟨0x1203, 2, 4, 1, .u8, .ro, 1, [0], .any, false, none⟩
/-- 0x1203+s.05: Customer slot -/
def Obj.CUS_DIGEST : ObjDef :=
  ⟨0x1203, 2, 5, 1, .domain, .ro, 32, [0], .any, false, none⟩
/-- 0x1205.01: Fused SVN -/
def Obj.FUSE_SVN : ObjDef :=
  ⟨0x1205, 1, 1, 1, .u8, .ro, 1, [0], .btw (0) 64, false, none⟩
/-- 0x1205.02: Per R393; persistent -/
def Obj.APP_SVN_FLOOR : ObjDef :=
  ⟨0x1205, 1, 2, 1, .u8, .ro, 1, [0], .btw (0) 255, true, none⟩
/-- 0x1206.00: Bit k slot k programmed; bit 3 + k slot k revoked -/
def Obj.FUSE_KEYS : ObjDef :=
  ⟨0x1206, 1, 0, 1, .u8, .ro, 1, [0], .bits 0x3F, false, none⟩
/-- 0x1208.00: Per R395 -/
def Obj.UPD_CONTROL : ObjDef :=
  ⟨0x1208, 1, 0, 1, .u8, .wo, 1, [0], .btw (1) 5, false, none⟩
/-- 0x1209.00: Image length for BEGIN -/
def Obj.UPD_LENGTH : ObjDef :=
  ⟨0x1209, 1, 0, 1, .u64, .rw, 8, [0], .btw (64) 805306368, false, none⟩
/-- 0x120A.00: Per R395 -/
def Obj.UPD_STATE : ObjDef :=
  ⟨0x120A, 1, 0, 1, .u8, .ro, 1, [0], .btw (0) 5, false, none⟩
/-- 0x120B.01: Code of the last refusal -/
def Obj.UPD_REFUSAL_CODE : ObjDef :=
  ⟨0x120B, 1, 1, 1, .u8, .ro, 1, [0], .any, false, none⟩
/-- 0x120B.02: Per Table 14.6 -/
def Obj.UPD_REFUSAL_REASON : ObjDef :=
  ⟨0x120B, 1, 2, 1, .u8, .ro, 1, [0], .btw (0) 7, false, none⟩
/-- 0x120C.01: As 0x244A.01 -/
def Obj.UPD_PARTNER_STATUS : ObjDef :=
  ⟨0x120C, 1, 1, 1, .u8, .ro, 1, [0], .btw (0) 2, false, none⟩
/-- 0x120C.02: Partner's reason -/
def Obj.UPD_PARTNER_REASON : ObjDef :=
  ⟨0x120C, 1, 2, 1, .u8, .ro, 1, [0], .btw (0) 7, false, none⟩
/-- 0x1210.00: Image bytes per R395 -/
def Obj.UPD_WINDOW : ObjDef :=
  ⟨0x1210, 1, 0, 1, .domain, .wo, 805306368, [0], .any, false, none⟩
/-- 0x1218.00: Per R392; takes effect at the next guest start; P -/
def Obj.APP_IMAGE_SELECT : ObjDef :=
  ⟨0x1218, 1, 0, 1, .u8, .rw, 1, [0], .btw (0) 1, true, none⟩
/-- 0x1219.00: XMSS public key for KIND 0x02; P -/
def Obj.APP_CUSTOMER_KEY : ObjDef :=
  ⟨0x1219, 1, 0, 1, .domain, .rw, 68, [0], .any, true, none⟩
/-- 0x121A.01: 0 off, 1 starting, 2 running, 3 restarting -/
def Obj.APP_STATE : ObjDef :=
  ⟨0x121A, 1, 1, 1, .u8, .ro, 1, [0], .btw (0) 3, false, none⟩
/-- 0x121A.02: Guest restarts -/
def Obj.APP_RESTARTS : ObjDef :=
  ⟨0x121A, 1, 2, 1, .u32, .ro, 4, [0], .any, false, none⟩
/-- 0x121A.03: Per R394 -/
def Obj.APP_RESTART_REQUEST : ObjDef :=
  ⟨0x121A, 1, 3, 1, .bool, .wo, 1, [0], .btw 0 1, false, none⟩
/-- 0x1220.00: Nonce for the next report -/
def Obj.ATT_NONCE : ObjDef :=
  ⟨0x1220, 1, 0, 1, .domain, .rw, 32, [0], .any, false, none⟩
/-- 0x1221.00: Per R399 -/
def Obj.ATT_REQUEST : ObjDef :=
  ⟨0x1221, 1, 0, 1, .bool, .wo, 1, [0], .btw 0 1, false, none⟩
/-- 0x1222.00: 0 idle, 1 signing, 2 done, 3 refused -/
def Obj.ATT_STATE : ObjDef :=
  ⟨0x1222, 1, 0, 1, .u8, .ro, 1, [0], .btw (0) 3, false, none⟩
/-- 0x1223.01: Leaves left -/
def Obj.ATT_REMAINING : ObjDef :=
  ⟨0x1223, 1, 1, 1, .u32, .ro, 4, [0x40000], .btw (0) 262144, false, none⟩
/-- 0x1223.02: Per R399; P -/
def Obj.ATT_LOW_MARK : ObjDef :=
  ⟨0x1223, 1, 2, 1, .u32, .rw, 4, [16384], .btw (0) 131072, true, none⟩
/-- 0x1223.03: Per R399; P -/
def Obj.ATT_MIN_INTERVAL_S : ObjDef :=
  ⟨0x1223, 1, 3, 1, .u32, .rw, 4, [3600], .btw (600) 86400, true, none⟩
/-- 0x1223.04: Reports signed -/
def Obj.ATT_SIGNED : ObjDef :=
  ⟨0x1223, 1, 4, 1, .u32, .ro, 4, [0], .any, false, none⟩
/-- 0x1224.00: Per R400; 0 beyond byte 2,947 -/
def Obj.ATT_REPORT_WINDOW : ObjDef :=
  ⟨0x1224, 1, 0, 1, .domain, .ro, 4096, [0], .any, false, none⟩
/-- 0x1225.00: Per R398 -/
def Obj.ATT_CERT_WINDOW : ObjDef :=
  ⟨0x1225, 1, 0, 1, .domain, .ro, 4096, [0], .any, false, none⟩
/-- 0x1230.01–08: Per Table 14.9 -/
def Obj.SPR_CARTS_LEFT_TO_SPR_MRAM_B_LEFT : ObjDef :=
  ⟨0x1230, 1, 1, 8, .u16, .ro, 2, [0], .any, false, none⟩
/-- 0x1231.00: Spares brought in since manufacture; persistent -/
def Obj.SPR_ENTRIES : ObjDef :=
  ⟨0x1231, 1, 0, 1, .u32, .ro, 4, [0], .any, true, none⟩
/-- 0x1238.01: Working control pairs -/
def Obj.CTL_PAIRS_WORKING : ObjDef :=
  ⟨0x1238, 1, 1, 1, .u16, .ro, 2, [4095], .bits 0x3FFF, false, none⟩
/-- 0x1238.02: Failed control pairs; persistent -/
def Obj.CTL_PAIRS_FAILED : ObjDef :=
  ⟨0x1238, 1, 2, 1, .u16, .ro, 2, [0], .bits 0x3FFF, true, none⟩
/-- 0x1240.01–06: Per Table 14.10 -/
def Obj.AGE_PATH_PPM_TO_AGE_EYE_MV : ObjDef :=
  ⟨0x1240, 1, 1, 6, .u32, .ro, 4, [0], .any, false, none⟩
/-- 0x1241.01–05: Thresholds; P -/
def Obj.AGE_LIMIT_1_TO_AGE_LIMIT_5 : ObjDef :=
  ⟨0x1241, 1, 1, 5, .u32, .rw, 4, [30000, 80, 80, 1000, 20], .any, true, none⟩

/-- Rows of the object tables, part 0. -/
def objTable0 : List ObjDef :=
  [Obj.TRK_STATE,
   Obj.TRK_SOURCE,
   Obj.TRK_BIN_WIDTH,
   Obj.TRK_STEP_NUMBER,
   Obj.TRK_BIN,
   Obj.TRK_BIN_COUNT,
   Obj.TRK_PERIOD_NS,
   Obj.TRK_BIN_DURATION,
   Obj.TRK_PHASE_ERROR_NS,
   Obj.TRK_MISSED,
   Obj.TRK_LOCK_TOL,
   Obj.TRK_CAPTURE_BINS,
   Obj.TRK_MARKER_QUORUM,
   Obj.TRK_MARKER_LATENCY_NS,
   Obj.TRK_KP_SHIFT,
   Obj.TRK_KI_SHIFT,
   Obj.TRK_PERIOD_MIN_MS,
   Obj.TRK_PERIOD_MAX_MS,
   Obj.TRK_SEARCH_LIMIT_S,
   Obj.TRK_HOLDOVER_MAX,
   Obj.TRK_EARLY_WINDOW_NS,
   Obj.TRK_LOAD_OFFSET_NS,
   Obj.TRK_STEPS_LOCKED,
   Obj.TT_LIVE_PAGE,
   Obj.TT_SHADOW_STATE,
   Obj.TT_SHADOW_BIN_COUNT,
   Obj.TT_SHADOW_BIN_WIDTH,
   Obj.TT_SHADOW_SEQUENCE,
   Obj.TT_LIVE_BIN_COUNT,
   Obj.TT_LIVE_BIN_WIDTH,
   Obj.TT_LIVE_SEQUENCE,
   Obj.TT_WRITER,
   Obj.TT_MAINT_INTERVAL,
   Obj.TT_FALLBACK_SHARE,
   Obj.TT_EXCURSION_BINS,
   Obj.TT_SYNTH_ACTIVE,
   Obj.TT_REFUSAL_CODE,
   Obj.TT_REFUSAL_ROW,
   Obj.TT_SWAP_COUNT,
   Obj.TT_EXCURSION_STEPS,
   Obj.SIG_RATE_SHIFT,
   Obj.SIG_FREEZE,
   Obj.SIG_STEPS_LEARNED,
   Obj.TT_SHADOW_WINDOW,
   Obj.TT_LIVE_WINDOW,
   Obj.SIG_WINDOW,
   Obj.TKT_VERSION,
   Obj.TKT_ENCAP,
   Obj.TKT_ETHERTYPE,
   Obj.TKT_UDP_PORT,
   Obj.TKT_GROUP_MAC,
   Obj.TKT_GROUP_IPV6,
   Obj.TKT_VLAN,
   Obj.TKT_SHELF_ID,
   Obj.TKT_TRAY_ENABLE,
   Obj.TKT_FREE_SLOPE,
   Obj.TKT_FLOOR_DEFAULT_W,
   Obj.TKT_FLOOR_SUM_W,
   Obj.TKT_BRAKE_HOLD_BINS,
   Obj.TKT_BRAKE_CHECK_US]

/-- Rows of the object tables, part 1. -/
def objTable1 : List ObjDef :=
  [Obj.TKT_BRAKE_MARGIN_W,
   Obj.TKT_EGRESS_HOLD_NS,
   Obj.TKT_BRAKE_REQUEST,
   Obj.TKT_RX_TICKETS,
   Obj.TKT_RX_BUNDLES,
   Obj.TKT_AUTH_FAIL,
   Obj.TKT_SEQ_DISCARD,
   Obj.TKT_STEP_VOID,
   Obj.TKT_LATE_EFFECTIVE,
   Obj.TKT_LATE_ANSWER,
   Obj.TKT_VERSION_DISCARD,
   Obj.TKT_BUNDLE_DISCARD,
   Obj.TKT_BRAKE_SENT,
   Obj.TKT_BRAKE_NONCOMPLIANT,
   Obj.TKT_RELEASE_UNKNOWN,
   Obj.TKT_MAX_ANSWER_NS,
   Obj.TRAY_KEY_0,
   Obj.TRAY_KEY_1,
   Obj.TRAY_KEY_VALID,
   Obj.TRAY_ADDR,
   Obj.TRAY_AUTH_FAIL,
   Obj.TRAY_BRAKE_NONCOMPLIANT,
   Obj.TRAY_SEQ_RESET,
   Obj.ARB_OPEN,
   Obj.ARB_RESERVE_W,
   Obj.ARB_HEADROOM_W,
   Obj.ARB_COMMITTED_W,
   Obj.ARB_S_W,
   Obj.ARB_S_FAST_W,
   Obj.ARB_S_DEEP_W,
   Obj.ARB_CORRECTION_W,
   Obj.ARB_BASE_W,
   Obj.ARB_MAX_DELTA_P,
   Obj.ARB_PREEMPT,
   Obj.ARB_REVOCABLE,
   Obj.ARB_BURST_LIMIT,
   Obj.ARB_S_HORIZON_MS,
   Obj.ARB_PHASE_RATING_W,
   Obj.ARB_C_MIN_W,
   Obj.ARB_C_MAX_W,
   Obj.ARB_GRANTS,
   Obj.ARB_PARKS,
   Obj.ARB_REVOKE_PREEMPT,
   Obj.ARB_REVOKE_FALL,
   Obj.ARB_RESUMES,
   Obj.ARB_SIDING_GRANTS,
   Obj.ARB_STEP_VOIDS,
   Obj.ARB_MAX_OVERCOMMIT_W,
   Obj.ARB_MAX_SIDING,
   Obj.ARB_COUNTER_CLEAR,
   Obj.ARB_SIDING_COUNT,
   Obj.REQ_TABLE_WINDOW,
   Obj.CNV_STATE,
   Obj.CNV_PWM_PERIOD,
   Obj.CNV_BUS_SET_MV,
   Obj.CNV_SLEW_MV_MS,
   Obj.CNV_REF_MV,
   Obj.CNV_BUS_CH,
   Obj.CNV_BUS_CHECK_CH,
   Obj.CNV_BUS_DISAGREE_MV]

/-- Rows of the object tables, part 2. -/
def objTable2 : List ObjDef :=
  [Obj.CNV_BUS_AVG,
   Obj.CNV_BUS_MV,
   Obj.CNV_FF_GRANT_W,
   Obj.CNV_FF_SCHED_W,
   Obj.CNV_FRAME,
   Obj.CNV_B0_TO_CNV_B3,
   Obj.CNV_A1_TO_CNV_A3,
   Obj.CNV_INDUCTANCE_NH,
   Obj.CNV_LOOP_RES_UOHM,
   Obj.CNV_MIN_WORKING,
   Obj.CNV_P_CMD_W,
   Obj.CNV_U_W,
   Obj.CNV_LIMIT_W,
   Obj.CNV_PH_CONT_W,
   Obj.CNV_PH_PEAK_W,
   Obj.CNV_OVERLOAD_MS,
   Obj.CNV_REFILL_RATIO,
   Obj.CNV_BRAKE_ENABLE,
   Obj.CNV_BRAKE_FF_W,
   Obj.CNV_BRAKE_SLOPE,
   Obj.CNV_BRAKE_EXIT_MA,
   Obj.CNV_BRAKE_MAX_FRAMES,
   Obj.CNV_BRAKE_COUNT,
   Obj.CNV_ALLFIRE_ENABLE,
   Obj.CNV_ALLFIRE_SLOPE,
   Obj.CNV_ALLFIRE_PH_W,
   Obj.CNV_ALLFIRE_COUNT,
   Obj.CNV_SHED_LOAD_PCT,
   Obj.CNV_RESTORE_LOAD_PCT,
   Obj.CNV_SHED_DWELL,
   Obj.CNV_WARM_HOLD,
   Obj.CNV_COLD_WAKE_US,
   Obj.CNV_STEP_FF_W,
   Obj.CNV_CARD_BANK,
   Obj.CNV_SPARE_CARDS,
   Obj.CNV_CARDS_FITTED,
   Obj.CNV_CARDS_FAULTED,
   Obj.CNV_CARD_READMIT,
   Obj.CNV_DEAD_TIME_NS,
   Obj.CNV_SPARE_IN_USE,
   Obj.CNV_WORKING_FAST,
   Obj.CNV_WORKING_DEEP,
   Obj.CNV_WARM_SHED,
   Obj.CNV_COLD_SHED,
   Obj.CNV_FAULTED_PHASES,
   Obj.CNV_TRACK_MODE,
   Obj.CNV_TRACK_LIMIT_W,
   Obj.CNV_TRACK_OFF_MV,
   Obj.CNV_CAL_ENABLE,
   Obj.CNV_CAL_AMPL_W,
   Obj.CNV_BALANCE_SHIFT,
   Obj.CNV_CAL_SEQUENCES,
   Obj.CNV_PHASE_WINDOW,
   Obj.ENG_STATE,
   Obj.ENG_TICK_US,
   Obj.ENG_COMMIT_LEAD_US,
   Obj.ENG_TICK_COUNT,
   Obj.ENG_TICK_MAX_NS,
   Obj.ENG_TICKS_ABANDONED,
   Obj.ENG_CORRECTION_W]

/-- Rows of the object tables, part 3. -/
def objTable3 : List ObjDef :=
  [Obj.ENG_ROWS_RELEASED,
   Obj.ENG_COMMITS,
   Obj.ENG_COMMITS_WITHDRAWN,
   Obj.ENG_CARTS_WORKING,
   Obj.ENG_SPARE_CARTS,
   Obj.ENG_COACHES_IN_SERVICE,
   Obj.ENG_HBM_SCRUB_H,
   Obj.ENG_SRAM_SCRUB_MIN,
   Obj.ENG_SELFTEST_ENABLE,
   Obj.ENG_HBM_CE,
   Obj.ENG_HBM_UE,
   Obj.ENG_SRAM_CE,
   Obj.ENG_SRAM_UE,
   Obj.ENG_ROW_REPAIRS,
   Obj.ENG_PCH_REPAIRS,
   Obj.ENG_ROW_REPAIR_CE,
   Obj.ENG_BG_AGE_S,
   Obj.LR_BOUND_K,
   Obj.ENG_COACH_WINDOW,
   Obj.MDL_LOAD_CONTROL,
   Obj.MDL_LOAD_LENGTH,
   Obj.MDL_LOAD_STATE,
   Obj.MDL_REFUSAL_CODE,
   Obj.MDL_REFUSAL_REASON,
   Obj.MDL_REFUSAL_COACH,
   Obj.MDL_REFUSAL_EXCESS,
   Obj.MDL_LOADED_ID,
   Obj.MDL_LOADED_REVISION,
   Obj.MDL_LOADED_DIGEST,
   Obj.MDL_RESERVE_ID,
   Obj.MDL_RESERVE_REVISION,
   Obj.MDL_ACTIVE_MODEL,
   Obj.MDL_FORCE_RESERVE,
   Obj.MDL_BUDGET_CYCLES,
   Obj.MDL_WORST_CYCLES,
   Obj.MDL_CHECK_WIDTH,
   Obj.MDL_SWITCH_COUNT,
   Obj.MDL_PARTNER_STATUS,
   Obj.MDL_PARTNER_REASON,
   Obj.MDL_SIGNATURE_REQUIRED,
   Obj.MDL_AUTHOR_KEY,
   Obj.MDL_ADAPT_ENABLE,
   Obj.MDL_ADAPT_SHARE_PCT,
   Obj.MDL_ADAPT_REVERT,
   Obj.MDL_ADAPT_GENERATION,
   Obj.MDL_ADAPT_REJECTED,
   Obj.MDL_WARMUP_LEFT,
   Obj.MDL_LOAD_WINDOW,
   Obj.BNK_STATE,
   Obj.BNK_FAST_CH_TO_BNK_DEEP_CHECK_CH,
   Obj.BNK_DISAGREE_MV,
   Obj.BNK_FAST_LO_MV,
   Obj.BNK_FAST_HI_MV,
   Obj.BNK_DEEP_LO_MV,
   Obj.BNK_DEEP_HI_MV,
   Obj.BNK_FAST_TRIP_MV,
   Obj.BNK_CELL_TRIP_HI_UV,
   Obj.BNK_CELL_TRIP_LO_UV,
   Obj.BNK_CELL_TRIP_C,
   Obj.BNK_PRECHARGE_MV]

/-- Rows of the object tables, part 4. -/
def objTable4 : List ObjDef :=
  [Obj.BNK_PRECHARGE_OFFSET_MV,
   Obj.BNK_PRECHARGE_TIMEOUT_S,
   Obj.BNK_FAST_MIN_MV,
   Obj.BNK_MON_PRESENT,
   Obj.BNK_MON_TIMEOUT_MS,
   Obj.BNK_MON_SUM_TOL_MV,
   Obj.BNK_CELL_MIN_UV,
   Obj.BNK_CELL_MAX_UV,
   Obj.EST_R0_INIT_UOHM,
   Obj.EST_R0_UOHM,
   Obj.EST_R1_UOHM,
   Obj.EST_TAU1_MS,
   Obj.EST_R2_UOHM,
   Obj.EST_TAU2_MS,
   Obj.EST_Q_MAS,
   Obj.EST_Q_COUNT_MAS,
   Obj.EST_Q_VOLT_MAS,
   Obj.EST_SIGMA_MAS,
   Obj.EST_SOC,
   Obj.EST_TEMP_C,
   Obj.EST_CURRENT_MA,
   Obj.EST_REST_AGE_S,
   Obj.EST_FLAGS,
   Obj.EST_DEEP_SOC,
   Obj.EST_E_FAST_J,
   Obj.EST_E_DEEP_J,
   Obj.EST_FAST_TEMP_C,
   Obj.EST_QR_STEPS,
   Obj.EST_QR_REPEAT_MV,
   Obj.EST_DISAGREE_PCT,
   Obj.EST_OCV_SIGMA_UV,
   Obj.EST_COUNT_ERR_PPM,
   Obj.EST_REST_REQUEST,
   Obj.EST_RESTS_TAKEN,
   Obj.EST_TAPER_FAST_MV,
   Obj.EST_TAPER_CELL_UV,
   Obj.EST_TAPER_FAST_MA,
   Obj.EST_TAPER_STRING_MA,
   Obj.EST_TAPER_MS,
   Obj.EST_CAL_SEQ,
   Obj.EST_CAL_STEP_PPM,
   Obj.EST_CAL_UPDATES,
   Obj.EST_CAL_DISCARDS,
   Obj.EST_LIFE_RESET,
   Obj.EST_OCV_WINDOW,
   Obj.EST_LIFE_WINDOW,
   Obj.FEED_STATE,
   Obj.FEED_PREFERRED,
   Obj.FEED_AUTO_TRANSFER,
   Obj.FEED_TRANSFER_REQUEST,
   Obj.FEED_XFER_MS,
   Obj.FEED1_CH_TO_FEED2_I_CH,
   Obj.FEED_LOSS_MV,
   Obj.FEED_LOSS_US,
   Obj.FEED_RETURN_MS,
   Obj.FEED1_LOSSES_FEED2_LOSSES,
   Obj.GRID_CAP_W,
   Obj.GRID_CAP_IN_FORCE_W,
   Obj.GRID_TARGET_W,
   Obj.GRID_DRAW_W]

/-- Rows of the object tables, part 5. -/
def objTable5 : List ObjDef :=
  [Obj.GRID_RISE_W_MS,
   Obj.GRID_FOLLOW_MS,
   Obj.GRID_DEFICIT_W,
   Obj.RECT_EFF_PPM,
   Obj.RECT_RATED_W,
   Obj.RECT_BUS_RAMP_MS,
   Obj.RECT_CLAMP_MV,
   Obj.RECT_MIN_ON,
   Obj.RECT_FITTED,
   Obj.RECT_HEALTHY,
   Obj.RECT_READMIT,
   Obj.RT_CAP_W,
   Obj.RT_ENDURANCE_S,
   Obj.RT_STOP_S,
   Obj.RT_EVENTS,
   Obj.FDR_MAX_RAMPING,
   Obj.FDR_INRUSH_A,
   Obj.FDR_ORD_ON_RAMP_MS,
   Obj.FDR_ORD_OFF_RAMP_MS,
   Obj.FDR_SETTLE_MS,
   Obj.FDR_HOT_INSERT,
   Obj.FDR_TRIP_PLAN,
   Obj.FDR_OPEN_REQUEST,
   Obj.FDR_CLOSE_REQUEST,
   Obj.FDR_CLOSED,
   Obj.FDR_TRIPPED,
   Obj.CST_MATCHED,
   Obj.CST_MISMATCH,
   Obj.CST_MISSING,
   Obj.CST_OVERRIDDEN,
   Obj.CST_REVERIFY,
   Obj.CST_WINDOW,
   Obj.FDR_IDENTITY_WINDOW,
   Obj.RECT_WINDOW,
   Obj.PTN_ROLE,
   Obj.PTN_SLOT,
   Obj.PTN_PARTNER_ROLE,
   Obj.PTN_DETECT_MODE,
   Obj.PTN_HB_FRAMES,
   Obj.PTN_COMPARE_FRAMES,
   Obj.PTN_AUTO_RESYNC,
   Obj.PTN_RESYNC_REQUEST,
   Obj.PTN_RESYNC_REASON,
   Obj.PTN_RESYNC_STAGE,
   Obj.PTN_SWITCHOVER_REQUEST,
   Obj.PTN_LANE,
   Obj.PTN_LAG_NS,
   Obj.PTN_TAKEOVERS,
   Obj.PTN_SWITCHOVERS,
   Obj.PTN_RESYNCS,
   Obj.PTN_MISMATCHES,
   Obj.PTN_CELL_RESENDS,
   Obj.PTN_FETCHES,
   Obj.PTN_LAST_TAKEOVER_NS,
   Obj.PTN_PATH_AGE_S,
   Obj.PTN_FOLLOW_TOL_MA,
   Obj.PTN_FOLLOW_FRAMES,
   Obj.FLT_STATUS,
   Obj.FLT_SUMMARY,
   Obj.FLT_PARTNER_CLEAR]

/-- Rows of the object tables, part 6. -/
def objTable6 : List ObjDef :=
  [Obj.FLT_PARTNER_STATUS,
   Obj.FLT_LINES,
   Obj.FLT_BLANKED,
   Obj.FLT_QUIET,
   Obj.FLT_CLASS,
   Obj.FLT_DEP_MASK,
   Obj.FLT_SETTLE_US,
   Obj.FLT_BUS_OV_MV,
   Obj.FLT_BUS_UV_MV,
   Obj.FLT_BUS_SAMPLES,
   Obj.FLT_THERMAL_WARN_C,
   Obj.FLT_THERMAL_TRIP_C,
   Obj.FLT_WATCHDOG_MS,
   Obj.FLT_LANE_DOWN_US,
   Obj.INJ_MASK,
   Obj.INJ_DRY,
   Obj.INJ_WINDOW_US,
   Obj.INJ_START,
   Obj.INJ_OPEN,
   Obj.INJ_COUNT,
   Obj.FLTN_CLASS,
   Obj.FLTN_PULSE_MS,
   Obj.FLTN_LEVEL,
   Obj.FLTN_MODE,
   Obj.FLTN_PIN,
   Obj.GL_OPERATING_S,
   Obj.GL_POWER_CYCLES,
   Obj.GL_NEWEST,
   Obj.GL_RECORDS,
   Obj.GL_RING_STATE,
   Obj.GL_DROPPED,
   Obj.GL_QUEUE,
   Obj.GL_CLEAR,
   Obj.CTR_SOURCE,
   Obj.CTR_SNAP_ENABLE,
   Obj.CTR_CLEAR,
   Obj.GL_WINDOW,
   Obj.GL_VOLATILE_WINDOW,
   Obj.CTR_WINDOW,
   Obj.ID_VENDOR,
   Obj.ID_ORDERING_CODE,
   Obj.ID_SERIAL,
   Obj.ID_FW_MAJOR,
   Obj.ID_FW_MINOR,
   Obj.ID_FW_BUILD,
   Obj.ID_FW_PACKAGE,
   Obj.ID_HW_REVISION,
   Obj.ID_DIE_ID,
   Obj.ID_OD_VERSION,
   Obj.MOD_STATE,
   Obj.MOD_STATE_REQUEST,
   Obj.MOD_STATE_SINCE_S,
   Obj.MGMT_LINK,
   Obj.MGMT_MAC,
   Obj.MGMT_ADDR,
   Obj.MGMT_PREFIX_LEN,
   Obj.MGMT_GATEWAY,
   Obj.MGMT_VLAN,
   Obj.MGMT_ENABLE,
   Obj.MGMT_UDP_PORT]

/-- Rows of the object tables, part 7. -/
def objTable7 : List ObjDef :=
  [Obj.MGMT_LOOPBACK_AS,
   Obj.MGMT_SESSION_TIMEOUT_S,
   Obj.SES_STATE,
   Obj.SES_MANAGER,
   Obj.SES_PORT,
   Obj.SES_IDLE_MS,
   Obj.SES_MESSAGES,
   Obj.TOKEN_HOLDER,
   Obj.TOKEN_HELD_MS,
   Obj.TOKEN_LAPSES,
   Obj.TOKEN_LAST_CAUSE,
   Obj.MGMT_PSK_0,
   Obj.MGMT_PSK_1,
   Obj.MGMT_PSK_VALID,
   Obj.MGMT_AUTH_FAIL,
   Obj.MGMT_COMMISSION_KEY_OPEN,
   Obj.STG_COMMIT,
   Obj.STG_DISCARD,
   Obj.STG_STAGED,
   Obj.STG_PENDING,
   Obj.STG_STAGED_COUNT,
   Obj.STG_RESULT_CODE,
   Obj.STG_RESULT_INDEX,
   Obj.STG_RESULT_SUB,
   Obj.STG_RESULT_GROUPS,
   Obj.STG_COMMITS,
   Obj.STG_REFUSALS,
   Obj.STG_EFFECT_STEP,
   Obj.STG_RESTORE_DEFAULTS,
   Obj.BOOT_SLOT_RUNNING,
   Obj.BOOT_TRIAL,
   Obj.BOOT_LAST_CAUSE,
   Obj.BOOT_CONFIRM_S,
   Obj.IMG_STATE,
   Obj.IMG_RELEASE,
   Obj.IMG_BUILD,
   Obj.IMG_SVN,
   Obj.IMG_DIGEST,
   Obj.CUS_STATE,
   Obj.CUS_RELEASE,
   Obj.CUS_BUILD,
   Obj.CUS_SVN,
   Obj.CUS_DIGEST,
   Obj.FUSE_SVN,
   Obj.APP_SVN_FLOOR,
   Obj.FUSE_KEYS,
   Obj.UPD_CONTROL,
   Obj.UPD_LENGTH,
   Obj.UPD_STATE,
   Obj.UPD_REFUSAL_CODE,
   Obj.UPD_REFUSAL_REASON,
   Obj.UPD_PARTNER_STATUS,
   Obj.UPD_PARTNER_REASON,
   Obj.UPD_WINDOW,
   Obj.APP_IMAGE_SELECT,
   Obj.APP_CUSTOMER_KEY,
   Obj.APP_STATE,
   Obj.APP_RESTARTS,
   Obj.APP_RESTART_REQUEST,
   Obj.ATT_NONCE]

/-- Rows of the object tables, part 8. -/
def objTable8 : List ObjDef :=
  [Obj.ATT_REQUEST,
   Obj.ATT_STATE,
   Obj.ATT_REMAINING,
   Obj.ATT_LOW_MARK,
   Obj.ATT_MIN_INTERVAL_S,
   Obj.ATT_SIGNED,
   Obj.ATT_REPORT_WINDOW,
   Obj.ATT_CERT_WINDOW,
   Obj.SPR_CARTS_LEFT_TO_SPR_MRAM_B_LEFT,
   Obj.SPR_ENTRIES,
   Obj.CTL_PAIRS_WORKING,
   Obj.CTL_PAIRS_FAILED,
   Obj.AGE_PATH_PPM_TO_AGE_EYE_MV,
   Obj.AGE_LIMIT_1_TO_AGE_LIMIT_5]

/-- Every row of every object table. -/
def objTable : List ObjDef :=
  objTable0 ++ objTable1 ++ objTable2 ++ objTable3 ++ objTable4 ++ objTable5 ++ objTable6 ++ objTable7 ++ objTable8

end Sys2Proof
end

