-- ==== Sys2Proof/Machine/Sparse.lean ====
section
/-! DEFINITION. Sparse tables in canonical form: strictly rising keys and no entry equal to the default `d`, so that
equal tables are equal lists. -/

namespace Sys2Proof

variable {α : Type}

/-- What key `k` holds; an unlisted key holds the default `d`. -/
def sget (d : α) : SMap α → Nat → α
  | [], _ => d
  | (j, v) :: r, k => if j = k then v else sget d r k

/-- `m` without key `k`. -/
def sdel (m : SMap α) (k : Nat) : SMap α := m.filter fun p => p.1 != k

/-- `m` with `v` entered at `k`, in key order. -/
def sins : SMap α → Nat → α → SMap α
  | [], k, v => [(k, v)]
  | (j, w) :: r, k, v =>
    if k < j then (k, v) :: (j, w) :: r
    else if k = j then (k, v) :: r
    else (j, w) :: sins r k v

/-- Writing `v` at `k`: a write of the default removes the entry, so the canonical form is kept. -/
def sput [DecidableEq α] (d : α) (m : SMap α) (k : Nat) (v : α) : SMap α :=
  if v = d then sdel m k else sins m k v

/-- Applying `f` to what key `k` holds. -/
def smod [DecidableEq α] (d : α) (m : SMap α) (k : Nat) (f : α → α) : SMap α := sput d m k (f (sget d m k))

/-- The canonical form: every key above `lo`, strictly rising, and no entry equal to the default. -/
def swfFrom [DecidableEq α] (d : α) : Nat → SMap α → Bool
  | _, [] => true
  | lo, (k, v) :: r => decide (lo ≤ k) && decide (v ≠ d) && swfFrom d (k + 1) r

/-- The canonical form of a table. -/
def swf [DecidableEq α] (d : α) (m : SMap α) : Bool := swfFrom d 0 m

/-- Writing a run of values from key `k` on. -/
def sputRun [DecidableEq α] (d : α) (m : SMap α) (k : Nat) : List α → SMap α
  | [] => m
  | v :: r => sputRun d (sput d m k v) (k + 1) r

/-- Reading `n` values from key `k` on. -/
def sgetRun (d : α) (m : SMap α) (k : Nat) : Nat → List α
  | 0 => []
  | n + 1 => sget d m k :: sgetRun d m (k + 1) n

/-- The entries whose key lies in `[lo, hi)`. -/
def srange (m : SMap α) (lo hi : Nat) : SMap α := m.filter fun p => decide (lo ≤ p.1 ∧ p.1 < hi)

/-- `m` without the entries whose key lies in `[lo, hi)`. -/
def sclear (m : SMap α) (lo hi : Nat) : SMap α := m.filter fun p => !decide (lo ≤ p.1 ∧ p.1 < hi)

/-- `x` inserted before the first member it does not follow. -/
def insertBy {ι : Type} (before : ι → ι → Bool) (x : ι) : List ι → List ι
  | [] => [x]
  | y :: r => if before x y then x :: y :: r else y :: insertBy before x r

/-- A list sorted by `before`. -/
def sortBy {ι : Type} (before : ι → ι → Bool) : List ι → List ι
  | [] => []
  | x :: r => insertBy before x (sortBy before r)

/-- A state transformed once for each member of a list, in order. -/
def each {σ ι : Type} (l : List ι) (f : ι → σ → σ) (s : σ) : σ := l.foldl (fun s i => f i s) s

end Sys2Proof
end

