-- ==== Sys2Proof/Config.lean ====
section
/-! DEFINITION. Values the manual leaves to the part: free values, factory identities and functions whose standards the
manual only cites, each an opaque constant. -/

namespace Sys2Proof

/-- A value the manual leaves open, `w` bits, drawn by the counter `Mach.free`. -/
opaque Config.free (w n : Nat) : BitVec w

/-- R153: the value of the pseudo-random binary sequence at a place of its period of 127; the manual names no
polynomial. -/
opaque Config.prbs (i : Nat) : Bool

/-- R242: amounts, by column and place, from which the release's default deep OCV table rises; the manual does not list its
entries. -/
opaque Config.deepOcv : Nat → Nat → Nat

/-- R133: a quotient whose divisor is a voltage of 0 mV; the manual gives none. -/
opaque Config.noQuotient : Int → BitVec 64

/-- R381: the 32 bytes of DEVICE_SECRET. -/
opaque Config.deviceSecret : List Byte

/-- R398 to R400: a leaf's XMSS-SHAKE256_16_256 signature over a message: the tree's seeds, leaf, message. -/
opaque Config.xmssSign : List Byte → Nat → List Byte → List Byte

/-- R398: the public key of a tree with these seeds, 68 bytes. -/
opaque Config.xmssPublic : List Byte → List Byte

/-- R398: Luholt's public key of 68 bytes, and its XMSS-SHAKE256_20_256 signature over the attestation certificate. -/
opaque Config.luholtCert : List Byte × List Byte

/-- R159: the stream descriptors inside a SCHEDULE section, whose layout belongs to the compiler. -/
opaque Config.scheduleDescs : List Byte → List (BitVec 256)

/-- R226: MODEL_ID and MODEL_REVISION of the reserve model of the firmware package. -/
opaque Config.reserveModel : BitVec 32 × BitVec 16

/-- R381: KEY_HASH_k as programmed at manufacture; `none` for a slot left blank. -/
opaque Config.keyHash : Nat → Option (List Byte)

/-- R381: the 32 bytes of COMMISSION_KEY. -/
opaque Config.commissionKey : List Byte

/-- R381: MAC_0 and MAC_1. -/
opaque Config.mac : Nat → BitVec 48

/-- R381: DIE_ID. -/
opaque Config.dieId : BitVec 64

/-- R348: the module's serial number, 16 bytes. -/
opaque Config.serial : List Byte

/-- R383: RELEASE and BUILD of the image with which the module left the factory. -/
opaque Config.factoryRelease : BitVec 16 × BitVec 16

/-- R383: the SVN of that image. -/
opaque Config.factorySvn : BitVec 8

/-- R383: UPGRADE_FROM and KEY_INDEX of that image. -/
opaque Config.factoryUpgrade : BitVec 16 × BitVec 8

/-- 0x1005: the hardware revision. -/
opaque Config.hwRevision : BitVec 8

/-- R391: which estimation units' tasks a control pair holds. -/
opaque Config.pairOwns (pair unit : Nat) : Bool

/-- R383: the DIGEST of that image, and the digest of its GUEST section. -/
opaque Config.factoryDigest : List Byte × List Byte

end Sys2Proof
end

