-- ==== Sys2Proof/Machine/State.lean ====
section
/-! DEFINITION. The state of the module as plain data: one structure for each part of the die, `Mach` for the loop,
the records and the management, `Life` for fuses, boot and service life, and `State` with the queue of waiting
commands. Times are counts of ns since the model's start; times of the PWM grid are counts of 125 ps (one eighth ns). -/

namespace Sys2Proof.Machine

/-- R21: operating states, in the order of object 0x1010. -/
inductive ModState where
  | boot | safe | commission | start | run | drain | stop | trip
  deriving DecidableEq, Repr

/-- R23: partner roles, coded as object 0x2700; `none` until discovery settles a role. -/
inductive Role where
  | none | active | standby | solo | resync
  deriving DecidableEq, Repr

/-- Everything that leaves the module, newest first in `Mach.out`. -/
inductive Sent where
  /-- A ticket-protocol bundle leaving a fabric port (R56, R69): the 802.1Q tag's control word (0 untagged), the
  Ethertype, the UDP port (0 in Ethertype mode), the destination as learned (R58), and the bundle. -/
  | bundle (port tci ethertype udp : Nat) (dst bytes : List Byte)
  /-- A card-link downlink frame (Table 5.2). -/
  | card (card : Nat) (frame : Nat)
  /-- The duties of one PWM frame: line-high time and offset per phase, in steps of 78.125 ps. -/
  | duties (highs : List (Nat × Nat × Nat))
  /-- PWM lines driven low (R126, R152). -/
  | linesLow
  /-- A feeder downlink frame (Table 10.8). -/
  | feeder (tray : Nat) (frame : Nat)
  /-- A rectifier command frame on CAN FD bus 0 (Table 10.2). -/
  | rect (feed : Nat) (frame : Nat)
  /-- A start of an identity read on a tray's sideband (R281). -/
  | identRead (tray : Nat)
  /-- A Coupler cell to the partner (Table 11.2): kind, sequence number and body. -/
  | cell (kind seq : Nat) (body : List Byte)
  /-- A heartbeat pulse on path W (R423). -/
  | hbW
  /-- A DEMOTE pulse on path W (R423). -/
  | demoteW
  /-- A VOP message to session `k` (R358). -/
  | vop (k : Nat) (bytes : List Byte)
  /-- A DTLS handshake answer: accepted or alert (R353, R357). -/
  | dtls (port : Nat) (ok : Bool)
  /-- A HelloRetryRequest with a cookie (R353). -/
  | helloRetry (port : Nat)
  /-- Feeder output commands and pins that have no frame of their own. -/
  | pin (name : Nat) (level : Bool)
  deriving DecidableEq, Repr

/-! ### Faults, log and counters (chapter 12) -/

/-- R325: one open blanking window: the bit whose event opened it, when, when it ends, what it blanks, and that bit's class. -/
structure BlankWin where
  src  : Nat
  from_ : Nat
  ends : Nat
  mask : Nat
  cls  : Nat
  deriving DecidableEq, Repr

/-- R328: the open injection window. -/
structure InjWin where
  ends   : Nat
  mask   : Nat
  dry    : Bool
  count  : Nat
  pulsed : Bool
  deriving DecidableEq, Repr

/-- The Fault Collector: FLT_STATUS, the error lines, quiet bits, the class actions each set bit has taken (a mask of
classes), blanking, injection and FAULT_N; `edges` holds source and data of the last rising edge of each asserted line. -/
structure FaultColl where
  status   : Nat := 0
  lines    : Nat := 0
  quiet    : Nat := 0
  taken    : SMap Nat := []
  wins     : List BlankWin := []
  ignored  : Nat := 0
  edges    : SMap (Nat × Nat) := []
  lowest   : SMap Nat := []
  inj      : Option InjWin := none
  pulseEnd : Option Nat := none
  staticN  : Bool := false
  partner  : Nat := 0
  deriving DecidableEq, Repr

/-- Consecutive-sample counts of the detectors of R321. -/
structure Detect where
  ovHi : Nat := 0
  ovLo : Nat := 0
  uvLo : Nat := 0
  uvHi : Nat := 0
  uvArmed : Bool := false
  warnHi : Nat := 0
  warnLo : Nat := 0
  tripHi : Nat := 0
  tripLo : Nat := 0
  deriving DecidableEq, Repr

/-- A Guard Log record before its CHECK is formed (Table 12.4). -/
structure GRec where
  code   : Nat
  source : Nat
  data   : Nat
  first  : Nat
  last   : Nat
  cycle  : Nat
  rep    : Nat
  no     : Nat
  step   : Nat
  bin    : Nat
  inWin  : Bool
  capped : Bool
  deriving DecidableEq, Repr

/-- The Guard Log: the SRAM queue (oldest first), the newest record, the rings by slot as 256-bit records, and the
figures kept in MRAM (R337 to R341). -/
structure GuardLog where
  queue    : List GRec := []
  newest   : Option GRec := none
  nextNo   : Nat := 0
  prim     : SMap Nat := []
  mirr     : SMap Nat := []
  volat    : SMap Nat := []
  primBad  : Bool := false
  mirrBad  : Bool := false
  volUsed  : Bool := false
  dropped  : Nat := 0
  lost     : Nat := 0
  opBase   : Nat := 0
  upAt     : Nat := 0
  cycles   : Nat := 0
  deriving DecidableEq, Repr

/-- The 64 event counters: value, events since the previous wrap, and the last snapshot (R342, R343); `cyc` holds the events
of the cycle `cycAt`. -/
structure Counters where
  val      : SMap Nat := []
  inStep   : SMap Nat := []
  cycAt    : Nat := 0
  cyc      : SMap Nat := []
  snap     : SMap Nat := []
  snapStep : SMap Nat := []
  deriving DecidableEq, Repr

/-! ### Step phase and the timetable (chapter 2) -/

/-- R28: tracker states, in the order of object 0x2000. -/
inductive TrkState where
  | search | track | locked | holdover | aperiodic
  deriving DecidableEq, Repr

/-- The Step Phase Tracker. `binT` is the start of the bin in progress and `nextT` its end in units of 2⁻¹⁴ ns, `wrapT`
the wrap that began the step (ns); `lenNext` the length that an event accepted before the next wrap gives the step that
begins there (R31); `stretch`
says that bin N - 1 stretches (R30). `lastEvt` is the last accepted event, `spacing` the spacing before it, `cand` an
event outside the window in HOLDOVER. `hit` says that the wrap ahead has its event already, `capClose` the close of the
window of the wrap just placed while it has none; `held` and `heldLast` are load events waiting for a MARKER in the
window of the wrap ahead and of the wrap just placed (R26); `adopt` is the step number of the next wrap (R27), `toAper`
says that the next wrap enters APERIODIC. `mark` lists the MARKER senders by step number and `markDone` the numbers whose
event is past; `aggMin` to `prevMax` are the extremes of the aggregate over the step and the step before; `crosses` and
`markers` are the events not yet paired, and `pair` the last MARKER event paired, with its crossing and the offset before (R25). `lockSeen`
says that LOCKED has been entered. -/
structure Tracker where
  st        : TrkState := .search
  step      : Nat := 0
  n         : Nat := 250000
  wCode     : Nat := 3
  d         : Nat := 4000 * 2 ^ 14
  lenNext   : Option Nat := none
  bin       : Nat := 0
  binT      : Nat := 0
  nextT     : Nat := 4000 * 2 ^ 14
  wrapT     : Nat := 0
  stretch   : Bool := false
  period    : Nat := 0
  err       : Int := 0
  missed    : Nat := 0
  lastEvt   : Option Int := none
  spacing   : Option Nat := none
  cand      : Option Int := none
  enteredAt : Nat := 0
  hit       : Bool := false
  capClose  : Option Nat := none
  held      : Option Int := none
  heldLast  : Option Int := none
  adopt     : Option Nat := none
  toAper    : Bool := false
  stepsLocked : Nat := 0
  lockSeen  : Bool := false
  lockedAll : Bool := false
  mark      : List (Nat × List Nat) := []
  markDone  : List Nat := []
  aggMin    : Option Nat := none
  aggMax    : Option Nat := none
  prevMin   : Option Nat := none
  prevMax   : Option Nat := none
  armed     : Bool := true
  offset    : Int := 0
  crosses   : List Int := []
  markers   : List Int := []
  pair      : Option (Int × Int × Int) := none
  deriving DecidableEq, Repr

/-- R45: states of the shadow page, in the order of object 0x2021. -/
inductive ShadowState where
  | copying | opened | committed
  deriving DecidableEq, Repr

/-- One timetable page: rows that differ from the reset row, and the header (R42). -/
structure Page where
  rows  : SMap Nat := []
  count : Nat := 0
  width : Nat := 0
  seq   : Nat := 0
  deriving DecidableEq, Repr

/-- Pages, swap, synthesis and the excursion rule (R37 to R48). `late` says that the standing commit was accepted at or
after the start of the last bin; `bad` lists live rows synthesised after an uncorrectable error; `validating` is the
source of a validation in progress. -/
structure Timetable where
  pages    : Page × Page := ({}, {})
  liveB    : Bool := false
  shadow   : ShadowState := .opened
  copyEnd  : Nat := 0
  late     : Bool := false
  acked    : Bool := false
  valid    : Option Nat := none
  bad      : List Nat := []
  synth    : Bool := true
  mean     : Nat := 0
  excRun   : Nat := 0
  excOn    : Bool := false
  deriving DecidableEq, Repr

/-- The signature table and the updater's samples of the bin in progress: sum (10 mA × mV) and count per tray. -/
structure Signature where
  tab   : SMap Nat := []
  samp  : SMap (Nat × Nat) := []
  deriving DecidableEq, Repr

/-! ### Tickets and the arbiter (chapters 3 and 4) -/

/-- An answer decided and not yet sent. `arrival` is the arrival of the ticket it answers, where R88 measures it. -/
structure Answer where
  kind    : Nat
  reason  : Nat
  rid     : Nat
  ref     : Nat
  step    : Nat
  bin     : Nat
  span    : Nat
  key     : Nat
  at_     : Nat
  arrival : Option Nat
  deriving DecidableEq, Repr

/-- The ticket that an answer answers: its key slot and arrival, and the answer group of its bundle. -/
structure TicketRef where
  key     : Nat
  arrival : Nat
  group   : Option Nat
  deriving DecidableEq, Repr

/-- An open answers bundle: `group` is the ingress bundle whose answers it gathers, with `waiting` of them undecided. -/
structure OpenBundle where
  tray    : Nat
  prio    : Nat
  group   : Option Nat
  waiting : Nat
  first   : Nat
  answers : List Answer
  deriving DecidableEq, Repr

/-- A closed bundle in the egress queue of a port. -/
structure ReadyBundle where
  port    : Nat
  prio    : Nat
  order   : Nat
  tray    : Nat
  answers : List Answer
  deriving DecidableEq, Repr

/-- Per-tray state of the protocol: learned address and port, bundle counter, BRAKE hold and the compliance checks of
R86 that are still to come, oldest first. -/
structure TrayTk where
  addr     : List Byte := []
  port     : Nat := 0
  seq      : Nat := 0
  holdStep : Option Nat := none
  holdEnd  : Nat := 0
  checks   : List Nat := []
  authFail : Nat := 0
  noncomp  : Nat := 0
  draining : Bool := false
  deriving DecidableEq, Repr

/-- Ticket-protocol state outside the arbiter. -/
structure Tickets where
  trays   : SMap TrayTk := []
  open_   : List OpenBundle := []
  ready   : List ReadyBundle := []
  order   : Nat := 0
  group   : Nat := 0
  brakes  : Nat := 0
  recent  : List (Nat × Answer) := []
  deriving DecidableEq, Repr

/-- R99: slot states. -/
inductive SlotState where
  | waiting | live | parked | revoked | held
  deriving DecidableEq, Repr

/-- One queue slot. `bin` and `span` are those of the grant in force; `span0` the SPAN of the GRANT; `lateBin` the bin
in progress at the arrival of a late REQUEST (R72); `early` a REQUEST of the next step held under R50; `task` a
preemption task handed over; `siding` whether the slot holds the siding; `endBin` the END_BIN of a RELEASE. `port` is the
fabric lane its frame came by; `displaced` marks a PARKED request that a revocation put back to HELD (R100); `since` is
when the wait of R118 began, or when a task was handed over. -/
structure Slot where
  seq     : Nat
  step    : Nat
  dp      : Nat
  eff     : Nat
  dur     : Nat
  key     : Nat
  arrival : Nat
  port    : Nat
  group   : Option Nat
  lateBin : Option Nat
  early   : Bool
  st      : SlotState
  task    : Bool
  siding  : Bool
  displaced : Bool
  ready   : Bool
  order   : Nat
  bin     : Nat
  span    : Nat
  span0   : Nat
  endBin  : Option Nat
  revBin  : Nat
  revOrder : Nat
  used    : Nat
  usedJ   : Nat
  since   : Nat
  deriving DecidableEq, Repr

/-- A requester's record (Table 4.8), its queue, floor and SEQ history. -/
structure Requester where
  cls      : Nat := 4
  burst    : Nat := 0
  floor    : Option Nat := none
  floorUp  : Option Nat := none
  power    : Nat := 0
  grants   : Nat := 0
  parks    : Nat := 0
  longest  : Nat := 0
  revokes  : Nat := 0
  lastSeq  : Option Nat := none
  slots    : List Slot := []
  deriving DecidableEq, Repr

/-- A fall task waiting for the revocation unit: size, REVOKE reason (R112). -/
structure FallTask where
  size   : Nat
  reason : Nat
  deriving DecidableEq, Repr

/-- A change of G decided in the cycle `at_`: bins `[lo, hi)` by `dp` (R96); `lane` says that a lane decided it. -/
structure GChange where
  at_  : Nat
  lo   : Nat
  hi   : Nat
  dp   : Int
  lane : Bool
  deriving DecidableEq, Repr

/-- A revoked grant whose request was withdrawn before its REVOKE's BIN: it stays in G over `[lo, hi)` (R110). -/
structure GTail where
  rid : Nat
  dp  : Nat
  lo  : Nat
  hi  : Nat
  deriving DecidableEq, Repr

/-- The supply terms of R12 as one cycle holds them: C, the two banks' s_x, the cap in force, and the excursion rule. -/
structure Terms where
  corr  : Int
  sFast : Nat
  sDeep : Nat
  cap   : Nat
  exc   : Bool
  deriving DecidableEq, Repr

/-- The Headroom Arbiter. `ingress` is the ingress order as (requester, SEQ); `tasks` the preemption tasks in hand-over
order; `pointer` the round-robin pointer by lane × 8 + class; `stopped` the lanes stopped by R98; `corr` the correction
in use, `corrNext` the one that takes effect at the next bin; `tails` what R110 keeps in G without a slot; `acted` the
lanes that have decided in the cycle `actedAt` (R103); `prior` the supply terms before the changes of a cycle, with that
cycle (R117). -/
structure Arbiter where
  reqs     : SMap Requester := []
  ingress  : List (Nat × Nat) := []
  tasks    : List (Nat × Nat) := []
  falls    : List FallTask := []
  pointer  : SMap Nat := []
  stopped  : Nat := 0
  order    : Nat := 0
  changes  : List GChange := []
  tails    : List GTail := []
  actedAt  : Nat := 0
  acted    : Nat := 0
  prior    : Option (Nat × Terms) := none
  corr     : Int := 0
  corrNext : Option Int := none
  sFast    : Nat := 0
  sDeep    : Nat := 0
  clearCtr : Bool := false
  deriving DecidableEq, Repr

/-! ### The storage converter (chapter 5) -/

/-- Object 0x2300. -/
inductive CnvState where
  | off | track | regulate | safe
  deriving DecidableEq, Repr

/-- R141: phase states, in the order of Table 5.9. -/
inductive PhState where
  | spare | working | diode | warmShed | coldShed | faulted
  deriving DecidableEq, Repr

/-- One phase: state, bank (deep), latest corrected current in 5 mA units and raw current, corrections, overload credit
in eighth ns, counts, the duty law's memory and the offset sum of R153. `idleAt` is when a COLD_SHED phase was
commanded IDLE. -/
structure Phase where
  st      : PhState := .spare
  deep    : Bool := false
  raw     : Int := 0
  cur     : Int := 0
  gain    : Nat := 0x4000
  offs    : Int := 0
  credit  : Nat := 2000 * 8000000
  sheds   : Nat := 0
  faults  : Nat := 0
  iPrev   : Int := 0
  trim    : Int := 0
  dFrames : Nat := 0
  wFrames : Nat := 0
  wEntry  : Nat := 0
  idleAt  : Option Nat := none
  offSum  : Int := 0
  offN    : Nat := 0
  missing : Bool := false
  deriving DecidableEq, Repr

/-- One phase card. `removed` is set by R147; `lostBank` names the bank a removed card leaves short and `replacedBy` the
spare chosen for it; `spareFor` the bank a chosen spare is to enter; `doomed` the PHASE_FAULT bits or link cause seen,
acted on at the next compute point; `wrongSlot` and `linkBad` the causes of CARD_LINK. -/
structure Card where
  fitted     : Bool := false
  removed    : Bool := false
  ready      : Bool := false
  selCap     : Bool := false
  selState   : Bool := false
  sampleNo   : Nat := 0
  sampleAt   : Nat := 0
  holder     : Nat := 0
  faultBits  : Nat := 0
  temp       : Nat := 0
  badRun     : Nat := 0
  wrongSlot  : Bool := false
  linkBad    : Bool := false
  lastUp     : Nat := 0
  doomed     : Option Nat := none
  readmit    : Bool := false
  lostBank   : Option Bool := none
  replacedBy : Option Nat := none
  spareFor   : Option Bool := none
  replaces   : Nat := 0
  follows    : Bool := false
  deriving DecidableEq, Repr

/-- How a grant's feedforward ends (R134): at the start of an end bin, or with the frame that contains the start of a
REVOKE's BIN. -/
inductive FfEnd where
  | endBin (b : Nat)
  | revoke (b : Nat)
  deriving DecidableEq, Repr

/-- The feedforward of one grant: requester, SEQ, power, first bin and end. -/
structure FfItem where
  rid   : Nat
  seq   : Nat
  dp    : Nat
  start : Nat
  stop  : FfEnd
  deriving DecidableEq, Repr

/-- One bank's compensator: error and output histories (newest first), power, limit, feedforward, overload credit in
eighth ns, shed dwell, working-phase count and reasons held from one compute point to the next. -/
structure BankReg where
  e       : List Int := [0, 0, 0]
  u       : List Int := [0, 0, 0]
  p       : Int := 0
  lim     : Nat := 0
  ff      : Int := 0
  credit  : Nat := 2000 * 8000000
  dwell   : Nat := 0
  shedAt  : Nat := 0
  deriving DecidableEq, Repr

/-- All-fire (R138): a frame in progress until `ends` (eighth ns), the end of the one regular frame that separates it
from the next, a trigger held for that instant, and whether the regulator has resumed from it. -/
structure AllFire where
  active  : Bool := false
  ends    : Nat := 0
  sepEnd  : Nat := 0
  held    : Bool := false
  resumed : Bool := false
  deriving DecidableEq, Repr

/-- A value that R254 updates at the next boundary: a phase's gain, a unit's R0, or a bank's loop resistance. -/
inductive CalTarget where
  | gain (p : Nat)
  | r0 (u : Nat)
  | loop (bank : Nat)
  deriving DecidableEq, Repr

/-- The perturbation of R153 and the sums of R254: the card, the sign of the frame in progress, the frames of the
running sequence as (p, v in µV, i in mA), the time of the last completion, sequences finished per card with the pooled
sums of p·v, p², P·v, P² (P in 127ths) and p·i, the updates that wait for a boundary, and the bank voltage samples of
the frame in progress (sum in mV and count, fast then deep). -/
structure Calib where
  card     : Nat := 0
  sign     : Int := 0
  frames   : List (Int × Int × Int) := []
  lastDone : Nat := 0
  seqs     : SMap Nat := []
  sums     : SMap (Int × Int × Int × Int × Int) := []
  updates  : List (CalTarget × Int) := []
  frSum    : Int × Int := (0, 0)
  frN      : Nat × Nat := (0, 0)
  deriving DecidableEq, Repr

/-- The regulator. `setAt` is the date of the latest sample set (R421); `frameAt` is the start of the frame in progress and `period` its counts of 625 ps; `refUv` the
reference r in µV; `samples` the last 16 bus samples in mV, newest first; `lastAt`, `missing`, `goodRun` and `chan` are
per sense channel; `highs` the duties of the latest compute point; `disagree`, `agreeRun` and `disOn` per pair of
channels (0 bus, 1 fast bank, 2 deep bank); `loud` says that the latest computed frame is an all-fire, braking or
perturbation frame, `loudPrev` that the frame before it was (R252). -/
structure Converter where
  st       : CnvState := .off
  frameAt  : Nat := 0
  period   : Nat := 16000
  k        : Nat := 0
  refUv    : Int := 0
  busMv    : Int := 0
  samples  : List Int := []
  rising   : Nat := 0
  falling  : Nat := 0
  slopeUp  : Bool := false
  lastAt   : SMap Nat := []
  missing  : SMap Nat := []
  goodRun  : SMap Nat := []
  setNo    : Option Nat := none
  setAt    : Nat := 0
  disagree : SMap Nat := []
  agreeRun : SMap Nat := []
  disOn    : SMap Nat := []
  chan     : SMap Nat := []
  banks    : BankReg × BankReg := ({}, {})
  phases   : SMap Phase := []
  cards    : SMap Card := []
  ff       : List FfItem := []
  ffGrant  : Int := 0
  ffSched  : Int := 0
  fire     : AllFire := {}
  settled  : Nat := 0
  cal      : Calib := {}
  downNo   : Nat := 0
  highs    : List (Nat × Nat × Nat) := []
  loud     : Bool := false
  loudPrev : Bool := false
  deriving DecidableEq, Repr

/-! ### Banks and charge estimation (chapter 9) -/

/-- Object 0x2500. -/
inductive BnkState where
  | off | precharge | ready | failed
  deriving DecidableEq, Repr

/-- One estimation unit: count and estimate (nAs), uncertainty of the count and of the rest (nAs), branch voltages
(µV), current (mA), sample interval (µs) and when it began, the sums of R247, disagreement, the operating second of the
last rest, the starts of full and empty taper runs, what the last declaration was, the start of a run of current at or
below the taper current, the residual j (0.01%) with its slew time, and when the last taper declaration was made. -/
structure Unit where
  started  : Bool := false
  qc       : Int := 0
  qv       : Int := 0
  sigma    : Nat := 0
  sigmaR   : Nat := 0
  v1       : Int := 0
  v2       : Int := 0
  i        : Int := 0
  dt       : Nat := 1000
  lastAt   : Nat := 0
  sumT     : Int := 0
  sumV     : Int := 0
  sumO     : Int := 0
  sumQ     : Int := 0
  run      : Nat := 0
  vPrev    : Int := 0
  pending  : Bool := false
  restAt   : Nat := 0
  fullAt   : Option Nat := none
  emptyAt  : Option Nat := none
  lastFull : Option Bool := none
  declared : Bool := false
  quietAt  : Option Nat := none
  j        : Int := 0
  jAt      : Nat := 0
  temp     : Int := 0
  declAt   : Option Nat := none
  deriving DecidableEq, Repr

/-- One module monitor: whether it has reported, last frame and when, and whether it is silent. -/
structure Monitor where
  seen   : Bool := false
  lastAt : Nat := 0
  frame  : Nat := 0
  silent : Bool := false
  deriving DecidableEq, Repr

/-- A lifetime record's fields as kept in SRAM (charges in nAs) or in MRAM (charges in As) (Table 9.8). -/
structure LifeRec where
  tMin : Int := 127
  tMax : Int := -128
  vMin : Nat := 0xFFFFFFFF
  vMax : Nat := 0
  iDis : Nat := 0
  iChg : Nat := 0
  qDis : Nat := 0
  qChg : Nat := 0
  soc  : SMap Nat := []
  tmp  : SMap Nat := []
  upd  : Nat := 0
  deriving DecidableEq, Repr

/-- A run of CAL_REST bins: when it began, the bank it rests (none where the share names none), and whether it still
counts (R252). -/
structure RestRun where
  start : Nat
  deep  : Option Bool
  ok    : Bool
  deriving DecidableEq, Repr

/-- Banks, estimator and lifetime records. `roundSeen` and `sumBad` are the rounds of R236 per string; `allSilent` the
strings whose monitors are all silent; `winSum` (mV) and `winN` the sense samples of each unit's interval; `last` the
samples (mV) of each bank over the last 1,000 µs; `reqAt` when each request bit was set; `linkLost` says that a bank had
SENSE_LINK in the step in progress (R247). -/
structure Banks where
  st       : BnkState := .off
  preAt    : Nat := 0
  units    : SMap Unit := []
  monitors : SMap Monitor := []
  roundSeen : SMap Nat := []
  sumBad   : SMap Nat := []
  allSilent : Nat := 0
  fastHi   : Nat := 0
  fastLo   : Nat := 0
  fastOver : Bool := false
  winSum   : SMap Int := []
  winN     : SMap Nat := []
  last     : List (Nat × Int) × List (Nat × Int) := ([], [])
  reqBits  : Nat := 0
  reqAt    : SMap Nat := []
  overdue  : Nat := 0
  calLate  : Bool := false
  rest     : Option RestRun := none
  linkLost : Bool × Bool := (false, false)
  e        : Nat × Nat := (0, 0)
  deepJ    : Int := 0
  deepJAt  : Nat := 0
  life     : SMap LifeRec := []
  lifeMir  : SMap LifeRec := []
  sram     : SMap LifeRec := []
  lifeAt   : Nat := 0
  deriving DecidableEq, Repr

/-! ### Feeds, feeders and the consist (chapter 10) -/

/-- One rectifier: last status frame and when it came, commanded mode and when it changed, its echo checked since, alarm
line and when it fell, health, silence, a failure that only readmission ends, the start of a run of good conditions and
the time of a readmission write (R264, R265). -/
structure Rect where
  frame   : Nat := 0
  lastAt  : Nat := 0
  seen    : Bool := false
  mode    : Nat := 0
  modeAt  : Nat := 0
  echoed  : Bool := true
  alarm   : Bool := false
  alarmAt : Nat := 0
  healthy : Bool := false
  silent  : Bool := false
  failed  : Bool := false
  goodAt  : Option Nat := none
  readmit : Option Nat := none
  deriving DecidableEq, Repr

/-- One feed: latest envelope (mV) and current (10 mA), envelope above and below its threshold since when, presence, a
loss not yet followed by presence and when it was found, the mode of its rectifiers, the SEQ of its command frames, when
the last was sent, and whether one is owed out of period. -/
structure Feed where
  env      : Nat := 0
  amps     : Nat := 0
  aboveAt  : Option Nat := none
  belowAt  : Option Nat := none
  present  : Bool := false
  lost     : Bool := false
  lostAt   : Nat := 0
  mode     : Nat := 0
  seq      : Nat := 0
  lastCmd  : Nat := 0
  due      : Bool := false
  deriving DecidableEq, Repr

/-- Object 0x2600. -/
inductive FeedState where
  | none | feed1 | feed2 | transfer | rideThrough
  deriving DecidableEq, Repr

/-- The grid side. `inService` is the feed in service (0 or 1), `incoming` the incoming feed of a transfer or of
ride-through, `xferAt` the transfer's write and `tx` the instant at which it reported CURRENT, `capW` the `GRID_CAP_W`
taken into use, `capForce` the cap in force, `tLast` and `tAt` the last target and its time, `busRef` the rectifier bus
reference in µV with a ramp's start, first value and direction, `checkAt` the earliest next check of R269, `agg` the
rack aggregate samples of the last 10 s and `canErr` the CAN FD buses in error. -/
structure Grid where
  st        : FeedState := .none
  feeds     : Feed × Feed := ({}, {})
  rects     : SMap Rect := []
  inService : Option Nat := none
  incoming  : Option Nat := none
  xferAt    : Nat := 0
  tx        : Option Nat := none
  capW      : Nat := 0
  capForce  : Nat := 0
  tLast     : Int := 0
  tAt       : Nat := 0
  rtShort   : Bool := false
  busRef    : Nat := 0
  rampAt    : Option Nat := none
  rampFrom  : Nat := 0
  rampDown  : Bool := false
  checkAt   : Nat := 0
  agg       : List (Nat × Nat) := []
  canErr    : Nat := 0
  deriving DecidableEq, Repr

/-- Feeder states of Table 10.9. -/
inductive FdrState where
  | opened | ramping | closed | tripped
  deriving DecidableEq, Repr

/-- One feeder: what its last good uplink reported, command and ramp, link health, seating, identity record and read in
progress, a close that waits (`wantClose`, from `closeAt` on), the deadline of a closing ramp, an opening after BRAKE,
whether this seating has been closed, whether it closed under OVERRIDE, whether an overcurrent trip waits for a close
request (R280), and its power over the last 100 µs. -/
structure Feeder where
  st       : FdrState := .opened
  cmd      : Nat := 0
  ramp     : Nat := 50
  curr     : Nat := 0
  early    : Bool := false
  oc       : Bool := false
  driveB   : Bool := false
  seated   : Bool := false
  seatedAt : Nat := 0
  temp     : Nat := 0
  badRun   : Nat := 0
  lastUp   : Nat := 0
  linkBad  : Bool := false
  slotBad  : Bool := false
  readBad  : Bool := false
  goodAt   : Nat := 0
  identity : Nat := 0
  reading  : Bool := false
  tries    : Nat := 0
  wantClose : Bool := false
  closeAt  : Nat := 0
  deadline : Option Nat := none
  openAt   : Option Nat := none
  used     : Bool := false
  overrode : Bool := false
  ocHold   : Bool := false
  hist     : List (Nat × Nat) := []
  deriving DecidableEq, Repr

/-- Place in the start sequence (Table 10.13) and in the stop sequence (Table 10.14). -/
inductive SeqPlace where
  | idle | discovery | verify | feed | rectOn | busRamp | precharge | privileged | ordinary
  | stopOrdinary | stopPrivileged | stopRamp | stopOff
  deriving DecidableEq, Repr

/-- Feeders, consist entries (256-bit words as Table 10.11) and the sequence. -/
structure Feeders where
  feeders : SMap Feeder := []
  cst     : SMap Nat := []
  seq     : SeqPlace := .idle
  seqAt   : Nat := 0
  stopAt  : Nat := 0
  downAt  : Nat := 0
  downNo  : Nat := 0
  deriving DecidableEq, Repr

/-! ### Management (chapter 13) -/

/-- A VOP operation as the header and data of its message give it; `env` is an outcome of the surroundings that the
operation needs. -/
inductive VopOp where
  | open_
  | read (staged : Bool) (idx sub len : Nat)
  | write (env : Bool × Bool) (idx sub : Nat) (data : List Byte)
  | readDomain (staged : Bool) (idx sub off len : Nat)
  | writeDomain (idx sub off : Nat) (data : List Byte)
  | keepalive
  | close
  | describe (idx sub : Nat)
  | unknown (op : Nat)
  deriving DecidableEq, Repr

/-- One session. `st`: 0 closed, 1 handshake, 2 open. `cache` holds the last 64 responses, `held` the requests waiting
for a predecessor, `dirty` the objects of R363 whose change has not been notified, `sentAt` their last NOTIFY. -/
structure Session where
  st       : Nat := 0
  mgr      : Nat := 0
  port     : Nat := 0
  addr     : List Byte := []
  local_   : List Byte := []
  keySlot  : Nat := 0
  lastMsg  : Nat := 0
  openedAt : Nat := 0
  count    : Nat := 0
  nextReq  : Nat := 0
  cache    : List (Nat × List Byte) := []
  held     : List (Nat × Nat × VopOp) := []
  dirty    : Nat := 0
  sentAt   : SMap Nat := []
  deriving DecidableEq, Repr

/-- A value staged, pending or persisted: a scalar at its key, a byte of a window, a requester's class and burst limit,
or a consist entry. -/
inductive ObjVal where
  | scalar (key : Nat) (v : Nat)
  | bytes (idx sub off : Nat) (l : List Byte)
  | req (rid cls burst : Nat)
  | cst (tray : Nat) (entry : Nat)
  deriving DecidableEq, Repr

/-- A commit accepted and not yet in effect: its groups, values, the manager, and its acknowledgement. -/
structure Pending where
  mask  : Nat
  vals  : List (Nat × ObjVal)
  mgr   : Nat
  at_   : Nat
  acked : Bool
  solo  : Bool
  late  : Bool
  bulk  : Nat
  rw    : Bool
  deriving DecidableEq, Repr

/-- A persistent transaction on its way to MRAM (R350); `gone` where its objects return to their defaults (R351). -/
structure NvTx where
  vals : List ObjVal
  mgr  : Nat
  at_  : Nat
  gone : Bool
  deriving DecidableEq, Repr

/-- Management: sessions, ports, token, staging, pending commits and the persistent copies; `keyed` lists the key slots
written since manufacture, `waiting` a COMMIT whose page is being validated (session, REQ_ID, group mask), `heardAt` the
last authenticated message of a session of the holder (R366) and `ntfNo` the notification counter (R358). -/
structure Mgmt where
  sessions : SMap Session := []
  linkUp   : Nat := 0
  linkAt   : SMap Nat := []
  holder   : Nat := 0
  heldAt   : Nat := 0
  heardAt  : Nat := 0
  ntfNo    : Nat := 0
  remote   : Nat := 0
  staged   : List (Nat × ObjVal) := []
  pend     : List Pending := []
  dom      : SMap Byte := []
  keyed    : SMap Nat := []
  waiting  : Option (Nat × Nat × Nat) := none
  nvQueue  : List NvTx := []
  nvA      : List ObjVal := []
  nvB      : List ObjVal := []
  deriving DecidableEq, Repr
/-! ### The Long Record, the Forecast Engine and the loader (chapters 6 to 8) -/

/-- One Long Record channel: samples recorded since power-up, blocks closed, the samples waiting in the ingest buffer
(newest first), the bound of the block in progress from sample `split` on and before it, the count below which nothing
may be read (R223), whether the buffer is lost, and the last sample. -/
structure LrChan where
  count  : Nat := 0
  blocks : Nat := 0
  buf    : List Int := []
  k      : Nat := 0
  kPrior : Nat := 0
  split  : Nat := 0
  floor  : Nat := 0
  lost   : Bool := false
  last   : Int := 0
  deriving DecidableEq, Repr

/-- The Long Record: channels, slots as 2,048-bit blocks by channel × 131,072 + slot, and the lost-block bits. -/
structure LongRec where
  chans : SMap LrChan := []
  slots : SMap Nat := []
  lost  : SMap Bool := []
  deriving DecidableEq, Repr

/-- One coach (Table 6.12): failed carts by bit, the logical cart that cart 32 replaces, removal, the working carts that
failed since the last boundary, a removal due there, SRAM error counts, self-test rounds, carts tested in the round,
whether a round ended since the engine's last full one, and carts whose last self-test failed. -/
structure Coach where
  failed   : Nat := 0
  spareFor : Nat := 0x3F
  removed  : Bool := false
  due      : List Nat := []
  dueGone  : Bool := false
  sramCe   : Nat := 0
  sramUe   : Nat := 0
  rounds   : Nat := 0
  tested   : Nat := 0
  round    : Bool := false
  lastFail : Nat := 0
  deriving DecidableEq, Repr

/-- R167: what a tick starts from: the tracker's state, step, bin, N, w and d, the cap, the last correction, the shadow
page's state and writer, every channel's newest sample number and ingest buffer, and the instants, N and d of the last 64
wraps. -/
structure Snapshot where
  st     : TrkState
  step   : Nat
  bin    : Nat
  n      : Nat
  wCode  : Nat
  d      : Nat
  cap    : Nat
  corr   : Int
  shadow : ShadowState
  writer : Nat
  chans  : SMap LrChan
  wraps  : List (Nat × Nat × Nat)
  state  : List Byte
  deriving DecidableEq, Repr

/-- The tick in progress: start, end, snapshot, staged rows, whether its results are lost to a failure, whether a swap or
re-bin fell in it, whether it has published, and whether it started while the module did not drive (R180). -/
structure Tick where
  start  : Nat
  stop   : Nat
  snap   : Snapshot
  rows   : SMap Nat
  dead   : Bool
  moved  : Bool
  done   : Bool
  mute   : Bool
  deriving DecidableEq, Repr

/-- A line of the Depot (R161): its number in the model region, whether HBM holds older bytes, and its 128 bytes. -/
structure DepotLine where
  line  : Nat
  dirty : Bool
  bytes : List Byte
  deriving DecidableEq, Repr

/-- A completion record (R160): coach, DESC_ID, status, first and last element of the range. -/
structure Completion where
  coach  : Nat
  id     : Nat
  status : Nat
  first  : Nat
  last   : Nat
  deriving DecidableEq, Repr

/-- R164: a copy and restore in progress: its pseudo-channel and when it began. -/
structure Restore where
  pch    : Nat
  began  : Nat
  deriving DecidableEq, Repr

/-- The Forecast Engine. `nextAt` is the next tick's start (none while no grid runs); `suspended` says that no tick
starts before the next boundary; `held` are rows that wait for the shadow page to leave COPYING; `changed` says that a
row or the header changed since the last swap, `own` that the standing commit is the engine's; `stepAgg`, `aggSum` and
`aggN` are the aggregate's sums and counts of the last ten steps and of the step in progress; `active` is
MDL_ACTIVE_MODEL and `warm` the warm-up ticks left. HBM's model region is held by byte address, `unread` its granules that
cannot be read (R164, by granule of the region), and `depot` the lines of the Depot by slice and set, the latest used
first. Coach SRAM is held by coach × 2²² + offset, `sramBad` its invalid words by coach × 2¹⁹ + word (R177). `rowCe`
counts corrected errors by pseudo-channel × 2³² + row, `repairDue` the rows marked for repair, `repairs` the repairs per
pseudo-channel, `tempRep` those not yet permanent, `pchUsed` the stacks whose spare is used, `restores` the copies in
progress, `restored` a restore completed since the last boundary, `noSpare` a failure without a spare;
`bgAt` is when each background activity last completed a pass (ns, from power-up), `lastW` the width of the last LOCKED
step since entry to RUN, `noneLatched` the one latch of R227 and `copying` a model image copy in progress. -/
structure Engine where
  nextAt   : Option Nat := none
  tick     : Option Tick := none
  suspended : Bool := false
  held     : Option Tick := none
  changed  : Bool := false
  own      : Bool := false
  wraps    : List (Nat × Nat × Nat) := []
  stepAgg  : List (Nat × Nat) := []
  aggSum   : Nat := 0
  aggN     : Nat := 0
  state    : List Byte := []
  done     : List Completion := []
  coaches  : SMap Coach := []
  sram     : SMap Byte := []
  sramBad  : SMap Bool := []
  hbm      : SMap Byte := []
  unread   : SMap Bool := []
  depot    : SMap (List DepotLine) := []
  rowCe    : SMap Nat := []
  repairDue : List Nat := []
  repairs  : SMap Nat := []
  tempRep  : List Nat := []
  pchUsed  : Nat := 0
  pchMap   : SMap Nat := []
  restores : List Restore := []
  restored : Bool := false
  noSpare  : Bool := false
  bgAt     : SMap Nat := []
  lastW    : Option Nat := none
  active   : Nat := 0
  warm     : Nat := 0
  noneLatched : Bool := false
  copying  : Bool := false
  deriving DecidableEq, Repr

/-- The loader: the RUNNING and INCOMING containers in managed NAND A and B, the container being received and its
announced length, when its erasure, verification and switch began, the running container's HBM slot and its bytes there,
whether a loaded model exists and passed its last check, the adaptation buffer in use and the candidate, who has
acknowledged it, steps since the last flip, a revert's copy, whether the partner has told of a flip or a switch (R222,
R230), whether the container being loaded failed this module's own checks, and whether the one in use did. -/
structure Loader where
  runA     : List Byte := []
  runB     : List Byte := []
  inc      : List Byte := []
  incLen   : Nat := 0
  erasing  : Bool := false
  at_      : Nat := 0
  ackObj   : Option Nat := none
  acked    : Bool := false
  slot     : Nat := 1
  inUse    : List Byte := []
  loaded   : Bool := false
  fits     : Bool := false
  curBuf   : Nat := 0
  cand     : Option (List Byte) := none
  candAck  : Bool := false
  candBulk : Nat := 0
  revert   : Bool := false
  flipSteps : Nat := 0
  flipTold : Bool := false
  switchTold : Bool := false
  unfit    : Bool := false
  barred   : Bool := false
  deriving DecidableEq, Repr

/-! ### Partner modules (chapter 11) -/

/-- An input of the loop, as the STANDBY module keeps it: its own or a forwarded one. `ticket` holds the cycle of its
entry and its bytes (minor version first); `wait` a record whose ticket has not come: cycle, requester, SEQ[7:0], when the
record came and whether FETCH was sent; `ext` an extended record: kind, cycle and value; `sense` a sample set's date,
CH_VALID and samples; `card` and `feeder` an uplink frame; `ident` an identity read, or its failure; `can` an identifier,
arrival time and frame. -/
inductive LoopInput where
  | ticket (cyc : Nat) (bytes : List Byte)
  | wait (cyc rid seqLow since : Nat) (fetched : Bool)
  | ext (kind cyc value : Nat)
  | sense (at_ valid samples : Nat)
  | card (c frame : Nat)
  | feeder (t frame : Nat)
  | ident (t : Nat) (record : Option Nat)
  | can (id at_ frame : Nat)
  deriving DecidableEq, Repr

/-- An epoch forwarded to the STANDBY module: its start, its inputs in order, how many order words came, and the
EPOCH_END payload with its arrival. -/
structure Epoch where
  start : Nat
  items : List LoopInput
  words : Nat
  close : Nat
  at_   : Nat
  deriving DecidableEq, Repr

/-- The epoch that the ACTIVE module is forwarding: its number and start, order records so far, the instant of the last
ticket record, the bits of the answers decided, the correction published, the wrap, whether an all-fire frame began and
the restart of the frame grid. `fresh` holds the records of the tickets of the cycle `lastAt` in lane order, as (lane,
record), and `gap` the cycles since the ticket record before them (R62). -/
structure OpenEpoch where
  no      : Nat := 0
  start   : Nat := 0
  records : Nat := 0
  lastAt  : Nat := 0
  fresh   : List (Nat × Nat) := []
  gap     : Nat := 0
  answers : List Byte := []
  corr    : Option Int := none
  wrap    : Option Nat := none
  rebin   : Bool := false
  fire    : Bool := false
  gridOff : Nat := 0
  deriving DecidableEq, Repr

/-- The partner side. `pMode`, `pRelease` and `pReason` are from the partner's IDENT, HEARTBEAT or RESYNC cell, `ident` the operating state and
role of an IDENT counted in discovery, `discAt` the start of discovery and `holdAt` that of slot A's hold. `gotL` and
`gotW` say that the frame in progress has its heartbeat, `missL` and `missW` count frames without, `heard` the paths that
ever had one and `unheard` the frames with none on either (R365); `polarity` is that of the next pulse; `lastCell` when
the last good cell came; `laneDue` that Coupler traffic is to move. `sent` holds the last cells by CELL_SEQ, `gaps`
missing numbers with the instant found, `heldCells` good cells behind a gap and `lostCell` that a cell is lost; `words` and
`sets` wait for a cell, `seen` are tickets that FETCH may name. `epochs` are forwarded epochs not yet executed (oldest
first), `items`, `got`, `ordLast` and `ordExt` belong to the epoch being received, `lastEnd` and `lastNo` to the last
EPOCH_END; `executing` says that an epoch is being executed; `mismatch` counts
mismatches in a row; `tickets` are a STANDBY module's unused tickets (arrival, requester, SEQ, bytes), `own` its own
inputs since the last order record; `ownAt`, `ownBad` and `ownDown` the health of its own links by kind × 256 + number.
`claimAt` is the detection while a claim is unconfirmed, `firstClaim` its first compute point, `resend` the answers of
R82; `follow` and `astray` R311's frames left and each phase's count; `gate` that the line drivers are off; `claimOff`
that CLAIM is sent clear; `mates` the instant of the last latch that R306 names. `switchDue` is a switchover asked for and
`switchAt` its cut; `bulkIn` the bytes of BULK objects received, `bulkNo` the next identifier, `outBulk` those not yet
acknowledged; `asked` that R314's request was written, `feeding` that a SOLO module feeds a resynchronising partner,
`snapDue` that its snapshot is due, `configured` that the configuration stream is complete; `ageBase` and `drove` are the
path's age when it was last driven and when that was. -/
structure Partner where
  pMode     : Nat := 0
  pRelease  : Option Nat := none
  pReason   : Nat := 0
  ident     : Option (Nat × Nat) := none
  discAt    : Nat := 0
  holdAt    : Option Nat := none
  gotL      : Bool := false
  gotW      : Bool := false
  missL     : Nat := 0
  missW     : Nat := 0
  heard     : Nat := 0
  unheard   : Nat := 0
  polarity  : Bool := true
  lastCell  : Nat := 0
  laneDue   : Bool := false
  txSeq     : Nat := 0
  rxSeq     : Option Nat := none
  sent      : List (Nat × Nat × List Byte) := []
  gaps      : List (Nat × Nat) := []
  heldCells : List (Nat × Nat) := []
  lostCell  : Bool := false
  words     : List Nat := []
  sets      : List (Nat × Nat × Nat) := []
  seen      : List (List Byte) := []
  open_     : OpenEpoch := {}
  epochs    : List Epoch := []
  items     : List LoopInput := []
  got       : Nat := 0
  ordLast   : Nat := 0
  ordExt    : Option (Nat × Nat) := none
  lastEnd   : Nat := 0
  lastNo    : Nat := 0
  executing : Bool := false
  mismatch  : Nat := 0
  tickets   : List (Nat × Nat × Nat × List Byte) := []
  own       : List (Nat × LoopInput) := []
  ownAt     : SMap Nat := []
  ownBad    : SMap Nat := []
  ownDown   : SMap Nat := []
  claimAt   : Option Nat := none
  firstClaim : Option Nat := none
  resend    : List Answer := []
  follow    : Nat := 0
  astray    : SMap Nat := []
  gate      : Bool := false
  claimOff  : Bool := false
  mates     : Option Nat := none
  switchDue : Bool := false
  switchAt  : Option Nat := none
  bulkIn    : SMap (List Byte) := []
  bulkNo    : Nat := 0
  outBulk   : List Nat := []
  asked     : Bool := false
  feeding   : Bool := false
  snapDue   : Bool := false
  configured : Bool := false
  ageBase   : Nat := 0
  drove     : Nat := 0
  deriving DecidableEq, Repr

/-! ### Boot, trust, service life and power (chapters 14 and 15) -/

/-- One image slot: state as object 0x1201.01, bytes, and whether it holds the image that the module left the factory
with. -/
structure ImgSlot where
  st      : Nat := 0
  bytes   : List Byte := []
  factory : Bool := false
  deriving DecidableEq, Repr

/-- The image being loaded: announced length, bytes so far, KIND, its erasure or verification's start, and the BULK
object that forwards it. -/
structure Upload where
  len   : Nat := 0
  bytes : List Byte := []
  kind  : Nat := 0
  at_   : Nat := 0
  erasing : Bool := false
  bulk  : Option Nat := none
  mgr   : Nat := 0
  deriving DecidableEq, Repr

/-- Fuses, boot record, images, control pairs, guest, attestation, spares and power. `revoked` and `svn` are the fuse
fields that change in service; `preferred`, `trial` and `trialBoots` the boot record, `cusPref`, `cusTrial` and `cusBoots`
its like for customer images. `running` is the slot running, `romDone` says that the ROM has handed over, `autoStart`
that the next STOP starts on its own (R397), `activate` a slot to activate after a switchover. `confNs` is the operating
time that counts toward R388, `confAt` when the run in progress began and `confHold` that it waits for STOP. `pairWait`
lists failed pairs whose tasks wait and since when, `romPair` is the pair that the ROM runs on and `keysLost` that the
persisted keys are unreadable (R389). `guest` is APP_STATE, `guestImg` what runs (0 board support package, 1
and 2 customer slots), `guestAt` its start, `guestFails` failures in succession and `guestRun` when it showed that it runs. `leafA` and `leafB` are the next leaf of trees 0 to 3 in MRAM A and B, `attTree` the leaf reserved for the report
being signed, `attAt` the last signature, `attMgr` who asked and `attNonce` the nonce at the request. `ageAt` is when each
ageing record was last written; `blocksA` and `blocksB` the MRAM blocks left. `auxOff` and `auxOffAt` are disconnected
inputs; `warnAt` the power-fail warning, `stopped` the stop after it and `held` the power-on reset (R411). `lane9` is 0
free, 1 fabric lane `lane9For`, 2 Coupler; `lane9Lock` its block lock and `lanesDown` the fabric lanes without theirs. -/
structure Life where
  revoked   : Nat := 0
  svn       : Nat := 0
  fuseBad   : Bool := false
  preferred : Nat := 0
  trial     : Bool := false
  trialBoots : Nat := 0
  img       : ImgSlot × ImgSlot := ({ st := 2, factory := true }, { st := 2, factory := true })
  cus       : ImgSlot × ImgSlot := ({}, {})
  cusPref   : Nat := 0
  cusTrial  : Bool := false
  cusBoots  : Nat := 0
  running   : Nat := 0
  romDone   : Bool := false
  autoStart : Bool := false
  activate  : Option Nat := none
  confAt    : Option Nat := none
  confNs    : Nat := 0
  confHold  : Bool := false
  upd       : Upload := {}
  pairsWork : Nat := 0x0FFF
  pairsSpare : Nat := 0x3000
  pairWait  : List (Nat × Nat) := []
  romPair   : Nat := 0
  keysLost  : Bool := false
  guest     : Nat := 0
  guestImg  : Nat := 0
  guestAt   : Nat := 0
  guestFails : Nat := 0
  guestRun  : Option Nat := none
  leafA     : SMap Nat := []
  leafB     : SMap Nat := []
  attTree   : Option (Nat × Nat) := none
  attAt     : Option Nat := none
  attMgr    : Nat := 0
  attNonce  : List Byte := []
  ageAt     : SMap Nat := []
  blocksA   : Nat := 819
  blocksB   : Nat := 819
  auxOff    : Nat := 0
  auxOffAt  : SMap Nat := []
  warnAt    : Option Nat := none
  stopped   : Bool := false
  held      : Bool := true
  lane9     : Nat := 0
  lane9For  : Option Nat := none
  lane9Lock : Bool := true
  lanesDown : Nat := 0
  deriving DecidableEq, Repr


/-! ### The whole module -/

/-- The loop, its records and its management. `now` is the time in ns, `od` the object registers that differ from their
defaults, `out` what the module has sent (newest first), `free` the counter behind free values. -/
structure Mach where
  now  : Nat := 0
  mode : ModState := .boot
  role : Role := .none
  slotB : Bool := false
  od   : SMap Nat := []
  out  : List Sent := []
  free : Nat := 0
  fc   : FaultColl := {}
  det  : Detect := {}
  gl   : GuardLog := {}
  ctr  : Counters := {}
  trk  : Tracker := {}
  tt   : Timetable := {}
  sig  : Signature := {}
  tk   : Tickets := {}
  arb  : Arbiter := {}
  cnv  : Converter := {}
  bnk  : Banks := {}
  grd  : Grid := {}
  fdr  : Feeders := {}
  mg   : Mgmt := {}
  lr   : LongRec := {}
  eng  : Engine := {}
  ldr  : Loader := {}
  ptn  : Partner := {}
  life : Life := {}
  deriving DecidableEq, Repr

/-- The state of the block: the module, its service life, and the commands waiting, first in first out. -/
structure State where
  m       : Mach := {}
  pending : List Instr := []
  deriving DecidableEq, Repr

/-- A step can stop with a fault; no meaning of this model raises one (safe: the reason is kept for the interface). -/
inductive Fault where
  /-- Raised by nothing: every command of the table has an effect the manual gives (safe). -/
  | none
  deriving DecidableEq, Repr

/-- A step can be refused. -/
inductive Refusal where
  /-- Raised by an arm of `exec` whose command has no meaning yet (safe: the machine stops). -/
  | notModelled (mnemonic : String)
  deriving DecidableEq, Repr

/-- What `exec` and `step` answer. -/
abbrev Out := Host.Outcome State Fault Refusal

/-- The machine at power-up. -/
def State.reset : State := {}

end Sys2Proof.Machine
end

