-- ==== Sys2Proof/Machine/Ops.lean ====
section
/-! DEFINITION. The named operations over the state that every family uses: object registers, what is sent, counters,
the Guard Log queue, bins and timetable rows, and the measured quantities several chapters share. -/

namespace Sys2Proof.Machine

/-! ### Objects -/

/-- The value in force of instance `i`, subindex position `j` of an object. -/
def oGet (d : ObjDef) (i j : Nat) (s : Mach) : Nat := sget (d.default i j) s.od (d.key i j)
/-- The value in force of a single object. -/
def obj (d : ObjDef) (s : Mach) : Nat := oGet d 0 0 s
/-- The value in force of a signed object of `w` bits. -/
def objI (d : ObjDef) (w : Nat) (s : Mach) : Int := toSigned w (obj d s)
/-- Instance `i` of a signed object. -/
def oGetI (d : ObjDef) (w i j : Nat) (s : Mach) : Int := toSigned w (oGet d i j s)
/-- Setting instance `i`, subindex position `j`. -/
def oSet (d : ObjDef) (i j v : Nat) (s : Mach) : Mach :=
  { s with od := sput (d.default i j) s.od (d.key i j) v }
/-- Setting a single object. -/
def setObj (d : ObjDef) (v : Nat) (s : Mach) : Mach := oSet d 0 0 v s
/-- The bits of an object's type. -/
def objBits (d : ObjDef) : Nat := 8 * d.size
/-- A counter object's instance plus `k`, modulo its width. -/
def oAdd (d : ObjDef) (i j k : Nat) (s : Mach) : Mach := oSet d i j ((oGet d i j s + k) % 2 ^ objBits d) s
/-- A counter object plus 1, modulo its width. -/
def incObj (d : ObjDef) (s : Mach) : Mach := oAdd d 0 0 1 s

/-! ### What leaves the module -/

/-- `x` leaves the module. -/
def send (x : Sent) (s : Mach) : Mach := { s with out := x :: s.out }

/-- A free value of `w` bits: an uninterpreted constant at the counter, which advances. -/
def draw (w : Nat) (s : Mach) : Nat × Mach := ((Config.free w s.free).toNat, { s with free := s.free + 1 })

/-- Only an ACTIVE or SOLO module drives outputs and sends egress (R23, R69); a module without a role yet drives its
own shelf during START (R281). -/
def drives (s : Mach) : Bool := decide (s.role = .active ∨ s.role = .solo)

/-- R309: an ACTIVE module that claims sends no egress, no feeder DRIVE and no rectifier command; R305: a DEMOTE on
path W stops the transmitters. -/
def outputs (s : Mach) : Bool := drives s && !s.ptn.gate && !(decide (s.role = .active) && s.ptn.claimAt.isSome)

/-- R23: RESYNC executes no loop. -/
def loops (s : Mach) : Bool := decide (s.role ≠ .resync)

/-! ### Notifications, counters and the Guard Log queue -/

/-- R363: object `n` of the five watched objects changed; every open session owes a NOTIFY. -/
def touch (n : Nat) (s : Mach) : Mach :=
  { s with mg := { s.mg with sessions := s.mg.sessions.map fun p =>
      (p.1, if p.2.st = 2 then { p.2 with dirty := setBit p.2.dirty n } else p.2) } }

/-- The events of the present cycle, by counter. -/
def cycleCounts (s : Mach) : SMap Nat := if s.ctr.cycAt = s.now then s.ctr.cyc else []

/-- R342: `n` events of source `src` on every counter that selects it. -/
def countEvN (src n : Nat) (s : Mach) : Mach :=
  each ((List.range 64).filter fun c => oGet Obj.CTR_SOURCE 0 c s = src) (fun c s =>
    { s with ctr := { s.ctr with
        val    := sput 0 s.ctr.val c ((sget 0 s.ctr.val c + n) % 2 ^ 48)
        inStep := sput 0 s.ctr.inStep c ((sget 0 s.ctr.inStep c + n) % 2 ^ 48)
        cycAt  := s.now
        cyc    := sput 0 (cycleCounts s) c (sget 0 (cycleCounts s) c + n) } }) s

/-- R342: an event of source `src`. -/
def countEv (src : Nat) (s : Mach) : Mach := countEvN src 1 s

/-- R342: counter `c` is 0, and STEP_COUNT at the next wrap counts later events only (Table 12.10). -/
def clearCounter (c : Nat) (s : Mach) : Mach :=
  { s with ctr := { s.ctr with
      val := sput 0 s.ctr.val c 0
      inStep := sput 0 s.ctr.inStep c 0
      cyc := sput 0 s.ctr.cyc c 0 } }

/-- R341: operating time in seconds. -/
def opSeconds (s : Mach) : Nat := s.gl.opBase + (s.now - s.gl.upAt) / 1000000000

/-- Table 12.4: a record as 256 bits, with CHECK over bytes 0 to 29. -/
def recWord (r : GRec) : Nat :=
  let w := (r.code % 2 ^ 16) <<< 240 ||| (r.source % 2 ^ 16) <<< 224 ||| (r.data % 2 ^ 32) <<< 192
    ||| (r.first % 2 ^ 32) <<< 160 ||| (r.last % 2 ^ 32) <<< 128 ||| (r.cycle % 2 ^ 24) <<< 104
    ||| (r.rep % 2 ^ 16) <<< 88 ||| (r.no % 2 ^ 32) <<< 56 ||| (r.step % 2 ^ 16) <<< 40
    ||| (r.bin % 2 ^ 18) <<< 22 ||| b2n r.inWin <<< 21 ||| b2n r.capped <<< 20
  w ||| crc16 ((toBytes 32 w).take 30)

/-- R337: a record is written to its slot of each good ring, or to the volatile ring when both have failed. -/
def ringWrite (r : GRec) (s : Mach) : Mach :=
  let slot := r.no % 131072
  if s.gl.primBad && s.gl.mirrBad then
    { s with gl := { s.gl with
        volat := sput 0 s.gl.volat (r.no % 8192) (recWord r)
        volUsed := true } }
  else
    { s with gl := { s.gl with
        prim := if s.gl.primBad then s.gl.prim else sput 0 s.gl.prim slot (recWord r)
        mirr := if s.gl.mirrBad then s.gl.mirr else sput 0 s.gl.mirr slot (recWord r) } }

/-- R338: the newest record with one merged event more. -/
def mergedRec (r : GRec) (s : Mach) : GRec := { r with rep := min (r.rep + 1) 0xFFFF, last := opSeconds s }

/-- R318, R337, R338: a record is queued, merged into the newest one, or dropped when the queue is full. -/
def logRec (code source data : Nat) (capped : Bool) (s : Mach) : Mach :=
  match s.gl.newest with
  | some r =>
    if r.code = code ∧ r.source = source ∧ r.data = data ∧ r.cycle = s.gl.cycles then
      let r' := mergedRec r s
      let s := countEv 454 { s with gl := { s.gl with newest := some r' } }
      if s.gl.queue = [] then ringWrite r' s
      else { s with gl := { s.gl with queue := s.gl.queue.dropLast ++ [r'] } }
    else push s
  | none => push s
where
  push (s : Mach) : Mach :=
    if 1024 ≤ s.gl.queue.length then
      { s with gl := { s.gl with dropped := (s.gl.dropped + 1) % 2 ^ 32, lost := s.gl.lost + 1 } }
    else
      let r : GRec :=
        ⟨code, source, data, opSeconds s, opSeconds s, s.gl.cycles, 0, s.gl.nextNo, s.trk.step, s.trk.bin,
          s.fc.inj.isSome, capped⟩
      { s with gl := { s.gl with
          queue := s.gl.queue ++ [r]
          newest := some r
          nextNo := (s.gl.nextNo + 1) % 2 ^ 32 } }

/-- A record of an event that is no fault. -/
def log (code source data : Nat) (s : Mach) : Mach := logRec code source data false s

/-- The code of an operating state in object 0x1010. -/
def modeCode : ModState → Nat
  | .boot => 0 | .safe => 1 | .commission => 2 | .start => 3 | .run => 4 | .drain => 5 | .stop => 6 | .trip => 7

/-- The code of a role in object 0x2700. -/
def roleCode : Role → Nat
  | .none => 0 | .active => 1 | .standby => 2 | .solo => 3 | .resync => 4

/-- R388: RUN and STOP count toward the confirmation of an image; after a C3 event they do from the next entry to
STOP. -/
def confirmTime (x : ModState) (s : Mach) : Mach :=
  let counts := decide (s.mode = .run ∨ s.mode = .stop) && !s.life.confHold
  let ns := if counts then s.life.confNs + (s.now - s.life.confAt.getD s.now) else s.life.confNs
  { s with life := { s.life with
      confNs := ns
      confAt := some s.now
      confHold := s.life.confHold && decide (x ≠ .stop) } }

/-- R21, Table 12.6: a change of operating state, with its record and notification. -/
def setMode (x : ModState) (s : Mach) : Mach :=
  if s.mode = x then s
  else
    let old := s.mode
    let s := confirmTime x s
    touch 1 (log 0x0004 0 (modeCode old * 256 + modeCode x)
      (setObj Obj.MOD_STATE_SINCE_S (opSeconds s % 2 ^ 32) { s with mode := x }))

/-- Table 12.6: a change of role, with its record and notification. -/
def setRole (x : Role) (s : Mach) : Mach :=
  if s.role = x then s
  else
    let old := s.role
    touch 2 (log 0x0005 0 (roleCode old * 256 + roleCode x) { s with role := x })

/-! ### Bins and frames -/

/-- The start of bin `b` of the step in progress, in units of 2⁻¹⁴ ns (R31, R36). -/
def binStartQ (b : Nat) (s : Mach) : Nat :=
  if b ≤ s.trk.bin then s.trk.binT - (s.trk.bin - b) * s.trk.d
  else s.trk.nextT + (b - s.trk.bin - 1) * s.trk.d

/-- The start of bin `b` in ns. -/
def binStart (b : Nat) (s : Mach) : Nat := binStartQ b s / 2 ^ 14

/-- The predicted wrap (R29): the end of bin N - 1. -/
def predicted (s : Mach) : Nat := binStart s.trk.n s

/-- The first bin that begins at or after `t` ns. -/
def firstBinFrom (t : Nat) (s : Mach) : Nat :=
  let tq := t * 2 ^ 14
  if tq ≤ s.trk.binT then s.trk.bin
  else if tq ≤ s.trk.nextT then s.trk.bin + 1
  else s.trk.bin + 1 + (tq - s.trk.nextT + s.trk.d - 1) / s.trk.d

/-- Bin width in ns of a width code (R34). -/
def widthNs (c : Nat) : Nat := 1000 * 2 ^ (c - 1)

/-- The length of a PWM frame in eighth ns: counts of 625 ps (R123). -/
def frameLen (s : Mach) : Nat := s.cnv.period * 5

/-- The end, in eighth ns, of the PWM frame that contains the instant `t` (eighth ns). -/
def frameEnd (t : Nat) (s : Mach) : Nat :=
  if t < s.cnv.frameAt then s.cnv.frameAt
  else s.cnv.frameAt + ((t - s.cnv.frameAt) / frameLen s + 1) * frameLen s

/-! ### Measured quantities -/

/-- The record of phase `p`. -/
def phase (p : Nat) (s : Mach) : Phase := sget {} s.cnv.phases p
/-- Phase `p` replaced. -/
def setPhase (p : Nat) (x : Phase) (s : Mach) : Mach :=
  { s with cnv := { s.cnv with phases := sput {} s.cnv.phases p x } }
/-- The record of card `c`. -/
def card (c : Nat) (s : Mach) : Card := sget {} s.cnv.cards c
/-- Card `c` replaced. -/
def setCard (c : Nat) (x : Card) (s : Mach) : Mach :=
  { s with cnv := { s.cnv with cards := sput {} s.cnv.cards c x } }
/-- The record of feeder `t`. -/
def feeder (t : Nat) (s : Mach) : Feeder := sget {} s.fdr.feeders t
/-- Feeder `t` replaced. -/
def setFeeder (t : Nat) (x : Feeder) (s : Mach) : Mach :=
  { s with fdr := { s.fdr with feeders := sput {} s.fdr.feeders t x } }
/-- The record of rectifier `r`. -/
def rect (r : Nat) (s : Mach) : Rect := sget {} s.grd.rects r
/-- Rectifier `r` replaced. -/
def setRect (r : Nat) (x : Rect) (s : Mach) : Mach :=
  { s with grd := { s.grd with rects := sput {} s.grd.rects r x } }
/-- The record of requester `i`. -/
def requester (i : Nat) (s : Mach) : Requester := sget {} s.arb.reqs i
/-- Requester `i` replaced. -/
def setRequester (i : Nat) (x : Requester) (s : Mach) : Mach :=
  { s with arb := { s.arb with reqs := sput {} s.arb.reqs i x } }
/-- The protocol state of tray `t`. -/
def tray (t : Nat) (s : Mach) : TrayTk := sget {} s.tk.trays t
/-- The protocol state of tray `t` replaced. -/
def setTray (t : Nat) (x : TrayTk) (s : Mach) : Mach :=
  { s with tk := { s.tk with trays := sput {} s.tk.trays t x } }
/-- Estimation unit `u`. -/
def unit (u : Nat) (s : Mach) : Unit := sget {} s.bnk.units u
/-- Estimation unit `u` replaced. -/
def setUnit (u : Nat) (x : Unit) (s : Mach) : Mach :=
  { s with bnk := { s.bnk with units := sput {} s.bnk.units u x } }
/-- Session `k`. -/
def session (k : Nat) (s : Mach) : Session := sget {} s.mg.sessions k
/-- Session `k` replaced. -/
def setSession (k : Nat) (x : Session) (s : Mach) : Mach :=
  { s with mg := { s.mg with sessions := sput {} s.mg.sessions k x } }

/-- Power of feeder `t`: current × bus voltage, W. -/
def feederPower (t : Nat) (s : Mach) : Nat := (feeder t s).curr * s.cnv.busMv.toNat / 100000

/-- The rack aggregate, channel 180, as it stands: the sum of feeder current × bus voltage, W. -/
def aggNow (s : Mach) : Nat :=
  (s.fdr.feeders.foldl (fun a p => a + p.2.curr) 0) * s.cnv.busMv.toNat / 100000

/-- The latest sample of the rack aggregate at 100 kS/s; before the first, the aggregate as it stands. -/
def aggLast (s : Mach) : Nat :=
  match s.grd.agg with
  | q :: _ => q.2
  | [] => aggNow s

/-- The mean rack aggregate over the last `ns` of the samples kept, or the latest sample where none is. -/
def aggMean (ns : Nat) (s : Mach) : Nat :=
  let l := s.grd.agg.filter fun p => decide (s.now ≤ p.1 + ns)
  if l = [] then aggNow s else (l.foldl (fun a p => a + p.2) 0) / l.length

/-- Ride-through lasts (R273). -/
def rideThrough (s : Mach) : Bool := decide (s.grd.st = .rideThrough)

/-- The cap in force (R266), as last taken into use. -/
def capForce (s : Mach) : Nat := s.grd.capForce

/-- A consist entry (Table 10.11); the reset entry has ramps of 50 ms. -/
def cstDefault : Nat := 50 <<< 73 ||| 50 <<< 50
/-- The consist entry of tray `t`. -/
def cst (t : Nat) (s : Mach) : Nat := sget cstDefault s.fdr.cst t
/-- The consist entry of tray `t` replaced. -/
def setCst (t x : Nat) (s : Mach) : Mach := { s with fdr := { s.fdr with cst := sput cstDefault s.fdr.cst t x } }
/-- PLANNED of a consist entry. -/
def cstPlanned (e : Nat) : Bool := e.testBit 255
/-- PRIVILEGED of a consist entry. -/
def cstPriv (e : Nat) : Bool := e.testBit 254
/-- OVERRIDE of a consist entry. -/
def cstOver (e : Nat) : Bool := e.testBit 253
/-- STATE of a consist entry: 0 NONE, 1 MATCHED, 2 MISMATCH, 3 MISSING. -/
def cstState (e : Nat) : Nat := e / 2 ^ 251 % 4
/-- A consist entry with its STATE set. -/
def cstWithState (e x : Nat) : Nat := e - cstState e * 2 ^ 251 + x * 2 ^ 251
/-- The consist entry of tray `t` is MISSING. -/
def missing (t : Nat) (s : Mach) : Bool := decide (cstState (cst t s) = 3)

/-! ### Windows and keys -/

/-- Key of a byte of an object held in the byte store. -/
def domKey (idx sub off : Nat) : Nat := (idx * 256 + sub) * 2 ^ 32 + off

/-- FF12::96:1, the default of `TKT_GROUP_IPV6`. -/
def groupV6Default : List Byte := [0xFF, 0x12, 0, 0, 0, 0, 0, 0, 0, 0, 0, 0, 0, 0x96, 0, 1]

/-- The header of the default fast OCV table, with its CHECK (Table 9.4). -/
def ocvFastHead : List Byte :=
  [0x10, 0, 0, 8, 0x00, 0x5A, 0x6A, 0xE0, 0xF6, 10] ++ List.replicate 20 0 ++ [0x87, 0x6E]

/-- The header of the default deep OCV table up to its CHECK, which belongs to the release (R242). -/
def ocvDeepHead : List Byte :=
  [0x10, 1, 0, 240, 0x04, 0x81, 0x90, 0x80, 0xF6, 10] ++ List.replicate 20 0

/-- The amounts of a column of the deep table between places 3 and `j`, added up. -/
def deepRise (k j : Nat) : Nat := ((List.range (j + 1)).drop 3).foldl (fun a i => a + Config.deepOcv k i) 0

/-- R242: entry (j, k) of the default deep table, µV per cell. Whatever the release's amounts are, each column rises
strictly and gives 1.500 V at 0.6 Ah, which lies 29/35 of the way from place 1 to place 2, and 2.800 V at 20.6 Ah, 82/105 of
the way from place 62 to place 63. -/
def deepEntry (k j : Nat) : Nat :=
  let lo := 1 + Config.deepOcv k 1 % 51000
  let e1 := 1500000 - 29 * lo
  let e2 := 1500000 + 6 * lo
  let hi := 1 + Config.deepOcv k 62 % ((1300000 - 6 * lo - 142) / 82)
  let e62 := 2800000 - 82 * hi
  let e63 := 2800000 + 23 * hi
  if j = 0 then Config.deepOcv k 0 % e1
  else if j = 1 then e1
  else if j = 63 then e63
  else if 64 ≤ j then e63 + 1 + Config.deepOcv k 64 % (2 ^ 32 - 1 - e63)
  else if j = 62 then e62
  else e2 + (j - 2) + (e62 - e2 - 60) * deepRise k j / (deepRise k 61 + 1)

/-- A byte of the default deep table but for its CHECK. -/
def deepByte (i : Nat) : Byte :=
  if i < 30 then ocvDeepHead.getD i 0
  else BitVec.ofNat 8 (deepEntry ((i - 32) / 4 / 65) ((i - 32) / 4 % 65) >>> (8 * (3 - i % 4)))

/-- The CHECK of the default deep table (Table 9.4). -/
def deepCheck : Nat := crc16 ((List.range 2112).filterMap fun i => if i = 30 ∨ i = 31 then none else some (deepByte i))

/-- R242: a byte of the default OCV tables: the fast table is linear, the deep table's entries belong to the release. -/
def ocvDefault (off : Nat) : Byte :=
  if off < 32 then ocvFastHead.getD off 0
  else if off < 2112 then BitVec.ofNat 8 ((1406250 * ((off - 32) / 4 % 65)) >>> (8 * (3 - off % 4)))
  else if off < 4096 then 0
  else if off = 4126 then BitVec.ofNat 8 (deepCheck / 256)
  else if off = 4127 then BitVec.ofNat 8 deepCheck
  else if off < 6208 then deepByte (off - 4096)
  else 0

/-- What a byte of the store reads as before it is written (R350). -/
def domDefault (idx sub off : Nat) : Byte :=
  if idx = 0x2102 ∧ sub = 5 then groupV6Default.getD off 0
  else if idx = 0x3070 then ocvDefault off
  else 0

/-- A byte of an object held in the byte store. -/
def domByte (idx sub off : Nat) (s : Mach) : Byte := sget (domDefault idx sub off) s.mg.dom (domKey idx sub off)

/-- `n` bytes of such an object from `off` on. -/
def domBytes (idx sub off : Nat) : Nat → Mach → List Byte
  | 0, _ => []
  | n + 1, s => domByte idx sub off s :: domBytes idx sub (off + 1) n s

/-- Bytes placed in such an object. -/
def domPut (idx sub off : Nat) : List Byte → Mach → Mach
  | [], s => s
  | b :: r, s =>
    domPut idx sub (off + 1) r
      { s with mg := { s.mg with dom := sput (domDefault idx sub off) s.mg.dom (domKey idx sub off) b } }

/-- Key of the signature entry of tray `t` and bin `b` (R51). -/
def sigKey (t b : Nat) : Nat := t * 262144 + b

/-! ### Timetable rows (R37 to R42) -/

/-- A row with its ROW_CHECK over bytes 2 to 15; the check's more significant byte is byte 0 (R37, R434). -/
def rowChecked (body : Nat) : Nat :=
  let b := body / 2 ^ 16 * 2 ^ 16
  let c := crc16 ((toBytes 16 b).reverse.drop 2)
  b + (c % 256) * 256 + c / 256

/-- The row of reset values (R42): TOLERANCE +infinity and FAST_SHARE 128. -/
def rowReset : Nat := rowChecked (0x7C00 <<< 64 ||| 0x80 <<< 56)

/-- PRED_POWER as binary16. -/
def rowPred (r : Nat) : Nat := r / 2 ^ 112 % 2 ^ 16
/-- GRID_TARGET as binary16. -/
def rowGrid (r : Nat) : Nat := r / 2 ^ 96 % 2 ^ 16
/-- BASE_HEADROOM as binary16. -/
def rowBase (r : Nat) : Nat := r / 2 ^ 80 % 2 ^ 16
/-- TOLERANCE as binary16. -/
def rowTol (r : Nat) : Nat := r / 2 ^ 64 % 2 ^ 16
/-- FAST_SHARE. -/
def rowShare (r : Nat) : Nat := r / 2 ^ 56 % 256
/-- SCHED_FF as binary16. -/
def rowFf (r : Nat) : Nat := r / 2 ^ 24 % 2 ^ 16
/-- The flag at bit `i` of a row. -/
def rowFlag (i : Nat) (r : Nat) : Bool := r.testBit i
/-- MAINT is bit 55 of a row, CAL_ALLOWED 54, SHED_ALLOWED 53, CAL_REST 52, NO_GRANT 51 and SYNTH 50. -/
def rowMaint (r : Nat) : Bool := rowFlag 55 r
/-- CAL_ALLOWED. -/
def rowCal (r : Nat) : Bool := rowFlag 54 r
/-- SHED_ALLOWED. -/
def rowShed (r : Nat) : Bool := rowFlag 53 r
/-- CAL_REST. -/
def rowRest (r : Nat) : Bool := rowFlag 52 r
/-- NO_GRANT. -/
def rowNoGrant (r : Nat) : Bool := rowFlag 51 r
/-- SYNTH. -/
def rowSynth (r : Nat) : Bool := rowFlag 50 r

/-- The live page. -/
def livePage (s : Mach) : Page := if s.tt.liveB then s.tt.pages.2 else s.tt.pages.1
/-- The shadow page. -/
def shadowPage (s : Mach) : Page := if s.tt.liveB then s.tt.pages.1 else s.tt.pages.2
/-- The shadow page replaced. -/
def setShadow (p : Page) (s : Mach) : Mach :=
  { s with tt := { s.tt with pages := if s.tt.liveB then (p, s.tt.pages.2) else (s.tt.pages.1, p) } }
/-- A row of a page; rows at or above the header's bin count read 0 (R42). -/
def pageRow (p : Page) (b : Nat) : Nat := if p.count ≤ b then 0 else sget rowReset p.rows b

/-- Watts as binary16 kW. -/
def wToKw16 (w : Nat) : Nat := toF16 (Fv.ofRat 11 w 1000)

/-- R41: a synthesised row from the mean held since synthesis began. -/
def rowSynthesised (s : Mach) : Nat :=
  wToKw16 s.tt.mean <<< 112 ||| wToKw16 (min s.tt.mean (capForce s)) <<< 96 ||| 0x7C00 <<< 64
    ||| obj Obj.TT_FALLBACK_SHARE s <<< 56 ||| 1 <<< 50

/-- R39: MAINT in the last bin of each interval, whatever the row holds. -/
def withMaint (b : Nat) (s : Mach) (r : Nat) : Nat :=
  let k := obj Obj.TT_MAINT_INTERVAL s
  if b % k = k - 1 then setBit r 55 else r

/-- The row in force for bin `b` (R39, R41). -/
def row (b : Nat) (s : Mach) : Nat :=
  withMaint b s (if s.tt.synth || s.tt.bad.contains b then rowSynthesised s else pageRow (livePage s) b)

/-- GRID_TARGET of a row in W, rounded toward minus infinity; +infinity stands for the cap (R38, R267). -/
def rowGridW (r : Nat) (s : Mach) : Int := if (f16 (rowGrid r)).isInf then capForce s else kwFloorW (rowGrid r)
/-- GRID_TARGET of a row in W, rounded up (R92). -/
def rowGridUpW (r : Nat) (s : Mach) : Int :=
  if (f16 (rowGrid r)).isInf then capForce s else -((f16 (rowGrid r)).neg.floorMul 1000)
/-- SCHED_FF in W, rounded toward zero (R134). -/
def rowFfW (r : Nat) : Int :=
  let v := f16 (rowFf r)
  if v.isNeg then -(v.neg.floorMul 1000) else v.floorMul 1000

end Sys2Proof.Machine
end

