-- ==== Sys2Proof/Machine/Flags.lean ====
section
/-! DEFINITION. The Fault Collector's computations (chapter 12): latching, classes, blanking, injection and FAULT_N,
and the entry to TRIP or SAFE that a C3 event brings (R152, R288, R295, R322). -/

namespace Sys2Proof.Machine

/-- Table 12.1: the lines marked L. -/
def levelBits : List Nat :=
  [0, 1, 2, 3, 4, 5, 8, 10, 13, 14, 28, 29, 30, 31, 37, 38, 39, 41, 45, 46, 47, 48, 49, 50, 51, 52]

/-- Bits 54 to 62 of FLT_STATUS are reserved. -/
def fltReserved (n : Nat) : Bool := decide (54 ≤ n ∧ n ≤ 62)

/-- R322: the class in force of bit `n`; bit 63 is fixed at C0. -/
def fltClass (n : Nat) (s : Mach) : Nat := if n < 54 then oGet Obj.FLT_CLASS 0 n s else 0

/-- R325: a window covers bit `n`'s line (0x2805). -/
def covered (n : Nat) (s : Mach) : Bool := s.fc.wins.any fun w => decide (s.now < w.ends) && w.mask.testBit n
/-- R325: an event on bit `n` now is blanked; one in the cycle of the event that opened the window is not. -/
def blanked (n : Nat) (s : Mach) : Bool :=
  s.fc.wins.any fun w => decide (w.from_ < s.now ∧ s.now < w.ends) && w.mask.testBit n

/-- R322: a set bit whose class in force is C3. -/
def c3Set (s : Mach) : Bool := (List.range 54).any fun n => s.fc.status.testBit n && decide (fltClass n s = 3)

/-- FLT_SUMMARY (R322): bit k for each class k that a set, non-quiet bit has taken the action of. -/
def fltSummary (s : Mach) : Nat :=
  s.fc.taken.foldl (fun a p => if s.fc.status.testBit p.1 && !s.fc.quiet.testBit p.1 then a ||| p.2 else a) 0

/-! ### Entry to TRIP and SAFE -/

/-- Table 5.2: the two MODE bits of phase `p` (R124, R141, R144, R148). -/
def phaseMode (p : Nat) (s : Mach) : Nat :=
  if s.cnv.st = .off ∨ s.cnv.st = .safe then
    (if (card (p / 4) s).spareFor.isSome then 2 else 0)
  else match (phase p s).st with
    | .working => 1
    | .diode => 2
    | .warmShed => 2
    | .coldShed => if (phase p s).idleAt.isSome then 2 else 0
    | .faulted => 0
    | .spare => if (card (p / 4) s).spareFor.isSome then 2 else 0

/-- Table 5.2: the downlink frame of card `c`, with TRIP and the frame number given. -/
def cardFrame (c : Nat) (trip : Bool) (s : Mach) : Nat :=
  let sel := match (card c s).spareFor with
    | some x => x
    | none => (obj Obj.CNV_SPARE_IN_USE s).testBit c && (phase (4 * c) s).deep
  let mode := if trip then 0 else
    phaseMode (4 * c + 3) s * 64 + phaseMode (4 * c + 2) s * 16 + phaseMode (4 * c + 1) s * 4 + phaseMode (4 * c) s
  let w := 1 <<< 124 ||| b2n s.slotB <<< 123 ||| b2n (drives s && !s.ptn.claimOff) <<< 122 ||| b2n trip <<< 121 ||| b2n sel <<< 120
    ||| (s.cnv.downNo % 65536) <<< 104 ||| mode <<< 96 ||| obj Obj.CNV_DEAD_TIME_NS s <<< 88
  w ||| crc16 ((toBytes 16 w).take 14)

/-- A running phase goes COLD when the converter stops. -/
def phaseCold (x : Phase) : Phase :=
  if x.st = .working ∨ x.st = .diode ∨ x.st = .warmShed then { x with st := .coldShed, idleAt := none } else
    { x with idleAt := none }

/-- A level line is deasserted. -/
def lineDown (n : Nat) (s : Mach) : Mach :=
  { s with fc := { s.fc with lines := clrBit s.fc.lines n, ignored := clrBit s.fc.ignored n, edges := sdel s.fc.edges n } }

/-- R236: BANK_FAST's low condition does not hold while disarmed, outside REGULATE. -/
def bankFastDisarm (s : Mach) : Mach :=
  if s.bnk.fastOver ∨ s.bnk.st = .failed ∨ s.cnv.st = .regulate then s else lineDown 13 s

/-- R151: every phase COLD, every line low. -/
def converterStop (st : CnvState) (s : Mach) : Mach :=
  let s := { s with cnv := { s.cnv with st := st, settled := 0, fire := {}, ff := [], ffGrant := 0, ffSched := 0 } }
  let s := each (List.range 100) (fun p s => setPhase p (phaseCold (phase p s)) s) s
  let s := if s.bnk.st = .failed then s else { s with bnk := { s.bnk with st := .off } }
  send .linesLow (bankFastDisarm s)

/-- R152: on a C3 reaction the converter is SAFE, lines low, and every card receives TRIP with MODE COLD. -/
def converterSafe (s : Mach) : Mach :=
  let s := converterStop .safe s
  each (List.range 25) (fun c s => send (.card c (cardFrame c true s)) s) s

/-- A feed's record. -/
def feed (f : Nat) (s : Mach) : Feed := if f = 0 then s.grd.feeds.1 else s.grd.feeds.2
/-- A feed's record replaced. -/
def setFeed (f : Nat) (x : Feed) (s : Mach) : Mach :=
  { s with grd := { s.grd with feeds := if f = 0 then (x, s.grd.feeds.2) else (s.grd.feeds.1, x) } }

/-- The rectifiers of feed `f` commanded to `mode`: 0 OFF, 1 STANDBY, 2 VOLTAGE, 3 CURRENT; a frame is owed at once
(R262). An unhealthy rectifier is commanded OFF (R265). -/
def feedMode (f mode : Nat) (s : Mach) : Mach :=
  let s := each (List.range 12) (fun e s =>
    let r := f * 12 + e
    let x := rect r s
    let m := if x.healthy then mode else 0
    if x.mode = m then s else setRect r { x with mode := m, modeAt := s.now, echoed := false } s) s
  setFeed f { feed f s with mode := mode, due := true } s

/-- R288: in TRIP each feeder whose bit of the trip plan is 0 is commanded TRIP_OPEN; the rectifiers of the feed in
service go to VOLTAGE at the setpoint. -/
def tripShelf (s : Mach) : Mach :=
  let plan := obj Obj.FDR_TRIP_PLAN s
  let s := each (List.range 64) (fun t s =>
    let f := feeder t s
    setFeeder t { f with cmd := if plan.testBit t then f.cmd else 2, wantClose := false, deadline := none } s) s
  let s := { s with grd := { s.grd with busRef := obj Obj.CNV_BUS_SET_MV s * 1000, rampAt := none } }
  match s.grd.inService with
  | some f => feedMode f 2 s
  | none => s

/-- Requester records that read as their default are not listed. -/
def pruneReqs (m : SMap Requester) : SMap Requester := m.filter fun p => decide (p.2 ≠ ({} : Requester))

/-- The arbiter closes: no grant, queue, siding entry or task remains (R22). Answers already decided still leave. -/
def arbiterClose (s : Mach) : Mach :=
  { s with
    arb := { s.arb with
      reqs := pruneReqs (s.arb.reqs.map fun p => (p.1, { p.2 with slots := [] }))
      ingress := []
      tasks := []
      falls := []
      changes := []
      tails := []
      prior := none }
    cnv := { s.cnv with ff := [] } }

/-- The arbiter closes without a frame: no unsent answer remains either. -/
def arbiterDrop (s : Mach) : Mach :=
  let s := arbiterClose s
  { s with tk := { s.tk with open_ := [], ready := [] } }

/-- R21, R322: the module's reaction to a C3 event. -/
def c3Action (s : Mach) : Mach :=
  match s.mode with
  | .boot => converterSafe (setMode .safe s)
  | .safe => s
  | .trip => s
  | _ => tripShelf (converterSafe (arbiterDrop { setMode .trip s with fdr := { s.fdr with seq := .idle } }))

/-! ### Events -/

/-- An event between the acceptance of a clear and its epoch keeps its bit set (R324). -/
def clearSpared (n : Nat) (p : Pending) : Pending :=
  { p with vals := p.vals.map fun q => match q with
      | (g, .scalar k v) => if k = Obj.FLT_STATUS.key 0 0 then (g, .scalar k (clrBit v n)) else (g, .scalar k v)
      | x => x }

/-- R325: the event on bit `n` opens its window. -/
def openWindow (n cls : Nat) (s : Mach) : Mach :=
  let t := oGet Obj.FLT_SETTLE_US 0 n s
  if 54 ≤ n ∨ t = 0 then s
  else
    let m := setBit (oGet Obj.FLT_DEP_MASK 0 n s) n
    { s with fc := { s.fc with
        wins := s.fc.wins ++ [⟨n, s.now, s.now + t * 1000, m, cls⟩]
        lowest := (bitsBelow m 64).foldl (fun a l => sput 3 a l (min (sget 3 a l) cls)) s.fc.lowest } }

/-- R332: a pulse of FAULT_N starts or restarts. -/
def faultNPulse (s : Mach) : Mach :=
  if s.fc.staticN then s
  else { s with fc := { s.fc with pulseEnd := some (s.now + obj Obj.FLTN_PULSE_MS s * 1000000) } }

/-- R318: an event that is not blanked, with its class lowered to `cap` where R326 says so. -/
def latchCore (n source data : Nat) (cap : Nat) (s : Mach) : Mach :=
  let own := fltClass n s
  let cls := min own cap
  let quietEv := match s.fc.inj with
    | some w => w.dry && w.mask.testBit n
    | none => false
  let counted := s.fc.status.testBit n && !s.fc.quiet.testBit n
  let was := s.fc.status.testBit n
  let s := { s with
    fc := { s.fc with
      status := setBit s.fc.status n
      quiet := if quietEv then (if was then s.fc.quiet else setBit s.fc.quiet n) else clrBit s.fc.quiet n
      taken := if quietEv then s.fc.taken else sput 0 s.fc.taken n (setBit (sget 0 s.fc.taken n) cls)
      inj := s.fc.inj.map (fun w => if n = 63 then w else { w with count := w.count + 1 }) }
    ptn := { s.ptn with mates := if n = 27 ∨ n = 34 ∨ n = 36 ∨ n = 37 then some s.now else s.ptn.mates }
    mg := { s.mg with pend := s.mg.pend.map (clearSpared n) } }
  let s := if was then s else touch 3 s
  let s := logRec (0x0100 + n) source data (decide (cls < own)) s
  let s := countEv n s
  let s := if quietEv || counted || decide (cls < obj Obj.FLTN_CLASS s) then s else faultNPulse s
  let s := openWindow n own s
  -- R388: a C3 event restarts the confirmation time from the next entry to STOP
  let s := if cls = 3 then { s with life := { s.life with confNs := 0, confAt := some s.now, confHold := true } } else s
  if decide (cls = 3) && !quietEv then c3Action s else s

/-- R330: INJECT_WINDOW pulses at the first event inside each window. -/
def latch (n source data cap : Nat) (s : Mach) : Mach :=
  let s := latchCore n source data cap s
  match s.fc.inj with
  | some w =>
    if w.pulsed then s
    else latchCore 63 0 0 3 { s with fc := { s.fc with inj := some { w with pulsed := true } } }
  | none => s

/-- A pulse line asserts once (R319, R325). -/
def pulse (n source data : Nat) (s : Mach) : Mach := if blanked n s then s else latch n source data 3 s

/-- A module bit of a link (CAN, sense, card and feeder links), which a module latches only from its own hardware
(R320). -/
def linkBit (n : Nat) : Bool := decide (46 ≤ n ∧ n ≤ 50)

/-- A level line takes a level: a rising edge is an event, or is noted while a window covers the line (R318, R325). Links
of the ACTIVE module, seen in a forwarded epoch, raise nothing here. -/
def setLine (n : Nat) (on : Bool) (source data : Nat) (s : Mach) : Mach :=
  if s.ptn.executing && linkBit n then s
  else if on then
    if s.fc.lines.testBit n then s
    else
      let s := { s with fc := { s.fc with lines := setBit s.fc.lines n, edges := sput (0, 0) s.fc.edges n (source, data) } }
      if blanked n s then { s with fc := { s.fc with ignored := setBit s.fc.ignored n } }
      else latch n source data 3 s
  else lineDown n s

/-- An error line of the collector rises (R318). -/
def raise (n source data : Nat) (s : Mach) : Mach :=
  if 54 ≤ n then s
  else if levelBits.contains n then setLine n true source data s
  else pulse n source data s

/-- An event of a line that has been up for some time, with the source and data of its rising edge. -/
def latchEdge (n cap : Nat) (s : Mach) : Mach :=
  let e := sget (0, 0) s.fc.edges n
  latch n e.1 e.2 cap s

/-- R326: line `n` has no window left; an edge noted under a window makes an event at the lower class. -/
def uncover (n : Nat) (s : Mach) : Mach :=
  if covered n s then s
  else
    let low := sget 3 s.fc.lowest n
    let fire := s.fc.ignored.testBit n && s.fc.lines.testBit n
    let s := { s with fc := { s.fc with ignored := clrBit s.fc.ignored n, lowest := sput 3 s.fc.lowest n 3 } }
    if fire then latchEdge n low s else s

/-- R325, R326: the windows that bit `n` opened and whose time is over close. -/
def closeWindows (n : Nat) (s : Mach) : Mach :=
  let gone := s.fc.wins.filter fun w => decide (w.src = n ∧ w.ends ≤ s.now)
  let m := gone.foldl (fun a w => a ||| w.mask) 0
  let s := { s with fc := { s.fc with wins := s.fc.wins.filter fun w => !decide (w.src = n ∧ w.ends ≤ s.now) } }
  each (bitsBelow m 64) uncover s

/-- R329, R330: the injection window closes. -/
def closeInjection (s : Mach) : Mach :=
  match s.fc.inj with
  | none => s
  | some w =>
    let s := { s with fc := { s.fc with inj := none } }
    let s := setObj Obj.INJ_OPEN 0 s
    let s := log 0x0201 0 w.count s
    if w.dry then
      each (bitsBelow w.mask 54) (fun n s => if s.fc.lines.testBit n then latchEdge n 3 s else s) s
    else s

/-- R324: the named bits whose line was deasserted at acceptance clear. -/
def clearStatus (mask : Nat) (s : Mach) : Mach :=
  let st := without s.fc.status mask
  let s' := { s with fc := { s.fc with
      status := st
      quiet := without s.fc.quiet mask
      taken := s.fc.taken.filter fun p => !mask.testBit p.1 } }
  if st = s.fc.status then s' else touch 3 s'

/-- R331: FAULT_N runs in static mode when more than 32 consist entries are PLANNED. -/
def consistStatic (s : Mach) : Bool := decide (32 < (s.fdr.cst.filter fun p => cstPlanned p.2).length)

/-- R331: the mode follows the committed consist, once no pulse is in progress. -/
def refreshFaultN (s : Mach) : Mach :=
  if s.fc.pulseEnd.isSome then s else { s with fc := { s.fc with staticN := consistStatic s } }

/-- R331 to R333, R412: the pin is low; an unpowered module releases it. -/
def faultNLow (s : Mach) : Bool :=
  if s.life.held ∨ s.life.stopped then false
  else if s.mode = .boot ∨ s.mode = .safe then true
  else if s.fc.staticN then
    s.fc.taken.any fun p => s.fc.status.testBit p.1 && !s.fc.quiet.testBit p.1
      && decide (2 ^ obj Obj.FLTN_CLASS s ≤ p.2)
  else s.fc.pulseEnd.isSome || decide (obj Obj.FLTN_LEVEL s = 1)

end Sys2Proof.Machine
end

