-- ==== Sys2Proof/Machine/Link.lean ====
section
/-! DEFINITION. Coupler cells as the module sends them (R296 to R298) and BULK objects. -/

namespace Sys2Proof.Machine

/-- `l` padded with zeros to `n` bytes, or cut there. -/
def padTo (n : Nat) (l : List Byte) : List Byte := l.take n ++ List.replicate (n - l.length) 0

/-- R297: inputs and epochs are forwarded by an ACTIVE module, and by a SOLO one whose partner resynchronises. -/
def feeds (s : Mach) : Bool := decide (s.role = .active) || (decide (s.role = .solo) && s.ptn.feeding)

/-- R315, R396: writes are forwarded from the configuration stream on. -/
def feedsWrites (s : Mach) : Bool := feeds s || (decide (s.role = .solo) && (s.ptn.snapDue || s.ptn.configured))

/-- R299: order words accumulated and not yet in a cell. -/
def addWords (l : List Nat) (s : Mach) : Mach :=
  { s with ptn := { s.ptn with
    words := s.ptn.words ++ l.map (fun w => w % 2 ^ 32)
    open_ := { s.ptn.open_ with records := s.ptn.open_.records + l.length } } }

/-- The word of an extended record at the instant `t` (Table 11.4). -/
def extWord (kind t : Nat) (s : Mach) : Nat := 1 <<< 31 ||| kind <<< 27 ||| (t - s.ptn.open_.start) % 2 ^ 24

/-- R62, R299: the ticket records of the latest cycle join the order by lane; a gap of more than 255 cycles before them
takes an extended record. -/
def drainFresh (s : Mach) : Mach :=
  let o := s.ptn.open_
  match o.fresh.map (fun q => q.2) with
  | [] => s
  | w :: r =>
    let l := if 255 < o.gap then extWord 1 o.lastAt s :: w :: r else (w ||| o.gap) :: r
    addWords l { s with ptn := { s.ptn with open_ := { o with fresh := [] } } }

/-- R299: an extended record, with its value where the kind has one. -/
def orderExt (kind : Nat) (value : Option Nat) (s : Mach) : Mach :=
  if feeds s then
    let s := drainFresh s
    addWords (extWord kind s.now s :: value.toList) s
  else s

/-- R62, R299: the record of a ticket accepted now from fabric lane `lane`; tickets of one cycle are ordered by lane. -/
def orderTicket (lane rid seq : Nat) (s : Mach) : Mach :=
  if feeds s then
    let w := rid <<< 16 ||| (seq % 256) <<< 8
    let o := s.ptn.open_
    if o.lastAt = s.now ∧ o.fresh ≠ [] then
      { s with ptn := { s.ptn with open_ := { o with
        fresh := insertBy (fun a b => decide (a.1 < b.1)) (lane, w) o.fresh } } }
    else
      let s := drainFresh s
      let o := s.ptn.open_
      { s with ptn := { s.ptn with open_ := { o with
        fresh := [(lane, w)]
        gap := s.now - max o.lastAt o.start
        lastAt := s.now } } }
  else s

/-- Table 11.2: the 128 bytes of a cell. -/
def cellBytes (kind seq count : Nat) (payload : List Byte) (s : Mach) : List Byte :=
  let head := toBytes 16 (1 <<< 124 ||| b2n s.slotB <<< 123 ||| (kind % 256) <<< 112 ||| (seq % 2 ^ 32) <<< 80
    ||| (s.cnv.k % 65536) <<< 64 ||| (count % 256) <<< 56)
  let l := head ++ padTo 108 payload
  l ++ toBytes 4 (crc32 l)

/-- A cell leaves on the lane that carries Coupler traffic; the last 4,096 are kept (R298). -/
def sendCell (kind count : Nat) (payload : List Byte) (s : Mach) : Mach :=
  let seq := s.ptn.txSeq
  let l := cellBytes kind seq count payload s
  send (.cell kind seq l)
    { s with ptn := { s.ptn with
        txSeq := (seq + 1) % 2 ^ 32
        sent := (seq, kind, l) :: s.ptn.sent.take 4095 } }

/-- R299: order records leave, 27 to a cell; `all` sends an unfilled cell too. -/
def flushWords (all : Bool) : Nat → Mach → Mach
  | 0, s => s
  | fuel + 1, s =>
    let l := s.ptn.words
    if l = [] ∨ (l.length < 27 ∧ ¬ all) then s
    else flushWords all fuel
      (sendCell 3 (l.take 27).length ((l.take 27).flatMap fun w => toBytes 4 w)
        { s with ptn := { s.ptn with words := l.drop 27 } })

/-- R299: order records leave; `all` closes the epoch's order. -/
def flushOrder (all : Bool) (fuel : Nat) (s : Mach) : Mach :=
  flushWords all fuel (if all then drainFresh s else s)

/-- A BULK object's bytes from `off` on, 96 to a cell. -/
def sendBulkAt (id : Nat) : Nat → Nat → List Byte → Mach → Mach
  | 0, _, _, s => s
  | fuel + 1, off, l, s =>
    if l = [] then s
    else sendBulkAt id fuel (off + 96) (l.drop 96)
      (sendCell 8 (l.take 96).length (toBytes 4 id ++ toBytes 8 off ++ l.take 96) s)

/-- The BULK objects a module sends: the identifier's first byte. -/
def bulkPage : Nat := 1
/-- A model container. -/
def bulkModel : Nat := 2
/-- An adaptation candidate. -/
def bulkCandidate : Nat := 3
/-- Estimator state (R257). -/
def bulkEstimator : Nat := 4
/-- Committed object writes (R371, R375). -/
def bulkCommit : Nat := 5
/-- The configuration stream and snapshot of resynchronisation (R315). -/
def bulkResync : Nat := 6
/-- A firmware or customer image (R395). -/
def bulkImage : Nat := 7
/-- A command that the partner performs: one byte as the object written, with its index (R312, R397). -/
def bulkCommand : Nat := 8
/-- What the ACTIVE module's loader did at a boundary: 0 a flip of the adaptation buffers (R230), 1 a switch (R222). -/
def bulkTurn : Nat := 9
/-- A correction published or limited, with its instant (R179). -/
def bulkCorr : Nat := 10

/-- A RESYNC cell (Table 11.3): stage and reason as 0x2708 codes them. -/
def sendResync (stage reason : Nat) (s : Mach) : Mach := sendCell 0x0F 0 (toBytes 1 stage ++ toBytes 1 reason) s

/-- Forwarded objects wait for the partner's acknowledgement: this module is ACTIVE. -/
def forwards (s : Mach) : Bool := decide (s.role = .active)

/-- A BULK object of a length announced in its first 8 bytes is opened: its identifier. -/
def openBulk (kind len : Nat) (s : Mach) : Nat × Mach :=
  let id := kind * 2 ^ 24 + s.ptn.bulkNo % 2 ^ 24
  (id, sendBulkAt id 1 0 (toBytes 8 len)
    { s with ptn := { s.ptn with bulkNo := s.ptn.bulkNo + 1, outBulk := id :: s.ptn.outBulk } })

/-- Bytes of an open BULK object. -/
def putBulk (id off : Nat) (l : List Byte) (s : Mach) : Mach := sendBulkAt id (l.length / 96 + 1) (8 + off) l s

/-- A whole BULK object. -/
def sendBulk (kind : Nat) (l : List Byte) (s : Mach) : Nat × Mach :=
  let p := openBulk kind l.length s
  (p.1, putBulk p.1 0 l p.2)

end Sys2Proof.Machine
end

