-- ==== Sys2Proof/Machine/Keccak.lean ====
section
/-! DEFINITION. The functions that the tags, digests and signatures name: SHAKE256 (FIPS 202) and KMAC128 (NIST SP
800-185). A state of 1,600 bits is one number whose byte 0 is the least significant; inside the permutation it is five
sheets of five lanes. -/

namespace Sys2Proof

/-- A lane of 64 bits turned left by `r`: doubling modulo 2^64 - 1. -/
def turnLane (r x : Nat) : Nat := if x = 2 ^ 64 - 1 then x else x * 2 ^ r % (2 ^ 64 - 1)

/-- A list with its first `k` members moved to the end. -/
def turnList {α : Type} (k : Nat) (l : List α) : List α := l.drop k ++ l.take k

/-- The distances by which the lanes of each sheet are turned: triangular numbers along the walk of FIPS 202. -/
def laneTurns : List (List Nat) :=
  [[0, 36, 3, 41, 18], [1, 44, 10, 45, 2], [62, 6, 43, 15, 61], [28, 55, 25, 21, 56], [27, 20, 39, 8, 14]]

/-- The bits of each round's constant, by the seven places 2^j - 1 at which it may have one. -/
def roundBits : List Nat :=
  [0x01, 0x1A, 0x5E, 0x70, 0x1F, 0x21, 0x79, 0x55, 0x0E, 0x0C, 0x35, 0x26]
    ++ [0x3F, 0x4F, 0x5D, 0x53, 0x52, 0x48, 0x16, 0x66, 0x79, 0x58, 0x21, 0x74]

/-- The constant of a round from its bits. -/
def roundConst (w : Nat) : Nat :=
  (List.range 7).foldl (fun a j => if w.testBit j then a + 2 ^ (2 ^ j - 1) else a) 0

/-- The sheets of a state: lane `y` of sheet `x` is bytes `8 * (x + 5 y)` on. -/
def sheetsOf (n : Nat) : List (List Nat) :=
  (List.range 5).map fun x => (List.range 5).map fun y => (n >>> (64 * (x + 5 * y))) % 2 ^ 64

/-- The state that sheets form. -/
def ofSheets (a : List (List Nat)) : Nat :=
  (a.zip (List.range 5)).foldl (fun n p => (p.1.zip (List.range 5)).foldl (fun n q => n + q.1 <<< (64 * (p.2 + 5 * q.2))) n) 0

/-- One round on the sheets; `w` holds the bits of its constant. -/
def sheetRound (a : List (List Nat)) (w : Nat) : List (List Nat) :=
  let parity := a.map fun l => l.foldl (· ^^^ ·) 0
  let mix := List.zipWith (fun p q => p ^^^ turnLane 1 q) (turnList 4 parity) (turnList 1 parity)
  let a := List.zipWith (fun l m => l.map (· ^^^ m)) a mix
  let a := List.zipWith (fun l t => List.zipWith turnLane t l) a laneTurns
  let a := (List.range 5).map fun x => (List.range 5).map fun y => (a.getD ((x + 3 * y) % 5) []).getD x 0
  let pass := List.zipWith (List.zipWith fun p q => (2 ^ 64 - 1 - p) &&& q) (turnList 1 a) (turnList 2 a)
  match List.zipWith (List.zipWith (· ^^^ ·)) a pass with
  | (x :: l) :: r => ((x ^^^ roundConst w) :: l) :: r
  | r => r

/-- The permutation of 24 rounds. -/
def permute (n : Nat) : Nat := ofSheets (roundBits.foldl sheetRound (sheetsOf n))

/-- Bytes as a number, the first the least significant. -/
def leNum (l : List Byte) : Nat := l.foldr (fun b a => a * 256 + b.toNat) 0

/-- The state after a message: whole blocks of `rate` bytes, then the rest with the domain suffix and the final bit. -/
def absorbed (rate suffix : Nat) : Nat → List Byte → Nat → Nat
  | 0, l, n => permute (n ^^^ leNum l ^^^ suffix <<< (8 * l.length) ^^^ 1 <<< (8 * rate - 1))
  | k + 1, l, n => absorbed rate suffix k (l.drop rate) (permute (n ^^^ leNum (l.take rate)))

/-- `out` bytes of output, `rate` from each state. -/
def emitted (rate : Nat) : Nat → Nat → Nat → List Byte
  | 0, _, _ => []
  | k + 1, out, n =>
    (List.range (min rate out)).map (fun i => BitVec.ofNat 8 (n >>> (8 * i))) ++ emitted rate k (out - rate) (permute n)

/-- The sponge with a rate in bytes and a domain suffix. -/
def hashed (rate suffix : Nat) (msg : List Byte) (out : Nat) : List Byte :=
  emitted rate (out / rate + 1) out (absorbed rate suffix (msg.length / rate) msg 0)

/-- SHAKE256. -/
def shake256 (msg : List Byte) (out : Nat) : List Byte := hashed 136 0x1F msg out

/-- A number in the fewest bytes that hold it, at least one. -/
def fewest (x : Nat) : List Byte := toBytes (Nat.log2 x / 8 + 1) x

/-- A number with the count of its bytes before it. -/
def counted (x : Nat) : List Byte := BitVec.ofNat 8 (fewest x).length :: fewest x

/-- A string with its length in bits before it. -/
def lengthed (l : List Byte) : List Byte := counted (8 * l.length) ++ l

/-- Bytes after the rate of 168, filled with zeros to a whole number of blocks. -/
def blocks168 (l : List Byte) : List Byte :=
  let t := counted 168 ++ l
  t ++ List.replicate ((168 - t.length % 168) % 168) 0

/-- The bytes of a string of ASCII characters. -/
def ascii (t : String) : List Byte := t.toList.map fun c => BitVec.ofNat 8 c.toNat

/-- KMAC128 with key, message, output length in bytes and customisation string. -/
def kmac128 (key msg : List Byte) (out : Nat) (custom : String) : List Byte :=
  let bits := fewest (8 * out)
  let first := blocks168 (lengthed (ascii "KMAC") ++ lengthed (ascii custom))
  hashed 168 0x04 (first ++ blocks168 (lengthed key) ++ msg ++ bits ++ [BitVec.ofNat 8 bits.length]) out

end Sys2Proof
end

