-- ==== Sys2Proof/Machine/Xmss.lean ====
section
/-! DEFINITION. Verification of an XMSS-SHAKE256_20_256 signature (R216, R385) as RFC 8391 and NIST SP 800-208 have it:
n = 32, w = 16, 67 chains, 20 levels. -/

namespace Sys2Proof

/-- A hash of the set: its function number, then a key and a message of the lengths that the function takes. -/
def xmssHash (k : Nat) (key msg : List Byte) : List Byte := shake256 (toBytes 32 k ++ key ++ msg) 32

/-- A hash address of a single tree: type, its three words of the type and the word that tells key from mask. -/
def xmssAddr (type a b c mask : Nat) : List Byte :=
  toBytes 16 type ++ toBytes 4 a ++ toBytes 4 b ++ toBytes 4 c ++ toBytes 4 mask

/-- Two strings of one length, added bit by bit. -/
def xorBytes (a b : List Byte) : List Byte := List.zipWith (· ^^^ ·) a b

/-- The pseudo-random value of an address. -/
def xmssPrf (seed : List Byte) (addr : Nat → List Byte) (mask : Nat) : List Byte := xmssHash 3 seed (addr mask)

/-- Steps `i` to `i + k - 1` of chain `c` of leaf `leaf`. -/
def xmssChain (seed : List Byte) (leaf c : Nat) : Nat → Nat → List Byte → List Byte
  | 0, _, x => x
  | k + 1, i, x =>
    let r := xmssPrf seed (xmssAddr 0 leaf c i)
    xmssChain seed leaf c k (i + 1) (xmssHash 0 (r 0) (xorBytes x (r 1)))

/-- Two nodes made one. -/
def xmssNode (seed : List Byte) (addr : Nat → List Byte) (l r : List Byte) : List Byte :=
  let p := xmssPrf seed addr
  xmssHash 1 (p 0) (xorBytes l (p 1) ++ xorBytes r (p 2))

/-- One level of the tree over a leaf's chain ends: neighbours join, an odd last one stays. -/
def xmssPairs (seed : List Byte) (leaf h : Nat) : Nat → List (List Byte) → List (List Byte)
  | i, a :: b :: r => xmssNode seed (xmssAddr 1 leaf h i) a b :: xmssPairs seed leaf h (i + 1) r
  | _, l => l

/-- The tree over a leaf's chain ends, up to its root. -/
def xmssLeaf (seed : List Byte) (leaf : Nat) : Nat → Nat → List (List Byte) → List Byte
  | 0, _, l => l.headD []
  | k + 1, h, l => xmssLeaf seed leaf k (h + 1) (xmssPairs seed leaf h 0 l)

/-- The digits of 4 bits of a digest with those of its checksum. -/
def xmssDigits (d : List Byte) : List Nat :=
  let m := d.flatMap fun b => [b.toNat / 16, b.toNat % 16]
  let t := m.foldl (fun a x => a + (15 - x)) 0
  m ++ [t / 256 % 16, t / 16 % 16, t % 16]

/-- The path from a leaf to the root over the nodes of the authentication path. -/
def xmssRoot (seed : List Byte) (leaf : Nat) : Nat → List (List Byte) → List Byte → List Byte
  | _, [], x => x
  | h, a :: r, x =>
    let addr := xmssAddr 2 0 h (leaf / 2 ^ (h + 1))
    xmssRoot seed leaf (h + 1) r (if (leaf / 2 ^ h) % 2 = 0 then xmssNode seed addr x a else xmssNode seed addr a x)

/-- The `i`-th string of 32 bytes from `off` on. -/
def word32 (l : List Byte) (off i : Nat) : List Byte := (l.drop (off + 32 * i)).take 32

/-- Whether a signature of 2,820 bytes verifies: a public key of 68 bytes, its identifier first, and the message. -/
def xmssValid (key msg sig : List Byte) : Bool :=
  let root := word32 key 4 0
  let seed := word32 key 4 1
  let leaf := beNat (sig.take 4)
  let d := xmssHash 2 (word32 sig 4 0 ++ root ++ toBytes 32 leaf) msg
  let ends := ((xmssDigits d).zip (List.range 67)).map fun q =>
    xmssChain seed leaf q.2 (15 - q.1) q.1 (word32 sig 36 q.2)
  decide (key.length = 68 ∧ beNat (key.take 4) = 0x12 ∧ sig.length = 2820 ∧ leaf < 2 ^ 20)
    && decide (xmssRoot seed leaf 0 ((List.range 20).map (word32 sig 2180)) (xmssLeaf seed leaf 7 0 ends) = root)

end Sys2Proof
end

