-- ==== Sys2Proof/Machine/Container.lean ====
section
/-! DEFINITION. Model containers (chapter 8): the header, section table, IO section, certificate and ADAPT section read
from the bytes, and the loader's checks R213 and R217. -/

namespace Sys2Proof.Machine

/-- Bits `[hi:lo]` of a field map held as a number. -/
def nfld (x hi lo : Nat) : Nat := (x >>> lo) % 2 ^ (hi + 1 - lo)

/-- `n` bytes from `off` on, as one number; bytes past the end read 0. -/
def beAt (l : List Byte) (off n : Nat) : Nat :=
  let t := (l.drop off).take n
  beNat t * 256 ^ (n - t.length)

/-- One entry of a section table (Table 8.3). -/
structure Section where
  type : Nat
  idx  : Nat
  rsv  : Nat
  off  : Nat
  len  : Nat
  deriving DecidableEq, Repr

/-- The 64-byte header as 512 bits (Table 8.2). -/
def mdlHeader (c : List Byte) : Nat := beAt c 0 64

/-- Entry `i` of the section table. -/
def sectionAt (c : List Byte) (i : Nat) : Section :=
  let w := beAt c (64 + 16 * i) 16
  ⟨nfld w 127 120, nfld w 119 112, nfld w 111 96, nfld w 95 48, nfld w 47 0⟩

/-- The section table, whose length the header's SECTION_COUNT gives. -/
def mdlSections (c : List Byte) : List Section :=
  (List.range (nfld (mdlHeader c) 399 392)).map (sectionAt c)

/-- The bytes of a section. -/
def sectionBytes (c : List Byte) (x : Section) : List Byte := (c.drop x.off).take x.len

/-- The sections of a type, in table order. -/
def sectionsOf (ty : Nat) (c : List Byte) : List Section := (mdlSections c).filter fun x => decide (x.type = ty)

/-- The bytes of the first section of a type. -/
def firstOf (ty : Nat) (c : List Byte) : List Byte :=
  match sectionsOf ty c with
  | [] => []
  | x :: _ => sectionBytes c x

/-- The bytes of the section of a type for logical coach `l`. -/
def coachSection (ty l : Nat) (c : List Byte) : Option (List Byte) :=
  ((sectionsOf ty c).find? fun x => decide (x.idx = l)).map (sectionBytes c)

/-- MODEL_ID. -/
def mdlId (c : List Byte) : Nat := nfld (mdlHeader c) 447 416
/-- MODEL_REVISION. -/
def mdlRevision (c : List Byte) : Nat := nfld (mdlHeader c) 415 400
/-- DIGEST. -/
def mdlDigest (c : List Byte) : Nat := nfld (mdlHeader c) 255 0
/-- ADAPTIVE. -/
def mdlAdaptive (c : List Byte) : Bool := (mdlHeader c).testBit 391

/-! ### The certificate (R211) -/

/-- The certificate section. -/
def certBytes (c : List Byte) : List Byte := firstOf 1 c
/-- The certificate's fixed part (Table 8.7). -/
def certFixed (c : List Byte) : Nat := beAt (certBytes c) 0 64
/-- COACHES. -/
def certCoaches (c : List Byte) : Nat := nfld (certFixed c) 503 496
/-- MIN_CARTS. -/
def certMinCarts (c : List Byte) : Nat := nfld (certFixed c) 495 488
/-- BASE_CYCLES. -/
def certBase (c : List Byte) : Nat := nfld (certFixed c) 479 448
/-- CERT_TICK_US. -/
def certTick (c : List Byte) : Nat := nfld (certFixed c) 447 432
/-- HBM_RESIDENT. -/
def certHbm (c : List Byte) : Nat := nfld (certFixed c) 415 352
/-- SCHEDULE_DIGEST. -/
def certSchedule (c : List Byte) : Nat := nfld (certFixed c) 255 0
/-- The coach record of logical coach `l` (Table 8.8). -/
def certRecord (l : Nat) (c : List Byte) : Nat := beAt (certBytes c) (64 + 80 * l) 80
/-- EXTRA of logical coach `l` with `k` working carts. -/
def certExtra (l k : Nat) (c : List Byte) : Nat := nfld (certRecord l c) (32 * (k - 16) + 31) (32 * (k - 16))
/-- SRAM_BYTES of logical coach `l`. -/
def certSram (l : Nat) (c : List Byte) : Nat := nfld (certRecord l c) 607 576

/-! ### IO, SKIP and ADAPT (R210, R209, R228) -/

/-- The IO section's fixed part (Table 8.5). -/
def ioFixed (c : List Byte) : Nat := beAt (firstOf 2 c) 0 96
/-- READ_MASK names channel `ch`. -/
def ioReads (ch : Nat) (c : List Byte) : Bool := (ioFixed c).testBit (256 + ch)
/-- WARMUP_TICKS. -/
def ioWarmup (c : List Byte) : Nat := nfld (ioFixed c) 255 240
/-- The model channel entries (Table 8.6): channel and bound. -/
def ioChannels (c : List Byte) : List (Nat × Nat × Nat) :=
  (List.range (nfld (ioFixed c) 239 231)).map fun i =>
    let w := beAt (firstOf 2 c) (96 + 4 * i) 4
    (nfld w 31 23, nfld w 22 19, nfld w 18 16)
/-- The channel is declared by the container, and with which bound. -/
def ioBound (ch : Nat) (c : List Byte) : Option Nat :=
  ((ioChannels c).find? fun q => decide (q.1 = ch)).map fun q => q.2.1
/-- The reads whose error a tick may skip (R177): logical coach and DESC_ID. -/
def skipList (c : List Byte) : List (Nat × Nat) :=
  let l := firstOf 8 c
  (List.range (l.length / 4)).map fun i => (beAt l (4 * i) 1, beAt l (4 * i + 2) 2)
/-- The ADAPT section (R228). -/
def adaptWord (c : List Byte) : Nat := beAt (firstOf 7 c) 0 32
/-- ADAPT_OFFSET. -/
def adaptOffset (c : List Byte) : Nat := nfld (adaptWord c) 255 192
/-- ADAPT_BYTES. -/
def adaptBytes (c : List Byte) : Nat := nfld (adaptWord c) 191 160
/-- ADAPT_MIN_STEPS. -/
def adaptSteps (c : List Byte) : Nat := nfld (adaptWord c) 159 144

/-! ### The checks of R217 -/

/-- What a failed check reports: reason (Table 8.9), logical coach and excess. -/
structure MdlFail where
  reason : Nat
  coach  : Nat
  excess : Nat
  deriving DecidableEq, Repr

/-- The code of Table 0.6 for a reason of Table 8.9. -/
def mdlCode (reason : Nat) : Nat :=
  if reason = 0 then 0
  else if reason = 1 ∨ reason = 0x0D ∨ reason = 0x0E ∨ reason = 0x0F then 0x05
  else if reason = 2 then 0x0A
  else if reason = 3 ∨ reason = 4 then 0x0C
  else 0x0D

/-- How many sections of a type stand in the table. -/
def countOf (ty : Nat) (c : List Byte) : Nat := (sectionsOf ty c).length

/-- R209: a section per logical coach, each coach named once. -/
def oneEach (ty n : Nat) (c : List Byte) : Bool :=
  decide (countOf ty c = n) && (List.range n).all fun l => decide (((sectionsOf ty c).filter fun x => x.idx = l).length = 1)

/-- Sections lie inside the container, past the table, and none overlaps another. -/
def sectionsApart (c : List Byte) : Bool :=
  let l := mdlSections c
  let start := 64 + 16 * l.length
  l.all (fun x => decide (start ≤ x.off ∧ x.off + x.len ≤ c.length)) &&
    (List.range l.length).all fun i => (List.range i).all fun j =>
      let a := l.getD i ⟨0, 0, 0, 0, 0⟩
      let b := l.getD j ⟨0, 0, 0, 0, 0⟩
      decide (a.off + a.len ≤ b.off ∨ b.off + b.len ≤ a.off)

/-- R207 to R209, R211: lengths, marker, section table and counts. -/
def mdlFormat (kind : Nat) (c : List Byte) : Bool :=
  let h := mdlHeader c
  let n := certCoaches c
  decide (64 ≤ c.length ∧ c.length ≤ 3221225472) && decide (nfld h 511 480 = 0x56414D43) && decide (nfld h 479 476 = 1)
    && decide (nfld h 471 464 = kind) && decide (nfld h 383 320 = c.length)
    && decide (4 ≤ nfld h 399 392 ∧ nfld h 399 392 ≤ 200) && sectionsApart c
    && (mdlSections c).all (fun x => decide (1 ≤ x.type ∧ x.type ≤ 10)
      && (if x.type = 3 ∨ x.type = 5 ∨ x.type = 9 then decide (x.idx < n) else decide (x.idx = 0xFF)))
    && decide (countOf 1 c = 1 ∧ countOf 2 c = 1 ∧ countOf 6 c = 1)
    && decide (countOf 4 c ≤ 1 ∧ countOf 8 c ≤ 1 ∧ countOf 10 c ≤ 1)
    && oneEach 3 n c
    && (List.range 64).all (fun l => decide (((sectionsOf 5 c).filter fun x => x.idx = l).length ≤ 1))
    && (if mdlAdaptive c then decide (countOf 7 c = 1) && oneEach 9 n c else decide (countOf 7 c = 0 ∧ countOf 9 c = 0))
    && decide ((certBytes c).length = 64 + 80 * n ∧ 1 ≤ n ∧ n ≤ 64)
    && decide (nfld (certFixed c) 511 504 = 0x10) && decide (16 ≤ certMinCarts c ∧ certMinCarts c ≤ 32)
    && (List.range n).all (fun l => decide (nfld (certRecord l c) 639 632 = l))
    && decide ((firstOf 2 c).length = 96 + 4 * nfld (ioFixed c) 239 231)
    && decide ((firstOf 8 c).length % 4 = 0)

/-- A reserved field of the header, table, certificate or IO section is set. -/
def mdlReserved (c : List Byte) : Bool :=
  let h := mdlHeader c
  let f := certFixed c
  decide (nfld h 390 384 ≠ 0 ∨ nfld h 303 256 ≠ 0) || (mdlSections c).any (fun x => decide (x.rsv ≠ 0))
    || decide (nfld f 487 480 ≠ 0 ∨ nfld f 431 416 ≠ 0 ∨ nfld f 319 256 ≠ 0)
    || (List.range (certCoaches c)).any (fun l =>
      decide (nfld (certRecord l c) 631 608 ≠ 0 ∨ nfld (certRecord l c) 575 512 ≠ 0))
    || decide (nfld (ioFixed c) 230 0 ≠ 0) || (ioChannels c).any (fun q => decide (q.2.2 ≠ 0))
    || (List.range ((firstOf 8 c).length / 4)).any (fun i => decide (beAt (firstOf 8 c) (4 * i + 1) 1 ≠ 0))

/-- R207: DIGEST over the bytes after the header. -/
def digestOk (c : List Byte) : Bool := decide (beNat (shake256 (c.drop 64) 32) = mdlDigest c)

/-- R216: a signature over the header stands where one is required, and one that stands is valid (Table 8.9). -/
def signatureOk (required : Bool) (key : List Byte) (c : List Byte) : Bool :=
  if countOf 10 c = 0 then !required else xmssValid key (c.take 64) (firstOf 10 c)

/-- R4, R207: versions. -/
def versionOk (release : Nat) (c : List Byte) : Bool :=
  decide (nfld (mdlHeader c) 463 456 = 1) && decide (nfld (mdlHeader c) 319 304 ≤ release)

/-- R211: SCHEDULE_DIGEST over the SCHEDULE sections in logical order. -/
def bindingOk (c : List Byte) : Bool :=
  let l := (List.range (certCoaches c)).flatMap fun l => (coachSection 3 l c).getD []
  decide (beNat (shake256 l 32) = certSchedule c)

/-- KIND of a descriptor (Table 6.3). -/
def descKind (d : Nat) : Nat := nfld d 255 252
/-- R159: a descriptor sets a reserved field or names a reserved KIND. -/
def descReserved (d : Nat) : Bool :=
  decide (descKind d = 0 ∨ 6 < descKind d) || decide (nfld d 249 248 ≠ 0 ∨ nfld d 238 232 ≠ 0)
    || decide (nfld d 75 64 ≠ 0 ∨ nfld d 47 0 ≠ 0)
/-- SRC of a descriptor. -/
def descSrc (d : Nat) : Nat := nfld d 231 192
/-- DST of a descriptor. -/
def descDst (d : Nat) : Nat := nfld d 191 170
/-- COUNT: elements per row. -/
def descCount (d : Nat) : Nat := nfld d 169 146
/-- Rows of a transfer. -/
def descRows (d : Nat) : Nat := nfld d 145 130 + 1
/-- SRC_STRIDE. -/
def descSrcStride (d : Nat) : Nat := nfld d 129 98
/-- DST_STRIDE. -/
def descDstStride (d : Nat) : Nat := nfld d 97 76
/-- DESC_ID. -/
def descId (d : Nat) : Nat := nfld d 63 48

/-- Bytes of one element in coach SRAM: bytes, samples and signature entries of 4 bytes, rows of 16, and staged rows of
a 4-byte row number with the 16 bytes of the row. -/
def descElem (d : Nat) : Nat :=
  if descKind d = 3 ∨ descKind d = 4 then 4 else if descKind d = 5 then 16 else if descKind d = 6 then 20 else 1

/-- The end of the transfer in coach SRAM. -/
def descSramEnd (d : Nat) : Nat := descDst d + (descRows d - 1) * descDstStride d + descCount d * descElem d
/-- The end of an HBM transfer in the model's slot. -/
def descHbmEnd (d : Nat) : Nat := descSrc d + (descRows d - 1) * descSrcStride d + descCount d

/-- One descriptor of logical coach `l`: reserved fields, the channel it names, the ranges it reaches. -/
def descFail (l : Nat) (c : List Byte) (d : Nat) : Option MdlFail :=
  if descReserved d then some ⟨2, 0xFF, 0⟩
  else if descKind d = 3 ∧ ioReads (nfld d 247 239) c = false then some ⟨0x0D, l, 0⟩
  else if certSram l c < descSramEnd d then some ⟨0x0E, l, 0⟩
  else if (descKind d = 1 ∨ descKind d = 2) ∧ certHbm c < descHbmEnd d then some ⟨0x0E, l, 0⟩
  else none

/-- The descriptors of logical coach `l` in its section of type `ty`. -/
def sectionDescs (ty l : Nat) (c : List Byte) : List Nat :=
  match coachSection ty l c with
  | some b => (Config.scheduleDescs b).map fun d => d.toNat
  | none => []

/-- The descriptors of logical coach `l`'s schedule. -/
def descsOf (l : Nat) (c : List Byte) : List Nat := sectionDescs 3 l c

/-- Item 6 of R217: the IO section, every descriptor and the SKIP entries. -/
def ioFail (c : List Byte) : Option MdlFail :=
  let ch := ioChannels c
  let dup := (List.range ch.length).any fun i => (ch.drop (i + 1)).any fun q => decide (q.1 = (ch.getD i (0, 0, 0)).1)
  if 256 < ch.length ∨ dup ∨ ch.any (fun q => decide (q.1 < 256) || !([0, 1, 2, 4, 8] : List Nat).contains q.2.1) then
    some ⟨0x0D, 0xFF, 0⟩
  else
    match (List.range (certCoaches c)).findSome? fun l => (descsOf l c ++ sectionDescs 9 l c).findSome? (descFail l c) with
    | some f => some f
    | none =>
      ((skipList c).find? fun q => !(descsOf q.1 c).any fun d => decide (descId d = q.2 ∧ descKind d = 1)).map
        fun q => ⟨0x0E, q.1, 0⟩

/-- R228: the ADAPT section. -/
def adaptFail (c : List Byte) : Option MdlFail :=
  if mdlAdaptive c = false then none
  else if (firstOf 7 c).length ≠ 32 ∨ 268435456 < adaptBytes c ∨ adaptSteps c = 0 ∨ nfld (adaptWord c) 143 0 ≠ 0
      ∨ certHbm c < adaptOffset c + 2 * adaptBytes c then some ⟨0x0F, 0xFF, 0⟩
  else none

/-! ### R213 -/

/-- What R213 looks at: tick, width code of w_check, MAINT interval and the working carts of each coach in service. -/
structure Resources where
  tick    : Nat
  wCode   : Nat
  maint   : Nat
  carts   : List (Nat × Nat)
  deriving DecidableEq, Repr

/-- The budget of one tick in cycles. -/
def tickBudget (r : Resources) : Nat :=
  let w := 2 ^ (r.wCode - 1)
  let nMaint := (r.tick * 32) / (r.maint * w * 31) + 1
  let aMaint := nMaint * ((w * 33 + 31) / 32)
  (r.tick - 5 - aMaint) * 1500

/-- R213: logical coaches by ascending EXTRA at 31 carts, the lower number first. -/
def logicalOrder (c : List Byte) : List Nat :=
  sortBy (fun a b => decide (certExtra a 31 c < certExtra b 31 c) || (decide (certExtra a 31 c = certExtra b 31 c) && decide (a < b)))
    (List.range (certCoaches c))

/-- R213: coaches in service by ascending working carts, the lower number first. -/
def serviceOrder (carts : List (Nat × Nat)) : List (Nat × Nat) :=
  sortBy (fun a b => decide (a.2 < b.2) || (decide (a.2 = b.2) && decide (a.1 < b.1))) carts

/-- R213: logical coaches with the working carts of the coach each is paired with. -/
def pairing (c : List Byte) (r : Resources) : List (Nat × Nat) :=
  ((logicalOrder c).zip (serviceOrder r.carts)).map fun q => (q.1, q.2.2)

/-- The worst case of one tick in cycles. -/
def worstCycles (c : List Byte) (r : Resources) : Nat :=
  (pairing c r).foldl (fun a q => if q.2 < 32 then a + certExtra q.1 q.2 c else a) (certBase c)

/-- The logical coach of the largest EXTRA counted, or 0xFF. -/
def worstCoach (c : List Byte) (r : Resources) : Nat :=
  ((pairing c r).foldl (fun (a : Nat × Nat) q =>
    if q.2 < 32 ∧ a.2 < certExtra q.1 q.2 c then (q.1, certExtra q.1 q.2 c) else a) (0xFF, 0)).1

/-- R213: the first item that fails. -/
def certFail (c : List Byte) (r : Resources) : Option MdlFail :=
  if certTick c < r.tick then some ⟨0x0A, 0xFF, r.tick - certTick c⟩
  else if r.carts.length < certCoaches c then some ⟨7, 0xFF, certCoaches c - r.carts.length⟩
  else match (pairing c r).find? fun q => decide (q.2 < certMinCarts c) with
    | some q => some ⟨8, q.1, certMinCarts c - q.2⟩
    | none =>
      match (List.range (certCoaches c)).find? fun l => decide (4128768 < certSram l c) with
      | some l => some ⟨0x0B, l, certSram l c - 4128768⟩
      | none =>
        if 27917287424 < certHbm c then some ⟨0x0C, 0xFF, certHbm c - 27917287424⟩
        else if tickBudget r < worstCycles c r then some ⟨9, worstCoach c r, worstCycles c r - tickBudget r⟩
        else none

/-- R217: the first check that fails, in the order of the rule. -/
def containerFail (required : Bool) (key : List Byte) (release : Nat) (r : Resources) (c : List Byte) : Option MdlFail :=
  if mdlFormat 1 c = false then some ⟨1, 0xFF, 0⟩
  else if mdlReserved c then some ⟨2, 0xFF, 0⟩
  else if digestOk c = false then some ⟨3, 0xFF, 0⟩
  else if signatureOk required key c = false then some ⟨4, 0xFF, 0⟩
  else if versionOk release c = false then some ⟨5, 0xFF, 0⟩
  else if bindingOk c = false then some ⟨6, 0xFF, 0⟩
  else match ioFail c with
    | some f => some f
    | none => match adaptFail c with
      | some f => some f
      | none => certFail c r

end Sys2Proof.Machine
end

