-- ==== Sys2Proof/Machine/Arbiter.lean ====
section
/-! DEFINITION. The Headroom Arbiter (chapter 4): the terms of headroom, slots and the siding, decisions, offers,
preemption, falls and BRAKE, with the answers they put into egress (R65 to R69). -/

namespace Sys2Proof.Machine

/-! ### The terms of headroom (R12, R92, R94) -/

/-- R94: phases of a bank that count for S: working (DIODE included) or warm-shed. -/
def countedPhases (deep : Bool) (s : Mach) : Nat :=
  ((List.range 100).filter fun p =>
    let x := phase p s
    x.deep = deep && decide (x.st = .working ∨ x.st = .diode ∨ x.st = .warmShed)).length

/-- R94: s_x of one bank. -/
def bankSupply (deep : Bool) (s : Mach) : Nat :=
  let e := if deep then s.bnk.e.2 else s.bnk.e.1
  min (countedPhases deep s * obj Obj.ARB_PHASE_RATING_W s)
    (min (e * 1000 / obj Obj.ARB_S_HORIZON_MS s) 0xFFFFFFFF)

/-- The fast-bank share the arbiter and the regulator use for a row: 0 during ride-through (R273). -/
def shareOf (r : Nat) (s : Mach) : Nat := if rideThrough s then 0 else rowShare r

/-- R94: S for a fast-bank share. -/
def supplyS (f : Nat) (s : Mach) : Nat :=
  if 128 ≤ f then s.arb.sFast
  else if f = 0 then s.arb.sDeep
  else min (s.arb.sFast * 128 / f) (s.arb.sDeep * 128 / (128 - f))

/-- What bin `b`'s row alone gives for B, before the excursion rule (Table 4.1). -/
def baseOfRow (b : Nat) (s : Mach) : Int :=
  let r := row b s
  kwFloorW (rowBase r) - max 0 (rowGridUpW r s - capForce s)

/-- B(b): 0 in a bin covered by R40. -/
def baseB (b : Nat) (s : Mach) : Int := if s.tt.excOn then 0 else baseOfRow b s

/-- Y(b) = B(b) + C + S of R112. -/
def supplyY (b : Nat) (s : Mach) : Int := baseB b s + s.arb.corr + supplyS (shareOf (row b s) s) s

/-- Q: 8 × the largest ΔP allowed in any class (R12). -/
def reserveQ (s : Mach) : Nat :=
  8 * (List.range 8).foldl (fun a c => max a (oGet Obj.ARB_MAX_DELTA_P c 0 s)) 0

/-- The bins in which a slot's ΔP counts in G: first bin and end bin (R107, R110). -/
def slotRange (x : Slot) (n : Nat) : Nat × Nat :=
  let stop := min (min (x.bin + x.span) n) (x.endBin.getD n)
  match x.st with
  | .live => (x.bin, stop)
  | .revoked => (x.bin, min stop x.revBin)
  | _ => (0, 0)

/-- The slot counts in G of bin `b`. -/
def inForce (b n : Nat) (x : Slot) : Bool := decide ((slotRange x n).1 ≤ b ∧ b < (slotRange x n).2)

/-- G(b): the sum of ΔP over every grant in force in bin `b`, with what R110 keeps there. -/
def committed (b : Nat) (s : Mach) : Nat :=
  s.arb.reqs.foldl (fun a p => p.2.slots.foldl (fun a x => if inForce b s.trk.n x then a + x.dp else a) a)
    (s.arb.tails.foldl (fun a q => if q.lo ≤ b ∧ b < q.hi then a + q.dp else a) 0)

/-- What this cycle has decided about G(b): all of it, or the lanes' part alone. -/
def fresh (all : Bool) (b : Nat) (s : Mach) : Int :=
  (s.arb.changes.filter fun c => decide (c.at_ = s.now ∧ c.lo ≤ b ∧ b < c.hi) && (all || c.lane)).foldl
    (fun a c => a + c.dp) 0

/-- The supply terms as they stand. -/
def terms (s : Mach) : Terms := ⟨s.arb.corr, s.arb.sFast, s.arb.sDeep, s.grd.capForce, s.tt.excOn⟩

/-- The module with other supply terms. -/
def withTerms (q : Terms) (s : Mach) : Mach :=
  { s with
    arb := { s.arb with corr := q.corr, sFast := q.sFast, sDeep := q.sDeep }
    grd := { s.grd with capForce := q.cap }
    tt := { s.tt with excOn := q.exc } }

/-- R95, R117: the module with the supply terms of the cycle before. -/
def prepared (s : Mach) : Mach :=
  match s.arb.prior with
  | some (t, q) => if t = s.now then withTerms q s else s
  | none => s

/-- The supply terms are about to change: those of the cycle before are kept. -/
def notePrior (s : Mach) : Mach :=
  if s.arb.prior.any (fun q => decide (q.1 = s.now)) then s
  else { s with arb := { s.arb with prior := some (s.now, terms s) } }

/-- R12: H(b) of a supply and a sum of grants; 0 W in every bin during ride-through (R273). -/
def headroomOf (y g : Int) (s : Mach) : Int := if rideThrough s then 0 else y - g - reserveQ s

/-- R12: H(b). -/
def headroom (b : Nat) (s : Mach) : Int := headroomOf (supplyY b s) (committed b s) s

/-- R95, R96: H(b) as a lane compares with it: with the terms and the grants of the cycle before. -/
def laneHeadroom (b : Nat) (s : Mach) : Int :=
  headroomOf (supplyY b (prepared s)) (committed b s - fresh true b s) s

/-- R108, R117: H(b) as the revocation unit evaluates it: earlier tasks and RELEASEs show, the lanes' decisions of the
same cycle do not. -/
def unitHeadroom (b : Nat) (s : Mach) : Int :=
  headroomOf (supplyY b (prepared s)) (committed b s - fresh false b s) s

/-- A change of G over bins `[lo, hi)` decided now. -/
def noteG (lane : Bool) (lo hi : Nat) (dp : Int) (s : Mach) : Mach :=
  { s with arb := { s.arb with
      changes := ⟨s.now, lo, hi, dp, lane⟩ :: s.arb.changes.filter (fun c => decide (c.at_ = s.now)) } }

/-! ### Answers and egress (R65 to R69, R73) -/

/-- TRAY_KEY_VALID of tray `t`. -/
def keyValid (t : Nat) (s : Mach) : Nat := oGet Obj.TRAY_KEY_VALID t 0 s

/-- R73: the lowest valid slot, which signs what answers no ticket of its own. -/
def lowSlot (t : Nat) (s : Mach) : Nat := if (keyValid t s).testBit 0 then 0 else 1

/-- R73: the slot that signs: that of the ticket answered, and the lowest valid slot otherwise. A slot that has become
invalid since the ticket came does not sign (DESIGN CHOICE, log entry 19). -/
def signSlot (t k : Nat) (s : Mach) : Nat := if (keyValid t s).testBit k then k else lowSlot t s

/-- R69: egress priority: 0 BRAKE, 1 REVOKE, 3 VOID STEP_END, 2 every other answer. -/
def ansPrio (a : Answer) : Nat :=
  if a.kind = 0xD then 0 else if a.kind = 0xA then 1 else if a.kind = 0xC ∧ a.reason = 8 then 3 else 2

/-- Table 3.1: answers per bundle. -/
def bundleCap (s : Mach) : Nat := if obj Obj.TKT_ENCAP s = 0 then 561 else 558

/-- The tray of a requester (Table 0.5). -/
def trayOf (rid : Nat) : Nat := rid / 512 % 64

/-- An open bundle closes into its port's queue; an empty one vanishes. -/
def closeBundle (b : OpenBundle) (s : Mach) : Mach :=
  if b.answers = [] then s
  else
    { s with tk := { s.tk with
        ready := s.tk.ready ++ [⟨(tray b.tray s).port, b.prio, s.tk.order, b.tray, b.answers⟩]
        order := s.tk.order + 1 } }

/-- An awaited answer of a group will not come: the group waits for one less. -/
def groupLess (g : Option Nat) (s : Mach) : Mach :=
  match g with
  | none => s
  | some n =>
    match s.tk.open_.find? fun b => decide (b.group = some n) with
    | none => s
    | some b =>
      let rest := s.tk.open_.filter fun b => !decide (b.group = some n)
      let b' := { b with waiting := b.waiting - 1 }
      if b'.waiting = 0 then closeBundle b' { s with tk := { s.tk with open_ := rest } }
      else { s with tk := { s.tk with open_ := rest ++ [b'] } }

/-- Table 3.5: an answer's 128 bits with TAG 0. -/
def ansWord (a : Answer) : Nat :=
  (a.kind % 16) <<< 124 ||| (a.reason % 16) <<< 120 ||| (a.rid % 2 ^ 15) <<< 105 ||| (a.ref % 65536) <<< 89
    ||| (a.step % 65536) <<< 73 ||| (a.bin % 2 ^ 18) <<< 55 ||| (a.span % 2 ^ 18) <<< 37 ||| (a.key % 2) <<< 32

/-- R82, R305, R309: an answer decided: kept for the frames a takeover sends again, put among those answers in a takeover's
catch-up, and its bits [127:32] for the epoch's
GRANT_DIGEST. -/
def decided (a : Answer) (s : Mach) : Mach :=
  { s with
    tk := { s.tk with recent := (s.now, a) :: s.tk.recent.filter (fun q => decide (s.now ≤ q.1 + frameLen s / 4 + 1)) }
    ptn := { s.ptn with
      resend := if decide (s.role = .standby) && s.ptn.claimAt.isSome then s.ptn.resend ++ [a] else s.ptn.resend
      open_ := { s.ptn.open_ with answers := s.ptn.open_.answers ++ (toBytes 16 (ansWord a)).take 12 } } }

/-- An answer joins the open bundle of its tray, priority and group; a full bundle closes (R68). To a tray with no valid
key slot or address nothing is sent (R58, R73), and a STANDBY module sends nothing (R23). -/
def queueAnswer (a : Answer) (group : Option Nat) (s : Mach) : Mach :=
  let t := trayOf a.rid
  let p := ansPrio a
  if keyValid t s = 0 ∨ (tray t s).addr = [] ∨ ¬ drives s then groupLess group s
  else
    let mine := fun (b : OpenBundle) => decide (b.tray = t ∧ b.prio = p ∧ b.group = group)
    match s.tk.open_.find? mine with
    | some b =>
      let rest := s.tk.open_.filter fun b => !mine b
      let b' := { b with answers := b.answers ++ [a], waiting := b.waiting - 1 }
      if (group.isSome && decide (b'.waiting = 0)) || decide (bundleCap s ≤ b'.answers.length) then
        closeBundle b' { s with tk := { s.tk with open_ := rest } }
      else { s with tk := { s.tk with open_ := rest ++ [b'] } }
    | none => { s with tk := { s.tk with open_ := s.tk.open_ ++ [⟨t, p, none, 0, s.now, [a]⟩] } }

/-- An answer decided goes to egress. -/
def addAnswer (a : Answer) (group : Option Nat) (s : Mach) : Mach := queueAnswer a group (decided a s)

/-- Table 12.7: the counter source of an answer kind. -/
def ansSource (kind : Nat) : Nat :=
  if kind = 8 then 67 else if kind = 9 then 68 else if kind = 0xA then 69 else if kind = 0xB then 70 else 71

/-- The ticket of a REQUEST. -/
def ownTicket (x : Slot) : TicketRef := ⟨x.key, x.arrival, x.group⟩

/-- The ticket that a decision about a REQUEST answers: its own while it waits, none afterwards. -/
def ticketOf (x : Slot) : Option TicketRef := if x.st = .waiting then some (ownTicket x) else none

/-- An answer about request `x` of requester `rid` is decided: counted, signed with the slot of the ticket `o` that it
answers (R73), measured from that ticket's arrival (R88) and put into egress. -/
def answer (kind reason rid : Nat) (x : Slot) (bin span : Nat) (o : Option TicketRef) (s : Mach) : Mach :=
  let t := trayOf rid
  let a : Answer :=
    { kind := kind
      reason := reason
      rid := rid
      ref := x.seq
      step := x.step
      bin := bin
      span := span
      key := match o with
        | some r => signSlot t r.key s
        | none => lowSlot t s
      at_ := s.now
      arrival := o.map fun r => r.arrival }
  let s := countEv (ansSource kind) s
  let s := if kind = 0xC ∧ reason = 8 then incObj Obj.ARB_STEP_VOIDS (countEv 72 s) else s
  addAnswer a (o.bind fun r => r.group) s

/-! ### Slots and the siding (R99, R100) -/

/-- The slot of requester `rid` with SEQ `seq`. -/
def slotOf (rid seq : Nat) (s : Mach) : Option Slot := (requester rid s).slots.find? fun x => decide (x.seq = seq)

/-- The slot replaced in place. -/
def putSlot (rid : Nat) (x : Slot) (s : Mach) : Mach :=
  let r := requester rid s
  setRequester rid { r with slots := r.slots.map fun y => if y.seq = x.seq then x else y } s

/-- The slot leaves its queue, the ingress order and the unit's tasks. -/
def dropSlot (rid seq : Nat) (s : Mach) : Mach :=
  let r := requester rid s
  let s := setRequester rid { r with slots := r.slots.filter fun y => decide (y.seq ≠ seq) } s
  { s with arb := { s.arb with
      ingress := s.arb.ingress.filter fun p => decide (p ≠ (rid, seq))
      tasks := s.arb.tasks.filter fun p => decide (p ≠ (rid, seq)) } }

/-- The least by a key, the earlier one on a tie. -/
def least (key : Slot → Nat) : List Slot → Option Slot
  | [] => none
  | x :: r => match least key r with
    | none => some x
    | some y => if key y < key x then some y else some x

/-- Occupied siding entries now. -/
def sidingCount (s : Mach) : Nat :=
  s.arb.reqs.foldl (fun a p => if p.2.slots.any (fun x => x.siding) then a + 1 else a) 0

/-- The siding occupancy may have reached a new maximum (ARB_MAX_SIDING). -/
def noteSiding (s : Mach) : Mach :=
  let n := sidingCount s
  if obj Obj.ARB_MAX_SIDING s < n then setObj Obj.ARB_MAX_SIDING n s else s

/-- R100: the oldest HELD slot: one that a revocation displaced, or else the first to arrive (DEDUCED: the queue is in
order of arrival; log entry 149). -/
def oldestHeld (r : Requester) : Option Slot :=
  least (fun x => b2n (!x.displaced)) (r.slots.filter fun x => decide (x.st = .held))

/-- R100: an empty siding takes the earliest-revoked waiting slot, or else the oldest HELD slot as PARKED. -/
def sidingMove (rid : Nat) (s : Mach) : Mach :=
  let r := requester rid s
  if r.slots.any (fun x => x.siding) then s
  else match least (fun x => x.revOrder) (r.slots.filter fun x => decide (x.st = .revoked)) with
    | some x => noteSiding (putSlot rid { x with siding := true, ready := false, since := s.now } s)
    | none => match oldestHeld r with
      | some x => noteSiding (putSlot rid { x with st := .parked, siding := true, displaced := false, ready := false } s)
      | none => s

/-- LONGEST_WAIT: the time since `x` entered the siding or HELD, in units of 100 ns. -/
def noteWait (rid : Nat) (x : Slot) (s : Mach) : Mach :=
  if !x.siding && decide (x.st ≠ .held) then s
  else
    let r := requester rid s
    setRequester rid { r with longest := max r.longest (min ((s.now - x.since) / 100) 0xFFFFFF) } s

/-- R104: the headroom of the bin after the bin in progress rose: siding entries become ready, a REVOKED one only once
its REVOKE BIN has begun. -/
def markReady (s : Mach) : Mach :=
  { s with arb := { s.arb with reqs := s.arb.reqs.map fun p =>
      (p.1, { p.2 with slots := p.2.slots.map fun x =>
        if x.siding && (decide (x.st = .parked) || decide (x.st = .revoked ∧ x.revBin ≤ s.trk.bin))
        then { x with ready := true } else x }) } }

/-- The feedforward of the grant in force of slot `x`. -/
def ffOf (rid : Nat) (x : Slot) (f : FfItem) : Bool := decide (f.rid = rid ∧ f.seq = x.seq ∧ f.start = x.bin)

/-- Feedforward of a grant removed at once. -/
def dropFf (rid : Nat) (x : Slot) (s : Mach) : Mach :=
  { s with cnv := { s.cnv with ff := s.cnv.ff.filter fun f => !ffOf rid x f } }

/-- The earlier of two ends of a grant's feedforward: the grant ends at the first of them (R107, R134). -/
def ffSooner (new old : FfEnd) : FfEnd :=
  match new, old with
  | .endBin a, .endBin b => .endBin (min a b)
  | .endBin a, .revoke b => if a ≤ b then .endBin a else .revoke b
  | .revoke a, .endBin b => if b ≤ a then .endBin b else .revoke a
  | .revoke a, .revoke b => .revoke (min a b)

/-- A grant's feedforward ends at `e`, unless it ends before (R134). -/
def endFf (rid : Nat) (x : Slot) (e : FfEnd) (s : Mach) : Mach :=
  { s with cnv := { s.cnv with ff := s.cnv.ff.map fun f => if ffOf rid x f then { f with stop := ffSooner e f.stop } else f } }

/-- R110: a revoked grant stays in G until its REVOKE's BIN, though its request is withdrawn before. -/
def keepTail (rid : Nat) (x : Slot) (s : Mach) : Mach :=
  let q := slotRange x s.trk.n
  if x.st = .revoked ∧ s.trk.bin < q.2 then
    { s with arb := { s.arb with tails := ⟨rid, x.dp, q.1, q.2⟩ :: s.arb.tails } }
  else s

/-- The request ends with a VOID answer, which answers the ticket `o`. -/
def voidSlot (rid : Nat) (x : Slot) (reason bin : Nat) (o : Option TicketRef) (s : Mach) : Mach :=
  let s := noteWait rid x s
  let s := answer 0xC reason rid x bin 0 o s
  sidingMove rid (dropSlot rid x.seq (keepTail rid x s))

/-! ### Decisions (R101, R102) -/

/-- The burst limit of a requester (R101). -/
def burstOf (rid : Nat) (s : Mach) : Nat :=
  let r := requester rid s
  if r.burst = 0 then oGet Obj.ARB_BURST_LIMIT r.cls 0 s else r.burst

/-- Table 3.6: SPAN of a GRANT from bin `b`. -/
def spanFor (rid : Nat) (x : Slot) (b : Nat) (s : Mach) : Nat :=
  let l := burstOf rid s
  min (if x.dur = 0 then l else min x.dur l) (s.trk.n - b)

/-- ARB_OPEN: the arbiter is open in RUN and DRAIN (R121). -/
def arbRuns (s : Mach) : Bool := decide (s.mode = .run ∨ s.mode = .drain)

/-- R98: the excess of G(b) over B(b) + C + S - Q may be the largest seen; it is looked at in the bins decided and, when a
term changes or a bin begins, in the bin in progress, while the arbiter is open (DESIGN CHOICE, log entry 128). -/
def noteOver (b : Nat) (s : Mach) : Mach :=
  let excess := (committed b s : Int) - (supplyY b s - reserveQ s)
  if arbRuns s ∧ (obj Obj.ARB_MAX_OVERCOMMIT_W s : Int) < excess then setObj Obj.ARB_MAX_OVERCOMMIT_W excess.toNat s else s

/-- R97, R98: the check of the reserve in a bin that `lane` decided. -/
def reserveCheck (lane b : Nat) (s : Mach) : Mach :=
  let s := noteOver b s
  if supplyY b s < committed b s then pulse 18 0 0 { s with arb := { s.arb with stopped := setBit s.arb.stopped lane } } else s

/-- A slot becomes LIVE from bin `b` for `span` bins, with its place in G and its feedforward; `lane` says that a lane
decides it. -/
def goLive (lane : Bool) (rid : Nat) (x : Slot) (b span : Nat) (s : Mach) : Mach :=
  let x' := { x with
    st := .live
    task := false
    siding := false
    displaced := false
    ready := false
    order := s.arb.order
    bin := b
    span := span }
  let s := putSlot rid x' { s with arb := { s.arb with order := s.arb.order + 1 } }
  let s := { s with arb := { s.arb with ingress := s.arb.ingress.filter fun p => decide (p ≠ (rid, x.seq)) } }
  let r := requester rid s
  let s := setRequester rid { r with grants := (r.grants + 1) % 2 ^ 32 } s
  let s := noteG lane b (slotRange x' s.trk.n).2 x.dp s
  { s with cnv := { s.cnv with ff := s.cnv.ff ++
      [⟨rid, x.seq, x.dp, b, .endBin (min (b + span) (x.endBin.getD s.trk.n))⟩] } }

/-- A GRANT at bin `b` (R101 steps 4 and 5, R104). -/
def grant (lane : Bool) (rid : Nat) (x : Slot) (b : Nat) (s : Mach) : Mach :=
  let span := spanFor rid x b s
  let s := noteWait rid x s
  let s := goLive lane rid { x with span0 := span } b span s
  let s := incObj Obj.ARB_GRANTS s
  let s := answer 8 0 rid x b span (ticketOf x) s
  if x.siding then sidingMove rid s else s

/-- A PARK: the request takes the siding, or is HELD while it is taken (R99). -/
def park (rid : Nat) (x : Slot) (reason : Nat) (s : Mach) : Mach :=
  let r := requester rid s
  let taken := r.slots.any (fun y => y.siding)
  let x' := { x with st := if taken then SlotState.held else .parked, siding := !taken, ready := false, task := false, since := s.now }
  let s := putSlot rid x' s
  let s := { s with arb := { s.arb with ingress := s.arb.ingress.filter fun p => decide (p ≠ (rid, x.seq)) } }
  let r := requester rid s
  let s := setRequester rid { r with parks := (r.parks + 1) % 2 ^ 32 } s
  let s := noteSiding (incObj Obj.ARB_PARKS s)
  answer 9 reason rid x s.trk.bin 0 (some (ownTicket x)) s

/-- The effective bin of R101: the ticket's own, or the bin in progress at arrival of a late REQUEST (R72). -/
def effOf (x : Slot) : Nat := x.lateBin.getD x.eff

/-- R108: a REQUEST is handed to the revocation unit; tasks handed over in one cycle are taken in lane order. -/
def handOver (rid : Nat) (x : Slot) (s : Mach) : Mach :=
  let s := putSlot rid { x with task := true, since := s.now } s
  let later := fun (p : Nat × Nat) => decide (rid % 8 < p.1 % 8) && (slotOf p.1 p.2 s).any fun y => decide (y.since = s.now)
  { s with arb := { s.arb with
      tasks := insertBy (fun _ p => later p) (rid, x.seq) s.arb.tasks
      ingress := s.arb.ingress.filter fun p => decide (p ≠ (rid, x.seq)) } }

/-- R101: a REQUEST is decided. The lane hands every REQUEST of a class that may preempt to the unit, which finds out
whether revocable grants cover the shortfall (R109; DESIGN CHOICE, log entry 128). -/
def decideRequest (rid seq : Nat) (s : Mach) : Mach :=
  match slotOf rid seq s with
  | none => s
  | some x =>
    let r := requester rid s
    let b := effOf x
    if s.arb.stopped.testBit (rid % 8) then park rid x 1 s
    else if x.dp = 0 ∨ 32767 < x.dp ∨ oGet Obj.ARB_MAX_DELTA_P r.cls 0 s < x.dp ∨ s.trk.n ≤ x.eff then
      voidSlot rid x 0xA s.trk.bin (some (ownTicket x)) s
    else if s.mode = .drain then park rid x 3 s
    else if rowNoGrant (row b s) then park rid x 2 s
    else if rideThrough s then park rid x 1 s
    else if (x.dp : Int) ≤ laneHeadroom b s then reserveCheck (rid % 8) b (grant true rid x b s)
    else if oGet Obj.ARB_PREEMPT r.cls 0 s = 1 then handOver rid x s
    else park rid x 1 s

/-! ### The lanes' choice (R103 to R105) -/

/-- The siding entry of requester `rid` that lane `lane` may offer now. -/
def offerable (lane rid : Nat) (s : Mach) : Option Slot :=
  if rid % 8 ≠ lane ∨ s.arb.stopped.testBit lane ∨ s.trk.n ≤ s.trk.bin + 1 then none
  else (requester rid s).slots.find? fun x =>
    x.siding && x.ready && (decide (x.st = .revoked) || decide (s.mode ≠ .drain))

/-- The best of the lane's offers: highest-ranked class, then requester-ID order after the lane's pointer of the
class. -/
def bestOffer (lane : Nat) (s : Mach) : Option (Nat × Slot) :=
  let cand := s.arb.reqs.filterMap fun p => (offerable lane p.1 s).map fun x => (p.1, p.2.cls, x)
  let key := fun (q : Nat × Nat × Slot) =>
    q.2.1 * 2 ^ 32 + (q.1 + 32768 - sget 0 s.arb.pointer (lane * 8 + q.2.1)) % 32768
  match cand with
  | [] => none
  | q :: l =>
    let m := l.foldl (fun a b => if key b < key a then b else a) q
    some (m.1, m.2.2)

/-- The head of the lane's ingress list: the oldest item of the lane that is not held for the next step. -/
def ingressHead (lane : Nat) (s : Mach) : Option (Nat × Nat) :=
  s.arb.ingress.find? fun p => decide (p.1 % 8 = lane) &&
    (match slotOf p.1 p.2 s with | some x => !x.early && !x.task | none => false)

/-- R103: the lane decides its ingress head now. -/
def headFirst (lane : Nat) (s : Mach) : Option (Nat × Nat) :=
  match ingressHead lane s with
  | none => none
  | some h => match bestOffer lane s with
    | none => some h
    | some q => if (requester h.1 s).cls < (requester q.1 s).cls then some h else none

/-- R103: the lane offers its siding now. -/
def offerFirst (lane : Nat) (s : Mach) : Option (Nat × Slot) :=
  match headFirst lane s with
  | some _ => none
  | none => bestOffer lane s

/-- R104, R116: a siding entry is offered for the bin after the bin in progress. -/
def offer (lane rid : Nat) (x : Slot) (s : Mach) : Mach :=
  let cls := (requester rid s).cls
  let s := { s with arb := { s.arb with pointer := sput 0 s.arb.pointer (lane * 8 + cls) ((rid + 1) % 32768) } }
  let b := s.trk.bin + 1
  let s := putSlot rid { x with ready := false } s
  let x := { x with ready := false }
  if x.st = .revoked then
    let rem := min (x.span0 - x.used) (x.endBin.getD s.trk.n - b)
    if rem = 0 then voidSlot rid x 0xB s.trk.bin none s
    else if (x.dp : Int) ≤ laneHeadroom b s then
      let span := min rem (s.trk.n - b)
      let s := noteWait rid x s
      let s := goLive true rid x b span s
      let s := incObj Obj.ARB_RESUMES s
      sidingMove rid (reserveCheck lane b (answer 0xB 0 rid x b span none s))
    else s
  else if (x.dp : Int) ≤ laneHeadroom b s ∧ ¬ rowNoGrant (row b s) then
    reserveCheck lane b (incObj Obj.ARB_SIDING_GRANTS (grant true rid x b s))
  else s

/-! ### Taking headroom back (R108 to R116) -/

/-- The first bin that begins at least 23 µs from now (R110). -/
def revokeBin (s : Mach) : Nat := firstBinFrom (s.now + 23000) s

/-- R100, R115: a LIVE grant is revoked from bin `rb`, parked with its progress count; `frame` sends the REVOKE. -/
def revoke (rid : Nat) (x : Slot) (reason rb : Nat) (frame : Bool) (s : Mach) : Mach :=
  let u := if s.trk.bin < x.bin then 0 else rb - x.bin
  let used := x.used + u
  let j := x.usedJ + x.dp * u * s.trk.d / (2 ^ 14 * 1000000000)
  let r := requester rid s
  let sidingRevoked := r.slots.any fun y => y.siding && decide (y.st = .revoked)
  let x' := { x with
    st := .revoked
    siding := !sidingRevoked
    ready := false
    revBin := rb
    revOrder := s.arb.order
    used := used
    usedJ := j
    since := s.now }
  let slots := r.slots.map fun y =>
    if y.seq = x.seq then x'
    else if y.siding && decide (y.st = .parked) then { y with st := .held, siding := false, displaced := true, ready := false }
    else y
  let s := setRequester rid { r with slots := slots, revokes := if frame then min (r.revokes + 1) 0xFFFF else r.revokes } s
  let s := { s with arb := { s.arb with order := s.arb.order + 1 } }
  let s := noteG false (max rb x.bin) (slotRange x s.trk.n).2 (-(x.dp : Int)) s
  -- a REVOKE whose bin is not before the step's end ends its grant at the wrap (R49, R134)
  let s := markReady (noteSiding (endFf rid x (if rb < s.trk.n then .revoke rb else .endBin s.trk.n) s))
  if frame then answer 0xA reason rid x' rb used none s else s

/-- Candidates in order: class 7 upward, the most recently decided first (R109, R112). -/
def candidates (ok : Nat → Slot → Bool) (s : Mach) : List (Nat × Slot) :=
  let all := s.arb.reqs.flatMap fun p =>
    (p.2.slots.filter fun x => decide (x.st = .live) && ok p.2.cls x).map fun x => (p.1, p.2.cls, x)
  let before := fun (a b : Nat × Nat × Slot) =>
    decide (b.2.1 < a.2.1 ∨ (a.2.1 = b.2.1 ∧ b.2.2.order ≤ a.2.2.order))
  (sortBy before all).map fun q => (q.1, q.2.2)

/-- The shortest run of candidates whose ΔP reaches `need`, and whether it does. -/
def takeUntil (need : Int) : List (Nat × Slot) → List (Nat × Slot) × Bool
  | [] => ([], decide (need ≤ 0))
  | q :: r => if need ≤ 0 then ([], true) else
    let t := takeUntil (need - q.2.dp) r
    (q :: t.1, t.2)

/-- R109 to R111: the revocation unit takes a preemption task; one of a lane that R98 has stopped is parked. The reserve
is checked in the effective bin, the only one whose headroom was compared, also when the GRANT names a later BIN
(DESIGN CHOICE, log entry 128). -/
def preempt (rid seq : Nat) (s : Mach) : Mach :=
  let s := { s with arb := { s.arb with tasks := s.arb.tasks.filter fun p => decide (p ≠ (rid, seq)) } }
  match slotOf rid seq s with
  | none => s
  | some x =>
    let b := effOf x
    let c := (requester rid s).cls
    if s.mode = .drain then park rid x 3 s
    else if rideThrough s ∨ s.arb.stopped.testBit (rid % 8) then park rid x 1 s
    else
      let h := unitHeadroom b s
      if (x.dp : Int) ≤ h then reserveCheck (rid % 8) b (grant false rid x b s)
      else
        let l := candidates (fun k y => decide (c < k) && inForce b s.trk.n y
          && decide (oGet Obj.ARB_REVOCABLE k 0 s = 1)) s
        let t := takeUntil ((x.dp : Int) - h) l
        let rb := revokeBin s
        let edge := frameEnd (binStartQ rb s / 2 ^ 11) s
        let gb := max b (firstBinFrom ((edge + 7) / 8) s)
        if t.2 = false ∨ s.trk.n ≤ rb ∨ s.trk.n ≤ gb then park rid x 1 s
        else
          let s := each t.1 (fun q s => oAdd Obj.ARB_REVOKE_PREEMPT 0 0 1 (revoke q.1 q.2 1 rb true s)) s
          reserveCheck (rid % 8) b (grant false rid x gb s)

/-- R112: a fall of the supply by `f` watts hands over a fall task for what it uncovers in the bin in progress. -/
def fallBy (f : Int) (reason : Nat) (s : Mach) : Mach :=
  let b := s.trk.bin
  let short := (committed b s : Int) - supplyY b s
  if 0 < f ∧ 0 < short then
    { s with arb := { s.arb with falls := s.arb.falls ++ [⟨(min f short).toNat, reason⟩] } }
  else s

/-- A change of a supply term: a fall in the bin in progress is answered per R112, and a rise in the bin after it makes
siding entries ready (R104). -/
def withSupply (reason : Nat) (f : Mach → Mach) (s : Mach) : Mach :=
  let b := s.trk.bin
  let s' := f (notePrior s)
  let y0 := supplyY b s
  let y1 := supplyY b s'
  let s'' := noteOver b (if y1 < y0 then fallBy (y0 - y1) reason s' else s')
  if supplyY (b + 1) s < supplyY (b + 1) s' then markReady s'' else s''

/-- R112, R113: the revocation unit takes a fall task. -/
def fallTask (t : FallTask) (s : Mach) : Mach :=
  let l := candidates (fun _ y => inForce s.trk.bin s.trk.n y) s
  let rb := revokeBin s
  if s.trk.n ≤ rb then s
  else each (takeUntil t.size l).1 (fun q s => incObj Obj.ARB_REVOKE_FALL (revoke q.1 q.2 t.reason rb true s)) s

/-! ### BRAKE and flushing (R85, R290) -/

/-- Tray `t` is in a BRAKE hold. -/
def inHold (t : Nat) (s : Mach) : Bool :=
  (tray t s).holdStep.isSome && decide (s.trk.bin < (tray t s).holdEnd)

/-- The LIVE grants of a tray's requesters. -/
def trayLive (t : Nat) (s : Mach) : List (Nat × Slot) :=
  (srange s.arb.reqs (t * 512) (t * 512 + 512)).flatMap fun p =>
    (p.2.slots.filter fun x => decide (x.st = .live)).map fun x => (p.1, x)

/-- What a tray's requesters hold in G: first bin, end bin and ΔP. -/
def trayForce (t : Nat) (s : Mach) : List (Nat × Nat × Nat) :=
  ((srange s.arb.reqs (t * 512) (t * 512 + 512)).flatMap fun p => p.2.slots.map fun x =>
    ((slotRange x s.trk.n).1, (slotRange x s.trk.n).2, x.dp))
  ++ (s.arb.tails.filter fun q => decide (trayOf q.rid = t)).map fun q => (q.lo, q.hi, q.dp)

/-- R85: unsent GRANT and RESUME answers for tray `t` leave egress. -/
def dropGrants (t : Nat) (s : Mach) : Mach :=
  let keep := fun (l : List Answer) => l.filter fun a => !decide (a.kind = 8 ∨ a.kind = 0xB)
  { s with tk := { s.tk with
      open_ := s.tk.open_.map fun b => if b.tray = t then { b with answers := keep b.answers } else b
      ready := (s.tk.ready.map fun b => if b.tray = t then { b with answers := keep b.answers } else b).filter (fun b =>
        decide (b.answers ≠ [])) } }

/-- R68: a BRAKE goes alone in its bundle, unless nothing may be sent to its tray. -/
def queueBrake (a : Answer) (s : Mach) : Mach :=
  let t := trayOf a.rid
  if keyValid t s = 0 ∨ (tray t s).addr = [] ∨ ¬ drives s then s
  else closeBundle ⟨t, 0, none, 0, s.now, [a]⟩ s

/-- R85: BRAKE to tray `t`, which has a valid key slot; a tray without one is not braked (R73). -/
def brake (t reason : Nat) (s : Mach) : Mach :=
  if keyValid t s = 0 then s
  else
    let rb := min (revokeBin s) s.trk.n
    let s := each (trayLive t s) (fun q s => revoke q.1 q.2 reason rb false s) s
    let s := dropGrants t s
    let hold := obj Obj.TKT_BRAKE_HOLD_BINS s
    let span := if hold = 262143 then 0x3FFFF else min hold (s.trk.n - s.trk.bin)
    let stop := if hold = 262143 then s.trk.n else s.trk.bin + span
    let a : Answer := ⟨0xD, reason, t * 512 + 0x1FF, s.tk.brakes % 65536, s.trk.step, s.trk.bin, span,
      lowSlot t s, s.now, none⟩
    let x := tray t s
    let s := setTray t { x with holdStep := some s.trk.step, holdEnd := stop } s
    let s := { s with tk := { s.tk with brakes := s.tk.brakes + 1 } }
    queueBrake a (decided a s)

/-- R71: the SEQ history of a tray's requesters is forgotten. -/
def forgetSeq (t : Nat) (s : Mach) : Mach :=
  { s with arb := { s.arb with reqs := pruneReqs (s.arb.reqs.map fun p =>
      if t * 512 ≤ p.1 ∧ p.1 < t * 512 + 512 then (p.1, { p.2 with lastSeq := none }) else p) } }

/-- R71: on entry to RUN every requester's SEQ history is forgotten. -/
def forgetAllSeq (s : Mach) : Mach :=
  { s with arb := { s.arb with reqs := pruneReqs (s.arb.reqs.map fun p => (p.1, { p.2 with lastSeq := none })) } }

/-- R290, Table 3.9: a tray's grants end, its queues and siding entries are flushed without a frame, and nothing more
is sent to it. -/
def flushTray (t : Nat) (s : Mach) : Mach :=
  let mine := fun (rid : Nat) => decide (t * 512 ≤ rid ∧ rid < t * 512 + 512)
  let s := each (trayForce t s) (fun q s => noteG false (max s.trk.bin q.1) q.2.1 (-(q.2.2 : Int)) s) s
  let s := { s with
    arb := { s.arb with
      reqs := pruneReqs (s.arb.reqs.map fun p => if mine p.1 then (p.1, { p.2 with slots := [] }) else p)
      tails := s.arb.tails.filter fun q => !mine q.rid
      ingress := s.arb.ingress.filter fun p => !mine p.1
      tasks := s.arb.tasks.filter fun p => !mine p.1 }
    tk := { s.tk with
      open_ := s.tk.open_.filter fun b => decide (b.tray ≠ t)
      ready := s.tk.ready.filter fun b => decide (b.tray ≠ t) }
    cnv := { s.cnv with ff := s.cnv.ff.filter fun f => !mine f.rid } }
  markReady (forgetSeq t s)

/-! ### Floors (R83) -/

/-- The floor in force of requester `i`. -/
def floorOf (i : Nat) (s : Mach) : Nat := (requester i s).floor.getD (obj Obj.TKT_FLOOR_DEFAULT_W s)

/-- The sum of the floors of a tray's 512 requesters. -/
def trayFloor (t : Nat) (s : Mach) : Nat :=
  let d := obj Obj.TKT_FLOOR_DEFAULT_W s
  (srange s.arb.reqs (t * 512) (t * 512 + 512)).foldl
    (fun a p => a + p.2.floor.getD d - d) (512 * d)

/-- TKT_FLOOR_SUM_W: the floors in force over all enabled trays. -/
def floorSum (s : Mach) : Nat :=
  (bitsBelow (obj Obj.TKT_TRAY_ENABLE s) 64).foldl (fun a t => a + trayFloor t s) 0

end Sys2Proof.Machine
end

