-- ==== Sys2Proof/Machine/Converter.lean ====
section
/-! DEFINITION. The storage converter's regulator (chapter 5): phases, cards and spares, the duty law, braking,
all-fire, shedding and the perturbation of live calibration. Positive power flows from the bank to the bus (R122). -/

namespace Sys2Proof.Machine

/-! ### Phases and banks -/

/-- Bank 0 is the fast bank, bank 1 the deep bank. -/
def bankReg (deep : Bool) (s : Mach) : BankReg := if deep then s.cnv.banks.2 else s.cnv.banks.1
/-- A bank's registers replaced. -/
def setBankReg (deep : Bool) (x : BankReg) (s : Mach) : Mach :=
  { s with cnv := { s.cnv with banks := if deep then (s.cnv.banks.1, x) else (x, s.cnv.banks.2) } }
/-- The instance of an object of Table 5.10 for a bank. -/
def bankIx (deep : Bool) : Nat := b2n deep

/-- WORKING and DIODE phases of a bank, ascending (n_x, Table 5.4). -/
def rotation (deep : Bool) (s : Mach) : List Nat :=
  (List.range 100).filter fun p => let x := phase p s; x.deep = deep && decide (x.st = .working ∨ x.st = .diode)
/-- n_x of R133. -/
def nWork (deep : Bool) (s : Mach) : Nat := (rotation deep s).length
/-- The phases of a bank in a given state, ascending. -/
def phasesIn (deep : Bool) (st : PhState) (s : Mach) : List Nat :=
  (List.range 100).filter fun p => let x := phase p s; x.deep = deep && decide (x.st = st)

/-- The latest sample of a sense channel in mV: 4 mV per LSB (R131, R234). -/
def chanMv (ch : Nat) (s : Mach) : Int := 4 * (sget 0 s.cnv.chan ch : Nat)
/-- The bank voltage v_x, mV (R234). -/
def bankMv (deep : Bool) (s : Mach) : Int :=
  chanMv (if deep then oGet Obj.BNK_FAST_CH_TO_BNK_DEEP_CHECK_CH 0 2 s else oGet Obj.BNK_FAST_CH_TO_BNK_DEEP_CHECK_CH 0 0 s) s

/-- R129, R153: the corrected current from a raw report, 5 mA units: the offset first, then the gain. -/
def corrected (x : Phase) (raw : Int) : Int := asr ((raw + x.offs) * x.gain) 14

/-- The measured current of a phase, mA. -/
def measMa (p : Nat) (s : Mach) : Int := (phase p s).cur * 5

/-- A phase returns to WORKING with its latest measured current as i_prev (R133). -/
def toWorking (p : Nat) (s : Mach) : Mach :=
  let x := phase p s
  setPhase p { x with st := .working, iPrev := x.cur * 5, dFrames := 0, wFrames := 0, idleAt := none, missing := false } s

/-- R150: every fitted, unfaulted, non-spare phase is WORKING; one that comes from another state takes its latest measured
current. -/
def phasesTrack (s : Mach) : Mach :=
  each (List.range 100) (fun p s =>
    let x := phase p s
    if x.st = .working ∨ x.st = .faulted ∨ x.st = .spare ∨ ¬ (card (p / 4) s).fitted then s else toWorking p s) s

/-- Restoring a shed phase (R144), counted on source 132. -/
def restore (p : Nat) (s : Mach) : Mach := countEv 132 (toWorking p s)

/-- The whole number of a phase's card. -/
def cardPhases (c : Nat) : List Nat := [4 * c, 4 * c + 1, 4 * c + 2, 4 * c + 3]

/-- Phases take their bank from `CNV_CARD_BANK` and are SPARE where `CNV_SPARE_CARDS` marks their card (R146). A write in
STOP while the converter still runs puts every other unfaulted phase COLD_SHED at once (DESIGN CHOICE, log entry 130). -/
def assignCards (s : Mach) : Mach :=
  let bank := obj Obj.CNV_CARD_BANK s
  let spare := obj Obj.CNV_SPARE_CARDS s
  each (List.range 100) (fun p s =>
    let x := phase p s
    if x.st = .faulted then s
    else setPhase p { x with deep := bank.testBit (p / 4), st := if spare.testBit (p / 4) then .spare else .coldShed } s) s

/-- R135: the overload credits of banks and phases start at `CNV_OVERLOAD_MS`, when the persistent objects load. -/
def creditStart (s : Mach) : Mach :=
  let c := obj Obj.CNV_OVERLOAD_MS s * 8000000
  let s : Mach := { s with cnv := { s.cnv with banks := ({ s.cnv.banks.1 with credit := c }, { s.cnv.banks.2 with credit := c }) } }
  each (List.range 100) (fun p s => setPhase p { phase p s with credit := c } s) s

/-- R150: entry to TRACK at start: compensators at rest, r not yet at the bus, and every fitted, unfaulted, non-spare phase
WORKING. Overload credits go on (R135). -/
def converterTrack (s : Mach) : Mach :=
  phasesTrack { s with cnv := { s.cnv with
    st := .track
    settled := 0
    refUv := 0
    fire := { s.cnv.fire with held := false }
    banks := ({ credit := s.cnv.banks.1.credit }, { credit := s.cnv.banks.2.credit }) } }

/-- R151: the return to TRACK at stop: the compensators and r go on from where they are. -/
def trackAgain (s : Mach) : Mach :=
  phasesTrack (bankFastDisarm
    { s with cnv := { s.cnv with st := .track, settled := 0, fire := { s.cnv.fire with held := false } } })

/-! ### Cards and spares (R147 to R149) -/

/-- SPARES_EXHAUSTED is asserted while a removed card has no replacement. -/
def refreshSpares (s : Mach) : Mach :=
  setLine 8 (s.cnv.cards.any fun p => p.2.lostBank.isSome && p.2.replacedBy.isNone) 0 0 s

/-- CARD_LINK is asserted while a fitted card's link is missing or wrong (R147). -/
def refreshCardLink (c : Nat) (s : Mach) : Mach :=
  setLine 49 (s.cnv.cards.any fun p => p.2.linkBad || p.2.wrongSlot) (0x1000 + c) 0x10 s

/-- R148: the lowest-numbered SPARE card that qualifies for a bank. -/
def spareFor (deep : Bool) (s : Mach) : Option Nat :=
  (List.range 25).find? fun c =>
    let x := card c s
    x.fitted && !x.removed && x.spareFor.isNone && decide ((phase (4 * c) s).st = .spare)
      && (x.selCap || (obj Obj.CNV_CARD_BANK s).testBit c == deep)

/-- R148: a spare is chosen for the bank that removed card `c` leaves short, if one qualifies. -/
def chooseSpare (c : Nat) (s : Mach) : Mach :=
  let x := card c s
  match x.lostBank with
  | none => s
  | some d =>
    match spareFor d s with
    | none => s
    | some k =>
      let s := setCard c { x with replacedBy := some k } s
      let y := card k s
      setCard k { y with spareFor := some d, replaces := c } s

/-- A bank that is short takes a card that has become SPARE (R149). -/
def fillShort (s : Mach) : Mach :=
  refreshSpares (each (List.range 25) (fun c s =>
    let x := card c s
    if x.lostBank.isSome && x.replacedBy.isNone then chooseSpare c s else s) s)

/-- R147: a card is removed: its phases FAULTED and COLD, PHASE_CARD latches, a spare is chosen. -/
def removeCard (c bits : Nat) (s : Mach) : Mach :=
  let x := card c s
  let inBank := decide ((phase (4 * c) s).st ≠ .spare)
  let bank := if inBank then some (phase (4 * c) s).deep else none
  let s := each (cardPhases c) (fun p s =>
    let y := phase p s
    setPhase p { y with st := .faulted, faults := min (y.faults + 1) 0xFFFF, idleAt := none, missing := false } s) s
  -- a chosen spare that is removed leaves the card it was to replace without a replacement
  let s := match x.spareFor with
    | some _ => let r := card x.replaces s; setCard x.replaces { r with replacedBy := none } s
    | none => s
  let x := card c s
  let s := setCard c { x with removed := true, doomed := none, lostBank := bank, replacedBy := none, spareFor := none, readmit := false } s
  let s := setObj Obj.CNV_SPARE_IN_USE (clrBit (obj Obj.CNV_SPARE_IN_USE s) c) s
  let s := countEv 133 s
  fillShort (pulse 7 (0x1000 + c) bits s)

/-- R148: at a step boundary a chosen spare that reports READY and its bank's selector enters its bank. -/
def spareEntry (s : Mach) : Mach :=
  each (List.range 25) (fun k s =>
    let y := card k s
    match y.spareFor with
    | none => s
    | some d =>
      if y.ready && (!y.selCap || y.selState == d) then
        let running := decide (s.cnv.st = .track ∨ s.cnv.st = .regulate)
        let bank := (bankReg d s).credit
        let s := each (cardPhases k) (fun p s =>
          let x := phase p s
          setPhase p { x with
            deep := d
            st := if running then .working else .coldShed
            iPrev := x.cur * 5
            credit := min x.credit bank
            trim := 0 } s) s
        let r := card y.replaces s
        let s := setCard y.replaces { r with lostBank := none, replacedBy := none } s
        let s := setCard k { y with spareFor := none } s
        let s := setObj Obj.CNV_SPARE_IN_USE (setBit (obj Obj.CNV_SPARE_IN_USE s) k) s
        countEv 134 (log 0x0300 (0x1000 + k) y.replaces (incObj Obj.SPR_ENTRIES s))
      else s) s

/-- R149: a FAULTED card whose uplink shows no PHASE_FAULT becomes SPARE once readmitted, and serves a short bank. -/
def readmitCard (c : Nat) (s : Mach) : Mach :=
  let x := card c s
  if x.readmit && x.removed then
    let s := each (cardPhases c) (fun p s => setPhase p { phase p s with st := .spare, idleAt := none } s) s
    -- the bank it left short stays short until a spare enters
    let s := setCard c { x with removed := false, readmit := false, doomed := none } s
    fillShort s
  else s

/-! ### Feedforward (R14, R134) -/

/-- The instant, in eighth ns, at which bin `b` of the step in progress begins. -/
def binStart8 (b : Nat) (s : Mach) : Nat := binStartQ b s / 2 ^ 11

/-- R30: in TRACK with a known period bin N - 1 lasts until the event, so that the step's end is not known before. -/
def openEnd (b : Nat) (s : Mach) : Bool :=
  decide (s.trk.n ≤ b) && decide (s.trk.st = .track) && decide (s.trk.period ≠ 0)

/-- R14, R134: whether the frame that begins at `f0` and ends at `f1` (eighth ns) carries a grant. -/
def ffApplies (f0 f1 : Nat) (s : Mach) (x : FfItem) : Bool :=
  decide (binStart8 x.start s < f1) &&
    match x.stop with
    | .endBin b => decide (f1 ≤ binStart8 b s) || openEnd b s
    | .revoke b => decide (f0 ≤ binStart8 b s)

/-- ff_grant of a frame. -/
def grantFf (f0 f1 : Nat) (s : Mach) : Int :=
  (s.cnv.ff.filter (ffApplies f0 f1 s)).foldl (fun a x => a + x.dp) 0

/-- Grants whose feedforward is over leave the list. -/
def pruneFf (f0 : Nat) (s : Mach) : Mach :=
  { s with cnv := { s.cnv with ff := s.cnv.ff.filter fun x => match x.stop with
      | .endBin b => decide (f0 < binStart8 b s) || openEnd b s
      | .revoke b => decide (f0 ≤ binStart8 b s) } }

/-- The bin in progress at an instant (eighth ns), at most the last bin of the step. -/
def binAt8 (t : Nat) (s : Mach) : Nat :=
  let q := t * 2 ^ 11
  if q < s.trk.nextT then s.trk.bin
  else min (s.trk.bin + 1 + (q - s.trk.nextT) / s.trk.d) (s.trk.n - 1)

/-! ### The duty law (R133) -/

/-- T of R123: the frame in steps of 78.125 ps. -/
def frameSteps (s : Mach) : Int := 8 * s.cnv.period

/-- A coefficient of Table 5.10 as a signed Q16.16 integer. -/
def coef (d : ObjDef) (deep : Bool) (j : Nat) (s : Mach) : Int := oGetI d 32 (bankIx deep) j s

/-- The compensator's new output, before its clamp. -/
def compOut (deep : Bool) (e : Int) (s : Mach) : Int :=
  let x := bankReg deep s
  let b := coef Obj.CNV_B0_TO_CNV_B3 deep
  let a := coef Obj.CNV_A1_TO_CNV_A3 deep
  asr (b 0 s * e + b 1 s * x.e.getD 0 0 + b 2 s * x.e.getD 1 0 + b 3 s * x.e.getD 2 0
    - a 0 s * x.u.getD 0 0 - a 1 s * x.u.getD 1 0 - a 2 s * x.u.getD 2 0) 16

/-- R135: the phase limit of a bank. -/
def phaseLimit (deep : Bool) (s : Mach) : Nat :=
  if 0 < (bankReg deep s).credit then obj Obj.CNV_PH_PEAK_W s else obj Obj.CNV_PH_CONT_W s

/-- lim of a bank: n_x × the phase limit, in TRACK at most the limit of TRACK (R133, R150). -/
def bankLimit (deep : Bool) (s : Mach) : Nat :=
  let l := nWork deep s * phaseLimit deep s
  if s.cnv.st = .track then min l (obj Obj.CNV_TRACK_LIMIT_W s) else l

/-- A quotient rounded toward zero (R189); by 0 it is a free value. -/
def quotient (a b : Int) : Int := if b = 0 then (Config.noQuotient a).toInt else tdiv a b

/-- The line-high time of a phase for a current command and the command before it, in mA (R133). At a bus value of 0 mV
the quotients are free values and the clamp holds (log entry 131). -/
def lineHigh (deep : Bool) (p : Nat) (iCmd iPrev : Int) (s : Mach) : Int :=
  let t := frameSteps s
  let vb := s.cnv.busMv
  let r : Int := oGet Obj.CNV_LOOP_RES_UOHM (bankIx deep) 0 s
  let l : Int := oGet Obj.CNV_INDUCTANCE_NH (bankIx deep) 0 s
  let h := quotient (t * (vb - bankMv deep s)) vb + quotient (t * iCmd * r) (vb * 1000000)
    + quotient (l * (iCmd - iPrev) * 128) (10 * vb) + (phase p s).trim
  clampI h 0 (tdiv (t * 15) 16)

/-- A power in W over `n` phases at the bank's voltage as mA per phase, i32 (R133); at a bank voltage of 0 mV a free value.
Without a phase there is no command (log entry 131). -/
def ampsFor (deep : Bool) (p : Int) (n : Nat) (s : Mach) : Int :=
  if n = 0 then 0 else (BitVec.ofInt 32 (quotient (p * 1000000) (n * bankMv deep s))).toInt

/-- R417: the high times that the outputs drive: one under 1.25 ns (16 steps) is driven as low. -/
def driven (l : List (Nat × Nat × Nat)) : List (Nat × Nat × Nat) :=
  l.map fun q => (q.1, q.2.1, if q.2.2 < 16 then 0 else q.2.2)

/-- R142: the offset of the j-th WORKING phase in frame k, in steps. -/
def offsetOf (j n : Nat) (s : Mach) : Nat := ((j + s.cnv.k) % n) * (frameSteps s).toNat / n

/-- The mean of i_meas over a bank's WORKING phases, mA. -/
def meanMa (deep : Bool) (s : Mach) : Int :=
  let l := phasesIn deep .working s
  if l = [] then 0 else tdiv (l.foldl (fun a p => a + measMa p s) 0) l.length

/-- R153: the WORKING phases of the card under calibration. -/
def calPhases (s : Mach) : List Nat := (cardPhases s.cnv.cal.card).filter fun p => decide ((phase p s).st = .working)

/-- Part `j` of an amount cut into `n` whole parts that add up to it. -/
def partOf (a : Int) (n j : Nat) : Int := tdiv (a * (j + 1 : Nat)) n - tdiv (a * j) n

/-- R153: the perturbation of WORKING phase `p` of a bank in W, for the sign `g` of the sequence: the WORKING phases of the
card under calibration take it, those of the other bank the same amount of opposite sign. -/
def perturbation (deep : Bool) (p : Nat) (g : Int) (s : Mach) : Int :=
  let c := s.cnv.cal.card
  let a : Int := obj Obj.CNV_CAL_AMPL_W s
  if g = 0 then 0
  else if p / 4 = c then let l := calPhases s; partOf (g * a) l.length (l.idxOf p)
  else if (phase (4 * c) s).deep = deep then 0
  else let l := phasesIn deep .working s; partOf (-(g * a)) l.length (l.idxOf p)

/-- The duties of one bank's WORKING phases: i_prev and trim follow, the line-high times are collected. -/
def bankDuties (deep : Bool) (iCmd : Int) (g : Int) (s : Mach) : Mach × List (Nat × Nat × Nat) :=
  let l := rotation deep s
  let n := l.length
  let mean := meanMa deep s
  let t := frameSteps s
  (l.zipIdx).foldl (fun (a : Mach × List (Nat × Nat × Nat)) q =>
    let s := a.1
    let p := q.1
    let x := phase p s
    if x.st ≠ .working then (s, a.2 ++ [(p, offsetOf q.2 n s, 0)])
    else
      let i := iCmd + ampsFor deep (perturbation deep p g s) 1 s
      let h := lineHigh deep p i x.iPrev s
      let trim := clampI (x.trim + asr (mean - measMa p s) (obj Obj.CNV_BALANCE_SHIFT s)) (-(tdiv t 64)) (tdiv t 64)
      (setPhase p { x with iPrev := i, trim := trim } s, a.2 ++ [(p, offsetOf q.2 n s, h.toNat)])) (s, [])

/-- R252: the latest computed frame gives way to one that is all-fire, braking or perturbation where `loud`; if it was one
itself, it fell in the rest window in progress. -/
def frameLoud (loud : Bool) (s : Mach) : Mach :=
  let was := s.cnv.loud
  let s : Mach := { s with cnv := { s.cnv with loudPrev := was, loud := loud } }
  if was then { s with bnk := { s.bnk with rest := s.bnk.rest.map fun x => { x with ok := false } } } else s

/-! ### Reference, braking, shedding (R132, R136, R143 to R145, R150) -/

/-- The slew of r in one frame, µV (R132). -/
def slewUv (s : Mach) : Int := (obj Obj.CNV_SLEW_MV_MS s * s.cnv.period / 1600 : Nat)

/-- R132, R150: the reference for the coming frame. -/
def nextRef (s : Mach) : Int :=
  let set : Int := (obj Obj.CNV_BUS_SET_MV s * 1000 : Nat)
  match s.cnv.st with
  | .regulate => if s.cnv.refUv < set then min set (s.cnv.refUv + slewUv s) else max set (s.cnv.refUv - slewUv s)
  | .track =>
    if s.fdr.seq = .stopRamp ∧ s.grd.inService = none then max 0 (s.cnv.refUv - slewUv s)
    else if obj Obj.CNV_TRACK_MODE s = 1 then min set s.grd.busRef
    else if s.fdr.seq ≠ .stopRamp ∧ set ≤ s.cnv.refUv then set
    else min set (s.cnv.busMv * 1000)
  | _ => s.cnv.refUv

/-- n_need of R143. -/
def nNeed (deep : Bool) (s : Mach) : Nat :=
  let p := (bankReg deep s).p.natAbs * 100
  let per := obj Obj.CNV_SHED_LOAD_PCT s * obj Obj.CNV_PH_CONT_W s
  max (oGet Obj.CNV_MIN_WORKING (bankIx deep) 0 s) ((p + per - 1) / per)

/-- R144: a COLD_SHED phase of a card in its slot is commanded IDLE. -/
def wake (p : Nat) (s : Mach) : Mach :=
  let x := phase p s
  if x.idleAt.isSome ∨ ¬ (card (p / 4) s).fitted then s else setPhase p { x with idleAt := some s.now } s

/-- DIODE_EXIT (R137): the current is low, or the stay is over; a phase waiting for bus samples stays (Table 5.8). -/
def diodeExit (p : Nat) (s : Mach) : Mach :=
  let x := phase p s
  if x.st = .diode ∧ ¬ x.missing
      ∧ (measMa p s ≤ (obj Obj.CNV_BRAKE_EXIT_MA s : Int) ∨ obj Obj.CNV_BRAKE_MAX_FRAMES s ≤ x.dFrames) then
    toWorking p s
  else s

/-- R144: restoration of a bank's phases at a compute point whose frame begins in a row with SHED_ALLOWED as given; p_x is
that of the frame in progress (log entry 132). -/
def restoreBank (deep : Bool) (shed : Bool) (s : Mach) : Mach :=
  let s := each ((phasesIn deep .warmShed s).filter fun p => (phase p s).idleAt.isSome) restore s
  if !shed then
    let s := each (phasesIn deep .warmShed s) restore s
    each (phasesIn deep .coldShed s) wake s
  else if nWork deep s * obj Obj.CNV_RESTORE_LOAD_PCT s * obj Obj.CNV_PH_CONT_W s < (bankReg deep s).p.natAbs * 100 then
    let want := nNeed deep s - nWork deep s
    let warm := phasesIn deep .warmShed s
    let s := each (warm.take want) restore s
    each (((phasesIn deep .coldShed s).filter fun p => (card (p / 4) s).fitted).take (want - warm.length)) wake s
  else s

/-- R145: phases shed within the last 16 frames return to WORKING, and the dwell count restarts. -/
def loadStep (deep : Bool) (s : Mach) : Mach :=
  let s := each ((phasesIn deep .warmShed s).filter fun p => decide (s.cnv.k ≤ (phase p s).wEntry + 16)) restore s
  setBankReg deep { bankReg deep s with dwell := 0 } s

/-- R143: the dwell count at a compute point, and the frames each WARM_SHED phase has spent in SHED_ALLOWED bins. At a
compute point that is a load step too, the count stays 0 (DESIGN CHOICE, log entry 132). -/
def dwellBank (deep : Bool) (shed step : Bool) (s : Mach) : Mach :=
  let x := bankReg deep s
  let s := setBankReg deep { x with dwell := if shed && !step && decide (nNeed deep s < nWork deep s) then x.dwell + 1 else 0 } s
  each (phasesIn deep .warmShed s) (fun p s =>
    let y := phase p s
    setPhase p { y with wFrames := if shed then y.wFrames + 1 else 0 } s) s

/-- R135: the overload credits of a bank and of its phases after a frame of length `len` (eighth ns). The credit of a shed
or spare phase stands still, and restoration, which joins no bank, leaves it (DESIGN CHOICE, log entry 133). -/
def creditBank (deep : Bool) (len : Nat) (s : Mach) : Mach :=
  let x := bankReg deep s
  let n := nWork deep s
  let top := obj Obj.CNV_OVERLOAD_MS s * 8000000
  let heavy := decide (0 < n ∧ n * obj Obj.CNV_PH_CONT_W s < x.p.natAbs)
  let upd := fun (c : Nat) => if heavy then c - len else min top (c + len / obj Obj.CNV_REFILL_RATIO s)
  let s := setBankReg deep { x with credit := upd x.credit } s
  each (rotation deep s) (fun p s => setPhase p { phase p s with credit := upd (phase p s).credit } s) s

/-- R136: a braking trigger for a bank at this compute point. -/
def brakeTrigger (deep : Bool) (ff : Int) (s : Mach) : Bool :=
  decide (obj Obj.CNV_BRAKE_ENABLE s = 1) &&
    (s.cnv.slopeUp || decide ((obj Obj.CNV_BRAKE_FF_W s : Int) ≤ (bankReg deep s).ff - ff))

/-- R136: WORKING phases with a command at or below 0 and a measured current above the exit enter DIODE. -/
def brakePhases (deep : Bool) (iCmd : Int) (s : Mach) : Mach :=
  let s := countEv 130 (incObj Obj.CNV_BRAKE_COUNT s)
  if 0 < iCmd then s
  else each ((phasesIn deep .working s).filter fun p => decide ((obj Obj.CNV_BRAKE_EXIT_MA s : Int) < measMa p s))
    (fun p s => setPhase p { phase p s with st := .diode, dFrames := 0 } s) s

/-! ### All-fire (R138 to R140) -/

/-- R139: the duties of an all-fire frame. A phase from DIODE or WARM_SHED takes its measured current as i_prev (R133).
Every line-high time begins at offset 0 (DESIGN CHOICE, log entry 134). -/
def fireDuties (s : Mach) : List (Nat × Nat × Nat) :=
  (List.range 100).filterMap fun p =>
    let x := phase p s
    let i := ampsFor x.deep (obj Obj.CNV_ALLFIRE_PH_W s) 1 s
    if x.st = .working then some (p, 0, (lineHigh x.deep p i x.iPrev s).toNat)
    else if x.st = .diode ∨ x.st = .warmShed then some (p, 0, (lineHigh x.deep p i (measMa p s) s).toNat)
    else none

/-- A regular frame whose compute point has passed does not begin after all (R138). -/
def uncountFrame (s : Mach) : Mach :=
  if s.ptn.executing then s else
  let s := { s with cnv := { s.cnv with k := (s.cnv.k + 2 ^ 32 - 1) % 2 ^ 32 } }
  each ((List.range 64).filter fun c => oGet Obj.CTR_SOURCE 0 c s = 128) (fun c s =>
    { s with ctr := { s.ctr with
        val    := sput 0 s.ctr.val c ((sget 0 s.ctr.val c + 2 ^ 48 - 1) % 2 ^ 48)
        inStep := sput 0 s.ctr.inStep c (sget 0 s.ctr.inStep c - 1) } }) s

/-- R138, R139, R145: an all-fire frame begins at `t` (eighth ns). -/
def fireStart (t : Nat) (s : Mach) : Mach :=
  -- a frame computed and not begun never begins
  let s : Mach := if t ≤ s.cnv.frameAt then
      let u := uncountFrame s
      { u with cnv := { u.cnv with loud := u.cnv.loudPrev } }
    else s
  let s := { s with ptn := { s.ptn with open_ := { s.ptn.open_ with fire := true } } }
  let s := frameLoud true (loadStep true (loadStep false s))
  let s := { s with cnv := { s.cnv with
      fire := { active := true, ends := t + frameLen s, sepEnd := 0, held := false, resumed := false }
      frameAt := t
      slopeUp := false
      rising := 0
      falling := 0
      cal := { s.cnv.cal with sign := 0 } } }
  let s := if drives s && !s.ptn.gate then send (.duties (driven (fireDuties s))) s else s
  countEv 129 (incObj Obj.CNV_ALLFIRE_COUNT (pulse 6 0 0 s))

/-- R140: error histories 0 and output histories preloaded with u_pre: the latest aggregate sample, and ff_grant and
ff_sched of the last regular frame (DESIGN CHOICE, log entry 134). -/
def preload (s : Mach) : Mach :=
  let g := min (rowGridW (row s.trk.bin s) s) (capForce s)
  let u := (aggLast s : Int) - g - s.cnv.ffGrant - s.cnv.ffSched
  each [false, true] (fun d s => setBankReg d { bankReg d s with e := [0, 0, 0], u := [u, u, u] } s) s

/-- R140: every phase that took part is WORKING and the regulator resumes. -/
def fireResume (s : Mach) : Mach :=
  if s.cnv.fire.resumed then s
  else
    let s := each (List.range 100) (fun p s =>
      let x := phase p s
      if x.st = .working ∨ x.st = .diode ∨ x.st = .warmShed then toWorking p s else s) s
    let s := preload s
    { s with cnv := { s.cnv with fire := { s.cnv.fire with resumed := true } } }

/-! ### The compute point's regulator part -/

/-- A bank's part of the feedforward, before braking and shedding look at it (R133). -/
def ffShare (deep : Bool) (sh : Int) (s : Mach) : Int :=
  let lim : Int := bankLimit deep s
  if s.cnv.st = .track then 0 else clampI (tdiv (sh * (s.cnv.ffGrant + s.cnv.ffSched)) 128) (-lim) lim

/-- A bank's compensator, power and limit for the coming frame (R133): share `sh`, error `e`. -/
def bankLaw (deep : Bool) (sh : Int) (e : Int) (s : Mach) : Mach :=
  let lim : Int := bankLimit deep s
  let x := bankReg deep s
  let u := clampI (compOut deep e s) (-lim) lim
  let ff := ffShare deep sh s
  let p := clampI (ff + tdiv (sh * u) 128) (-lim) lim
  setBankReg deep { x with
    e := e :: x.e.take 2
    u := u :: x.u.take 2
    ff := ff
    p := p
    lim := lim.toNat } s

/-- A bank whose share is 0 takes the other compensator's history (R133). -/
def followOther (deep : Bool) (s : Mach) : Mach :=
  let o := bankReg (!deep) s
  setBankReg deep { bankReg deep s with e := o.e, u := o.u } s

/-- R153: the perturbation runs in this frame. -/
def calActive (r : Nat) (braked : Bool) (s : Mach) : Bool :=
  decide (s.cnv.st = .regulate) && decide (obj Obj.CNV_CAL_ENABLE s = 1) && rowCal r && !braked
    && decide ((bankReg false s).p.natAbs < (bankReg false s).lim ∧ (bankReg true s).p.natAbs < (bankReg true s).lim)
    && decide (calPhases s ≠ [] ∧ phasesIn (!(phase (4 * s.cnv.cal.card) s).deep) .working s ≠ [])
    && decide (s.cnv.cal.frames.length < 127)

/-- The perturbation's sign at a place of its sequence. -/
def prbsSign (i : Nat) : Int := if Config.prbs (i % 127) then 1 else -1

/-- R254: the frame that ends leaves its sample of the perturbed card: its sign, the frame mean of the bank voltage and
the card's summed corrected currents. -/
def calSample (s : Mach) : Mach :=
  let c := s.cnv.cal
  let d := (phase (4 * c.card) s).deep
  let n := if d then c.frN.2 else c.frN.1
  let v := if n = 0 then bankMv d s * 1000 else tdiv ((if d then c.frSum.2 else c.frSum.1) * 1000) n
  let i := (cardPhases c.card).foldl (fun a p => a + measMa p s) 0
  { s with cnv := { s.cnv with cal := { c with
      frames := if c.sign = 0 then c.frames else c.frames ++ [(c.sign, v, i)]
      sign := 0
      frSum := (0, 0)
      frN := (0, 0) } } }

/-- Every WORKING phase enters DIODE while bus samples are missing (Table 5.8). -/
def phasesMissing (s : Mach) : Mach :=
  each (List.range 100) (fun p s =>
    let x := phase p s
    if x.st = .working then setPhase p { x with st := .diode, missing := true, dFrames := 0 } s else s) s

/-- The regulator resumes, preloaded per R140, after bus samples were missing (Table 5.8). -/
def samplesBack (s : Mach) : Mach :=
  if (List.range 100).any (fun p => (phase p s).missing) then
    preload (each (List.range 100) (fun p s => if (phase p s).missing then toWorking p s else s) s)
  else s

/-- The bus value of the frame (R131). -/
def busValue (s : Mach) : Mach :=
  let l := s.cnv.samples.take (max 1 (obj Obj.CNV_BUS_AVG s))
  if l = [] then s
  else { s with cnv := { s.cnv with busMv := tdiv (l.foldl (fun a b => a + b) 0) l.length } }

/-- A bank's share of 128 (R15). -/
def shareIn (deep : Bool) (f : Int) : Int := if deep then 128 - f else f

/-- R133: both compensators and powers for the fast bank's share `f` and error `e`. -/
def bankLaws (f e : Int) (s : Mach) : Mach :=
  let zero := fun (d : Bool) (s : Mach) =>
    followOther d (setBankReg d { bankReg d s with ff := 0, p := 0, lim := bankLimit d s } s)
  let s := if f = 0 then s else bankLaw false f e s
  let s := if f = 128 then s else bankLaw true (128 - f) e s
  if f = 0 then zero false s else if f = 128 then zero true s else s

/-- The phases that change at a compute point before the law runs (R137, R144, R150): in TRACK every phase works; in
REGULATE phases leave DIODE and are restored. -/
def phaseMoves (shed : Bool) (s : Mach) : Mach :=
  if s.cnv.st = .track then phasesTrack (each (List.range 100) diodeExit s)
  else restoreBank true shed (restoreBank false shed (each (List.range 100) diodeExit s))

/-- The regulator at the compute point of the frame that begins at `f0` in a bin with row `r` (R131 to R145). -/
def regulate (f0 r : Nat) (s : Mach) : Mach :=
  let f1 := f0 + frameLen s
  let s := busValue (calSample (if s.cnv.fire.active then fireResume s else s))
  let s := { s with cnv := { s.cnv with refUv := nextRef s } }
  let e := tdiv s.cnv.refUv 1000 - s.cnv.busMv
  let reg := decide (s.cnv.st = .regulate)
  let shed := rowShed r && reg
  -- samples missing: every WORKING phase in DIODE until 8 samples have come (Table 5.8)
  let gone := decide (sget 0 s.cnv.missing (obj Obj.CNV_BUS_CH s) = 1)
  let s := phaseMoves shed (if gone then s else samplesBack s)
  let s := { s with cnv := { s.cnv with
      ffGrant := if reg then grantFf f0 f1 s else 0
      ffSched := if reg then rowFfW r else 0 } }
  let f : Int := shareOf r s
  -- load steps, then the law, then braking (R145, R133, R136)
  let old := s
  let rise := fun (d : Bool) =>
    reg && decide ((obj Obj.CNV_STEP_FF_W s : Int) ≤ ffShare d (shareIn d f) s - (bankReg d s).ff)
  let sf := rise false
  let sd := rise true
  let s := if sf then loadStep false s else s
  let s := if sd then loadStep true s else s
  let s := if gone then phasesMissing s else s
  let s := bankLaws f e s
  let i := fun (d : Bool) (s : Mach) => ampsFor d (bankReg d s).p (nWork d s) s
  let bf := reg && brakeTrigger false (bankReg false s).ff old
  let bd := reg && brakeTrigger true (bankReg true s).ff old
  let s := if bf then brakePhases false (i false s) s else s
  let s := if bd then brakePhases true (i true s) s else s
  let s := { s with cnv := { s.cnv with slopeUp := false, rising := 0 } }
  let cal := calActive r (bf || bd) s
  let g := if cal then prbsSign s.cnv.cal.frames.length else 0
  let s := { s with cnv := { s.cnv with cal := { s.cnv.cal with sign := g } } }
  let braking := reg && (List.range 100).any fun p => let x := phase p s
    decide (x.st = .diode) && !x.missing
  let s := frameLoud (cal || bf || bd || braking) s
  let df := bankDuties false (i false s) g s
  let dd := bankDuties true (i true s) g df.1
  let s := dd.1
  let s := dwellBank true shed sd (dwellBank false shed sf s)
  let s := creditBank true (frameLen s) (creditBank false (frameLen s) s)
  -- frames spent in DIODE
  let s := each (List.range 100) (fun p s => let x := phase p s
    if x.st = .diode then setPhase p { x with dFrames := x.dFrames + 1 } s else s) s
  let s := { s with cnv := { s.cnv with settled := if decide (s.cnv.st = CnvState.track) && decide (e.natAbs ≤ 2000)
      then s.cnv.settled + 1 else 0 } }
  let s := { s with cnv := { s.cnv with highs := df.2 ++ dd.2 } }
  if drives s && !s.ptn.gate then send (.duties (driven (df.2 ++ dd.2))) s else send .linesLow s

/-- The frame of a converter that is OFF or SAFE: no duty; the credits rise (R123, R126, R135). -/
def restFrame (s : Mach) : Mach :=
  let s := frameLoud false (creditBank true (frameLen s) (creditBank false (frameLen s) (busValue s)))
  if drives s then send .linesLow s else s

end Sys2Proof.Machine
end

