-- ==== Sys2Proof/Machine/Banks.lean ====
section
/-! DEFINITION. Storage banks and charge estimation (chapter 9): the OCV tables, the model and its samples, the charge
in force, rests, taper declarations, reports, detectors, live calibration and the lifetime record. -/

namespace Sys2Proof.Machine

/-! ### The OCV tables (R242) -/

/-- Window offset of a unit's table. -/
def ocvAt (u : Nat) : Nat := if u = 0 then 0 else 4096
/-- A header field of a unit's table: bytes `[o, o + n)`. -/
def ocvHead (u o n : Nat) (s : Mach) : Nat := beNat (domBytes 0x3070 0 (ocvAt u + o) n s)
/-- SERIES. -/
def ocvSeries (u : Nat) (s : Mach) : Nat := ocvHead u 2 2 s
/-- CAPACITY in nAs. -/
def ocvCap (u : Nat) (s : Mach) : Nat := ocvHead u 4 4 s * 1000000
/-- T_STEP, at least 1. -/
def ocvStep (u : Nat) (s : Mach) : Nat := max 1 (ocvHead u 9 1 s)
/-- Entry (j, k), µV for one series unit. -/
def ocvEntry (u j k : Nat) (s : Mach) : Nat := beNat (domBytes 0x3070 0 (ocvAt u + 32 + (65 * k + j) * 4) 4 s)

/-- Row j at temperature `th` (°C), clamped to the first and last columns: µV times T_STEP. -/
def ocvRow (u j : Nat) (th : Int) (s : Mach) : Int :=
  let st := ocvStep u s
  let x := (clampI (th - toSigned 8 (ocvHead u 8 1 s)) 0 (7 * st)).toNat
  let k := min (x / st) 6
  let r := x - k * st
  (ocvEntry u j k s : Int) * (st - r : Nat) + (ocvEntry u j (k + 1) s : Int) * r

/-- The segment of a charge (nAs), clamped: j and the rest in 64ths. -/
def ocvSeg (u : Nat) (q : Int) (s : Mach) : Nat × Nat :=
  let cap := ocvCap u s
  let x := (clampI q 0 cap).toNat * 64
  if cap = 0 then (0, 0) else let j := min (x / cap) 63
    (j, x - j * cap)

/-- R242: ocv_u in µV, linear in charge and temperature, times SERIES, truncated toward zero. -/
def ocv (u : Nat) (q : Int) (th : Int) (s : Mach) : Int :=
  let c := ocvSeg u q s
  let a := ocvRow u c.1 th s
  let b := ocvRow u (c.1 + 1) th s
  tdiv (ocvSeries u s * (a * ocvCap u s + (b - a) * c.2)) (ocvCap u s * ocvStep u s)

/-- R242: the piecewise-linear inverse in nAs, clamped to the table. -/
def ocvInv (u : Nat) (v : Int) (th : Int) (s : Mach) : Int :=
  let n : Int := ocvSeries u s
  let w := v * ocvStep u s
  let cap : Int := ocvCap u s
  let row := fun (j : Nat) => n * ocvRow u j th s
  if w ≤ row 0 then 0
  else match (List.range 64).find? fun j => decide (w < row (j + 1)) with
    | none => cap
    | some j => tdiv (j * cap + tdiv (cap * (w - row j)) (row (j + 1) - row j)) 64

/-- 128 × T_STEP × the integral of one series unit's OCV from charge 0 to `q` (µV · nAs), the end rows extended. -/
def ocvArea (u : Nat) (q : Int) (th : Int) (s : Mach) : Int :=
  let cap : Int := ocvCap u s
  let row := fun (j : Nat) => ocvRow u j th s
  if cap = 0 then 0
  else if q < 0 then q * row 0 * 128
  else
    let c := ocvSeg u q s
    let full := (List.range c.1).foldl (fun a j => a + (row j + row (j + 1)) * cap) 0
    let part := tdiv (c.2 * (2 * row c.1 * cap + (row (c.1 + 1) - row c.1) * c.2)) cap
    full + part + (if cap < q then (q - cap) * row 64 * 128 else 0)

/-! ### Units -/

/-- The bank of a unit: unit 0 is the fast bank. -/
def unitDeep (u : Nat) : Bool := decide (u ≠ 0)
/-- The units of a bank. -/
def bankUnits (deep : Bool) : List Nat := if deep then [1, 2, 3, 4] else [0]
/-- The low limit of a bank, µV (R237). -/
def bankLo (deep : Bool) (s : Mach) : Int := (if deep then obj Obj.BNK_DEEP_LO_MV s else obj Obj.BNK_FAST_LO_MV s) * 1000
/-- The upper limit of a bank, µV. -/
def bankHi (deep : Bool) (s : Mach) : Int := (if deep then obj Obj.BNK_DEEP_HI_MV s else obj Obj.BNK_FAST_HI_MV s) * 1000

/-- The temperature of a unit: commissioned, or the mean of the string's reported TEMP_MAX (R235). -/
def unitTemp (u : Nat) (s : Mach) : Int :=
  if u = 0 then objI Obj.EST_FAST_TEMP_C 8 s
  else
    let l := (srange s.bnk.monitors ((u - 1) * 20) (u * 20)).filter fun p => p.2.seen
    if l = [] then (unit u s).temp
    else tdiv (l.foldl (fun a p => a + toSigned 8 (p.2.frame / 2 ^ 56 % 256)) 0) l.length

/-- q_zero (R202). -/
def qZero (u : Nat) (s : Mach) : Int := ocvInv u (bankLo (unitDeep u) s) (unit u s).temp s
/-- q_full (R202). -/
def qFull (u : Nat) (s : Mach) : Int := ocvInv u (bankHi (unitDeep u) s) (unit u s).temp s
/-- R248: the margin M. -/
def marginM (u : Nat) (s : Mach) : Int := tdiv (obj Obj.EST_DISAGREE_PCT s * (qFull u s - qZero u s)) 10000

/-- R249: the voltage estimate is in force. -/
def voltageWins (u : Nat) (s : Mach) : Bool :=
  let x := unit u s
  x.pending && (decide (x.qc ≤ qZero u s ∧ qZero u s + marginM u s < x.qv)
    || decide (qFull u s ≤ x.qc ∧ x.qv < qFull u s - marginM u s))

/-- R244: the charge in force. -/
def chargeInForce (u : Nat) (s : Mach) : Int := if voltageWins u s then (unit u s).qv else (unit u s).qc
/-- The uncertainty in force. -/
def sigmaInForce (u : Nat) (s : Mach) : Nat := if voltageWins u s then (unit u s).sigmaR else (unit u s).sigma

/-- R245: e_x of a bank in J. -/
def bankEnergy (deep : Bool) (s : Mach) : Nat :=
  ((bankUnits deep).foldl (fun a u =>
    let th := (unit u s).temp
    a + tdiv (ocvSeries u s * (ocvArea u (chargeInForce u s) th s - ocvArea u (qZero u s) th s))
      (128 * ocvStep u s * 1000000000000000)) (0 : Int)).toNat

/-! ### The reported state of charge (R201 to R203, R246) -/

/-- A ratio in units of 0.01%, truncated and clamped; 0 where the divisor is not above 0. -/
def percent (a b : Int) : Int := if b ≤ 0 then 0 else clampI (tdiv (a * 10000) b) 0 10000

/-- R201, R202: the state of charge that the charge in force gives for a unit. -/
def socTarget (u : Nat) (s : Mach) : Int :=
  if u = 0 then
    let v := ocv 0 (chargeInForce 0 s) (unit 0 s).temp s
    let lo := bankLo false s
    let hi := bankHi false s
    percent (v * v - lo * lo) (hi * hi - lo * lo)
  else percent (chargeInForce u s - qZero u s) (qFull u s - qZero u s)

/-- `EST_DEEP_SOC` before its residual. -/
def deepTarget (s : Mach) : Int :=
  percent ((bankUnits true).foldl (fun a u => a + (chargeInForce u s - qZero u s)) 0)
    ((bankUnits true).foldl (fun a u => a + (qFull u s - qZero u s)) 0)

/-- The reported state of charge of a unit, at most 100% (R203, R246). -/
def socReport (u : Nat) (s : Mach) : Int := clampI (socTarget u s + (unit u s).j) 0 10000
/-- The reported state of charge of the deep bank, at most 100%. -/
def deepReport (s : Mach) : Int := clampI (deepTarget s + s.bnk.deepJ) 0 10000

/-- R246: a change that is not charge flow leaves every report where it was. -/
def keepReports (f : Mach → Mach) (s : Mach) : Mach :=
  let s' := f s
  let s' := each (List.range 5) (fun u t =>
    let x := unit u t
    let j := x.j + (socTarget u s - socTarget u t)
    if j = x.j then t else setUnit u { x with j := j, jAt := if x.j = 0 then t.now else x.jAt } t) s'
  let j := s'.bnk.deepJ + (deepTarget s - deepTarget s')
  if j = s'.bnk.deepJ then s'
  else { s' with bnk := { s'.bnk with
      deepJ := j
      deepJAt := if s'.bnk.deepJ = 0 then s'.now else s'.bnk.deepJAt } }

/-- One step of 0.01% toward zero. -/
def towardZero (j : Int) : Int := if 0 < j then j - 1 else if j < 0 then j + 1 else 0

/-- R246: every residual whose 0.6 s are over moves 0.01% toward zero. -/
def slewReports (s : Mach) : Mach :=
  let s := each (List.range 5) (fun u s =>
    let x := unit u s
    if x.j ≠ 0 ∧ x.jAt + 600000000 ≤ s.now then setUnit u { x with j := towardZero x.j, jAt := x.jAt + 600000000 } s
    else s) s
  if s.bnk.deepJ ≠ 0 ∧ s.bnk.deepJAt + 600000000 ≤ s.now then
    { s with bnk := { s.bnk with
        deepJ := towardZero s.bnk.deepJ
        deepJAt := s.bnk.deepJAt + 600000000 } }
  else s

/-! ### Samples (R241, R243, R244) -/

/-- exp(-dt/τ) in Q0.32, rounded to nearest, for `dt` in µs and `τ` in ms (at least 10): a Taylor sum of nine terms
over 2⁹⁶. -/
def decay (dt tau : Nat) : Nat :=
  let one : Int := 2 ^ 96
  let d : Int := tau * 1000
  let r := (List.range 9).foldl (fun (a : Int × Int) (k : Nat) =>
    let t := -(a.1 * dt) / (d * (k + 1))
    (t, a.2 + t)) (one, one)
  ((r.2 + 2 ^ 63) / 2 ^ 64).toNat

/-- Table 9.5: the interval of the next sample, µs. -/
def sampleDt (u : Nat) (i : Int) : Nat :=
  let k := if u = 0 then 4 else 1
  if 50000 * k ≤ i.natAbs then 10 else if 5000 * k ≤ i.natAbs then 100 else 1000

/-- R248: σ_r at a charge: the charge that moves the OCV by the table's uncertainty. -/
def restSigma (u : Nat) (q : Int) (s : Mach) : Nat :=
  let c := ocvSeg u q s
  let th := (unit u s).temp
  let d := (ocvRow u (c.1 + 1) th s - ocvRow u c.1 th s) * 64
  (tdiv (obj Obj.EST_OCV_SIGMA_UV s * ocvCap u s * ocvStep u s) (if d ≤ 0 then 1 else d)).toNat

/-- The estimation unit's bank channel. -/
def bankChan (deep : Bool) (s : Mach) : Nat :=
  oGet Obj.BNK_FAST_CH_TO_BNK_DEEP_CHECK_CH 0 (if deep then 2 else 0) s

/-- R236: a bank channel is failed: silent, or in disagreement with its check channel. -/
def bankFailed (deep : Bool) (s : Mach) : Bool :=
  decide (sget 0 s.cnv.missing (bankChan deep s) = 1) || decide (sget 0 s.cnv.disOn (if deep then 2 else 1) = 1)

/-- The growth of σ over one interval. -/
def sigmaGrowth (i : Int) (dt : Nat) (s : Mach) : Nat := i.natAbs * dt * obj Obj.EST_COUNT_ERR_PPM s / 1000000

/-- The SRAM part of a lifetime record follows one sample (R256). -/
def lifeSample (u : Nat) (v : Int) (s : Mach) : Mach :=
  let x := unit u s
  let r := sget {} s.bnk.sram u
  let l := (srange s.bnk.monitors ((u - 1) * 20) (u * 20)).filter fun p => p.2.seen
  let lo := if u = 0 then (tdiv v 8).toNat else l.foldl (fun a p => min a (p.2.frame / 2 ^ 96 % 65536 * 100)) 0xFFFFFFFF
  let hi := if u = 0 then (tdiv v 8).toNat else l.foldl (fun a p => max a (p.2.frame / 2 ^ 80 % 65536 * 100)) 0
  let q := x.i * x.dt
  let r := { r with
    tMin := min r.tMin x.temp
    tMax := max r.tMax x.temp
    vMin := min r.vMin lo
    vMax := max r.vMax hi
    iDis := max r.iDis x.i.toNat
    iChg := max r.iChg (-x.i).toNat
    qDis := r.qDis + q.toNat
    qChg := r.qChg + (-q).toNat }
  { s with bnk := { s.bnk with sram := sput {} s.bnk.sram u r } }

/-- R246: the report moves only by the charge flow where a sample changes the winner. -/
def keepWinner (u : Nat) (old : Bool) (s : Mach) : Mach :=
  if voltageWins u s = old then s
  else
    let x := unit u s
    keepReports (fun _ => s) (setUnit u { x with pending := false, qc := if old then x.qv else x.qc } s)

/-- R245: e_x is published at every sample; S follows it at the next compute point (R94). -/
def publishEnergy (s : Mach) : Mach :=
  { s with bnk := { s.bnk with e := (bankEnergy false s, bankEnergy true s) } }

/-- A run of a condition: when it began, while it holds. -/
def runOf (holds : Bool) (at_ : Option Nat) (now : Nat) : Option Nat :=
  if holds then some (at_.getD now) else none

/-- R244: the first sample after BOOT. -/
def firstSample (u : Nat) (v : Int) (s : Mach) : Mach :=
  let s := setUnit u { unit u s with temp := unitTemp u s } s
  let q := ocvInv u v (unit u s).temp s
  let sr := restSigma u q s
  setUnit u { unit u s with
    started := true
    qc := q
    qv := q
    sigma := 4 * sr
    sigmaR := sr
    v1 := 0
    v2 := 0
    i := 0
    dt := 1000
    lastAt := s.now
    restAt := opSeconds s } s

/-- R241: one sample of a unit at mean terminal voltage `v` (µV). -/
def modelSample (u : Nat) (v : Int) (s : Mach) : Mach :=
  let s := setUnit u { unit u s with temp := unitTemp u s } s
  let x := unit u s
  let o := ocv u x.qc x.temp s
  let i := tdiv ((o - x.v1 - x.v2 - v) * 1000) (max 1 (oGet Obj.EST_R0_UOHM u 0 s))
  let br := fun (vk : Int) (r tau : Nat) =>
    let a : Int := decay x.dt tau
    asr (vk * a + tdiv (r * i) 1000 * (2 ^ 32 - a)) 32
  let dq := -(i * x.dt)
  let g := sigmaGrowth i x.dt s
  let at_ := x.lastAt + x.dt * 1000
  let taper : Nat := if u = 0 then obj Obj.EST_TAPER_FAST_MA s else obj Obj.EST_TAPER_STRING_MA s
  let s := lifeSample u v (setUnit u { x with
    qc := x.qc + dq
    qv := x.qv + dq
    sigma := x.sigma + g
    sigmaR := x.sigmaR + g
    v1 := br x.v1 (oGet Obj.EST_R1_UOHM u 0 s) (oGet Obj.EST_TAU1_MS u 0 s)
    v2 := br x.v2 (oGet Obj.EST_R2_UOHM u 0 s) (oGet Obj.EST_TAU2_MS u 0 s)
    i := i
    sumT := x.sumT + x.dt
    sumV := x.sumV + v * x.dt
    sumO := x.sumO + o * x.dt
    sumQ := x.sumQ + x.qc * x.dt
    quietAt := runOf (decide (i.natAbs ≤ taper)) x.quietAt x.lastAt } s)
  setUnit u { unit u s with dt := sampleDt u i, lastAt := at_ } s

/-- A sample without a voltage: every state is held and the uncertainty grows (R236). -/
def heldSample (u : Nat) (s : Mach) : Mach :=
  let x := unit u s
  let g := sigmaGrowth x.i x.dt s
  setUnit u { x with
    sigma := x.sigma + g
    sigmaR := x.sigmaR + g
    lastAt := x.lastAt + x.dt * 1000
    quietAt := none
    fullAt := none
    emptyAt := none } s

/-- R236: BANK_FAST's conditions; the second is armed only in REGULATE. -/
def refreshBankFast (s : Mach) : Mach :=
  let low := decide (s.cnv.st = .regulate) && (unit 0 s).started &&
    decide (ocv 0 (chargeInForce 0 s) (unit 0 s).temp s < bankLo false s - obj Obj.EST_TAPER_FAST_MV s * 1000)
  setLine 13 (s.bnk.fastOver || low || decide (s.bnk.st = .failed)) 0x8000 0 s

/-- Every monitor of a string has reported and none is silent. -/
def stringReports (k : Nat) (s : Mach) : Bool :=
  (List.range 20).all fun m => let x := sget {} s.bnk.monitors (20 * k + m); x.seen && !x.silent

/-- Table 9.6: the full and empty conditions of a unit, but for the current. -/
def taperEnds (u : Nat) (s : Mach) : Bool × Bool :=
  if u = 0 then
    let v := bankMv false s * 1000
    let b : Int := obj Obj.EST_TAPER_FAST_MV s * 1000
    (decide (bankHi false s - b ≤ v), decide (v ≤ bankLo false s + b))
  else
    let l := srange s.bnk.monitors ((u - 1) * 20) (u * 20)
    let hi : Int := l.foldl (fun a p => max a (p.2.frame / 2 ^ 80 % 65536 * 100)) 0
    let lo : Int := l.foldl (fun a p => min a (p.2.frame / 2 ^ 96 % 65536 * 100)) 0xFFFFFFFF
    let b : Int := obj Obj.EST_TAPER_CELL_UV s
    let ok := stringReports (u - 1) s
    (ok && decide (tdiv (bankHi true s) 240 - b ≤ hi), ok && decide (lo ≤ tdiv (bankLo true s) 240 + b))

/-- R253: the runs of the taper conditions after a sample. -/
def taperRuns (u : Nat) (s : Mach) : Mach :=
  let x := unit u s
  let e := taperEnds u s
  let q := x.quietAt.isSome
  let s := setUnit u { x with
    fullAt := runOf (q && e.1) x.fullAt s.now
    emptyAt := runOf (q && e.2) x.emptyAt s.now } s
  let x := unit u s
  if x.fullAt.isNone && x.emptyAt.isNone then setUnit u { x with declared := false } s else s

/-- R391: the unit's control pair has failed and its tasks wait. -/
def unitSuspended (u : Nat) (s : Mach) : Bool := s.life.pairWait.any fun q => Config.pairOwns q.1 u

/-- R241, R244: a unit's interval ends; it takes the mean of the interval's sense samples. -/
def estimatorSample (u : Nat) (s : Mach) : Mach :=
  let x := unit u s
  let n := sget 0 s.bnk.winN u
  let v := tdiv (sget 0 s.bnk.winSum u * 1000) n
  let clear := fun (s : Mach) => { s with bnk := { s.bnk with
      winN := sput 0 s.bnk.winN u 0
      winSum := sput 0 s.bnk.winSum u 0 } }
  if s.mode = .boot then s
  else if !x.started then
    if n = 0 then s else publishEnergy (clear (firstSample u v s))
  else if s.now < x.lastAt + x.dt * 1000 then s
  else
    refreshBankFast <| publishEnergy <|
      if bankFailed (unitDeep u) s ∨ n = 0 ∨ unitSuspended u s then clear (heldSample u s)
      else taperRuns u (clear (keepWinner u (voltageWins u s) (modelSample u v s)))

/-! ### Rests (R247 to R253) -/

/-- Integer square root, the highest bit first. -/
def isqrtFrom (n : Nat) : Nat → Nat → Nat
  | 0, r => r
  | k + 1, r => let t := r + 2 ^ k; isqrtFrom n k (if t * t ≤ n then t else r)
/-- The integer square root of a number below 2^256. -/
def isqrt (n : Nat) : Nat := isqrtFrom n 128 0

/-- CALIBRATION_STARVED is asserted while starvation lasts (R153, R250). -/
def refreshStarved (s : Mach) : Mach := setLine 51 (s.bnk.calLate || decide (s.bnk.overdue ≠ 0)) 0 0 s

/-- R250: a rest of a unit is taken. -/
def restTaken (u : Nat) (s : Mach) : Mach :=
  let b := b2n (unitDeep u)
  let s := setUnit u { unit u s with restAt := opSeconds s } s
  refreshStarved { s with bnk := { s.bnk with
      reqBits := clrBit s.bnk.reqBits b
      overdue := clrBit s.bnk.overdue b } }

/-- R248: a rest hands over q_rest and q_ref. -/
def takeRest (u : Nat) (qRest qRef : Int) (s : Mach) : Mach :=
  let sr := restSigma u qRest s
  let d := qRest - qRef
  let x := unit u s
  let late := !x.pending && decide (marginM u s < d.natAbs)
  let s := keepReports (fun s =>
    let x := { unit u s with qv := (unit u s).qc + d, sigmaR := sr }
    if x.pending then setUnit u { x with qc := x.qc + d, sigma := sr, pending := false } s
    else if late then setUnit u { x with pending := true } s
    else
      let a : Int := x.sigma * x.sigma
      let b : Int := sr * sr
      if a + b = 0 then setUnit u x s
      else setUnit u { x with
        qc := x.qc + tdiv (a * d) (a + b)
        sigma := isqrt (a * b / (a + b)).toNat } s) s
  let s := restTaken u s
  if late then countEv 321 (pulse 15 (0x8000 + u) 0 s) else s

/-- The bank of a unit had SENSE_LINK at some time of the step in progress (R247). -/
def linkLost (deep : Bool) (s : Mach) : Bool := if deep then s.bnk.linkLost.2 else s.bnk.linkLost.1
/-- A bank with SENSE_LINK is noted for the step in progress. -/
def noteLink (s : Mach) : Mach :=
  { s with bnk := { s.bnk with
      linkLost := (s.bnk.linkLost.1 || bankFailed false s, s.bnk.linkLost.2 || bankFailed true s) } }
/-- The step that begins notes SENSE_LINK anew. -/
def noteLinkAnew (s : Mach) : Mach :=
  { s with bnk := { s.bnk with linkLost := (bankFailed false s, bankFailed true s) } }

/-- R252: the run of CAL_REST bins at the start of a bin whose row is `r`. -/
def restBin (r : Nat) (s : Mach) : Mach :=
  let kind := if rowShare r = 0 then some false else if rowShare r = 128 then some true else none
  if rowRest r then
    -- the frame in progress falls in a window that begins
    let begun := decide (s.cnv.frameAt < s.now * 8)
    let x := match s.bnk.rest with
      | none => { start := s.now, deep := kind, ok := begun || !s.cnv.loudPrev }
      | some x => if x.deep = kind then x else { x with deep := none }
    { s with bnk := { s.bnk with rest := some x } }
  else match s.bnk.rest with
    | none => s
    | some x =>
      let s := { s with bnk := { s.bnk with rest := none } }
      match x.deep with
      | none => s
      | some d =>
        let quiet := (bankUnits d).all fun u => match (unit u s).quietAt with
          | some t => decide (t + 1000000000 ≤ s.now)
          | none => false
        let still := !(s.cnv.loud && decide (s.cnv.frameAt < s.now * 8))
        if x.ok && still && decide (x.start + 2000000000 ≤ s.now) && quiet then
          let l := (if d then s.bnk.last.2 else s.bnk.last.1).filter fun p => decide (s.now ≤ p.1 + 1000000)
          let v := if l = [] then bankMv d s * 1000 else tdiv (l.foldl (fun a p => a + p.2 * 1000) 0) l.length
          incObj Obj.EST_RESTS_TAKEN (each (bankUnits d) (fun u s =>
            let y := unit u s
            takeRest u (ocvInv u (v + y.v1 + y.v2) y.temp s) y.qc s) s)
        else s

/-- R253: a unit declares full or empty. -/
def declare (u : Nat) (full : Bool) (s : Mach) : Mach :=
  let s := keepReports (fun s =>
    let q := if full then qFull u s else qZero u s
    let sr := restSigma u q s
    setUnit u { unit u s with
      qc := q
      qv := q
      sigma := sr
      sigmaR := sr
      pending := false
      lastFull := some full
      declared := true
      declAt := some s.now } s) s
  countEv 322 (restTaken u s)

/-- R253: the taper time of a unit is over. -/
def taperDue (u : Nat) (s : Mach) : Option Bool :=
  let t := obj Obj.EST_TAPER_MS s * 1000000
  let x := unit u s
  let past := fun (a : Option Nat) => match a with
    | some b => decide (b + t ≤ s.now)
    | none => false
  if x.declared then none
  else if past x.fullAt then some true
  else if past x.emptyAt then some false
  else none

/-- The step means of R247: terminal voltage, OCV and charge. -/
def stepMeans (x : Unit) : Int × Int × Int := (tdiv x.sumV x.sumT, tdiv x.sumO x.sumT, tdiv x.sumQ x.sumT)

/-- R247: the quasi-rest of a unit at a wrap; `periodic0` says that the ended step was LOCKED throughout without a
re-bin (R258). -/
def quasiRest (periodic0 : Bool) (u : Nat) (s : Mach) : Mach :=
  -- a declaration at this wrap applies, and the quasi-rest is skipped (R258)
  let s := match taperDue u s with
    | some full => declare u full s
    | none => s
  let x := unit u s
  let zero := fun (x : Unit) => { x with sumT := 0, sumV := 0, sumO := 0, sumQ := 0 }
  if x.sumT ≤ 0 then setUnit u { zero x with run := 0 } s
  else if x.declAt = some s.now then setUnit u { zero x with vPrev := (stepMeans x).1 } s
  else
    let m := stepMeans x
    let vm := m.1
    let per := periodic0 && !linkLost (unitDeep u) s
      && decide ((vm - x.vPrev).natAbs ≤ obj Obj.EST_QR_REPEAT_MV s * 1000)
    let run := if per then min (x.run + 1) 255 else 0
    let s := setUnit u { zero x with run := run, vPrev := vm } s
    if obj Obj.EST_QR_STEPS s ≤ run then
      let qm := m.2.2
      let curv := m.2.1 - ocv u qm x.temp s
      countEv 320 (takeRest u (ocvInv u (vm - curv) x.temp s) qm s)
    else s

/-- The operating time since a bank's last rest: the oldest among its units (R250). -/
def restAge (deep : Bool) (s : Mach) : Nat :=
  (bankUnits deep).foldl (fun a u => max a (opSeconds s - (unit u s).restAt)) 0

/-! ### Detectors and precharge (R236 to R240) -/

/-- A monitor's latest frame violates a cell limit or reports a fault. -/
def monitorBad (f : Nat) (s : Mach) : Bool :=
  decide (obj Obj.BNK_CELL_TRIP_HI_UV s < f / 2 ^ 80 % 65536 * 100)
    || decide (f / 2 ^ 96 % 65536 * 100 < obj Obj.BNK_CELL_TRIP_LO_UV s)
    || decide (objI Obj.BNK_CELL_TRIP_C 8 s < toSigned 8 (f / 2 ^ 56 % 256))
    || f.testBit 46 || f.testBit 45

/-- R236: BANK_DEEP's conditions. -/
def refreshBankDeep (src : Nat) (s : Mach) : Mach :=
  setLine 14 ((s.bnk.monitors.any fun p => p.2.seen && monitorBad p.2.frame s)
    || (s.bnk.sumBad.any fun p => decide (3 ≤ p.2)) || decide (s.bnk.allSilent ≠ 0)) src 0 s

/-- CAN_BMS is asserted while a monitor is silent or bus 1 is in error (R236, R265). -/
def refreshCanBms (src : Nat) (s : Mach) : Mach :=
  setLine 47 ((s.bnk.monitors.any fun p => p.2.silent) || s.grd.canErr.testBit 1) src 0 s

/-- R239: what precharge requires of the deep bank. -/
def deepReady (s : Mach) : Bool :=
  let v := bankMv true s * 1000
  decide (bankLo true s ≤ v ∧ v ≤ bankHi true s) && (List.range 4).all (fun k => stringReports k s)
    && !s.fc.status.testBit 14

/-- R238: in START and TRACK precharge completes, and the rectifier reference returns to the setpoint. -/
def prechargeCheck (s : Mach) : Mach :=
  if s.bnk.st = .precharge ∧ s.mode = .start ∧ s.cnv.st = .track
      ∧ (obj Obj.BNK_PRECHARGE_MV s : Int) ≤ bankMv false s ∧ deepReady s then
    { s with
      bnk := { s.bnk with st := .ready }
      grd := { s.grd with busRef := obj Obj.CNV_BUS_SET_MV s * 1000 } }
  else s

/-- R236: a round of a string's module sums is complete. -/
def sumRound (k : Nat) (s : Mach) : Mach :=
  if sget 0 s.bnk.roundSeen k ≠ 2 ^ 20 - 1 then s
  else
    let sum : Int := (srange s.bnk.monitors (20 * k) (20 * k + 20)).foldl (fun a p => a + (p.2.frame / 2 ^ 112 % 65536 : Nat)) 0
    let bad := decide (obj Obj.BNK_MON_SUM_TOL_MV s < (sum - bankMv true s).natAbs)
    { s with bnk := { s.bnk with
        roundSeen := sput 0 s.bnk.roundSeen k 0
        sumBad := sput 0 s.bnk.sumBad k (if bad then min 3 (sget 0 s.bnk.sumBad k + 1) else 0) } }

/-- R235, R236: a monitor frame. -/
def monitorFrame (k m : Nat) (f : Nat) (s : Mach) : Mach :=
  let i := 20 * k + m
  let x := sget {} s.bnk.monitors i
  if x.seen && decide (x.frame / 2 ^ 48 % 256 = f / 2 ^ 48 % 256) then s
  else
    let s := { s with bnk := { s.bnk with
        monitors := sput {} s.bnk.monitors i { seen := true, lastAt := s.now, frame := f, silent := false }
        roundSeen := smod 0 s.bnk.roundSeen k (fun b => setBit b m)
        allSilent := clrBit s.bnk.allSilent k } }
    let src := 0x9000 + k * 32 + m
    prechargeCheck (refreshCanBms src (refreshBankDeep src (sumRound k (countEv 324 s))))

/-- How long a monitor has been silent, ns. -/
def monitorAge (k m : Nat) (s : Mach) : Nat := s.now - max (sget {} s.bnk.monitors (20 * k + m)).lastAt s.gl.upAt

/-! ### Live calibration (R254) -/

/-- The fractions R254 forms, as numerator and divisor. -/
abbrev Frac := Int × Int

/-- A product of fractions. -/
def Frac.mul (a b : Frac) : Frac := (a.1 * b.1, a.2 * b.2)
/-- A sum of fractions. -/
def Frac.add (a b : Frac) : Frac := (a.1 * b.2 + b.1 * a.2, a.2 * b.2)
/-- A quotient of fractions. -/
def Frac.div (a b : Frac) : Frac := (a.1 * b.2, a.2 * b.1)
/-- A fraction truncated toward zero; a free value where the divisor is 0. -/
def Frac.trunc (a : Frac) (s : Mach) : Int := if a.2 = 0 then toSigned 64 (Config.free 64 s.free).toNat else tdiv a.1 a.2

/-- 1 / C_eff of a unit in 1/mF: the table slope and the branches (µΩ / ms = 1/mF). -/
def unitCinv (u : Nat) (s : Mach) : Frac :=
  let c := ocvSeg u (chargeInForce u s) s
  let th := (unit u s).temp
  let dv := ocvSeries u s * (ocvRow u (c.1 + 1) th s - ocvRow u c.1 th s) * 64
  let slope : Frac := (dv, ocvCap u s * ocvStep u s)
  let br := fun (r tau : Nat) => ((r, tau * 1000000) : Frac)
  (slope.add (br (oGet Obj.EST_R1_UOHM u 0 s) (oGet Obj.EST_TAU1_MS u 0 s))).add
    (br (oGet Obj.EST_R2_UOHM u 0 s) (oGet Obj.EST_TAU2_MS u 0 s))

/-- C_eff of a bank in mF: the sum over its units. -/
def bankC (deep : Bool) (s : Mach) : Frac :=
  (bankUnits deep).foldl (fun a u => a.add (Frac.div (1, 1) (unitCinv u s))) (0, 1)

/-- The parallel value of the strings' R0, µΩ. -/
def rPar (s : Mach) : Frac :=
  Frac.div (1, 1) ((bankUnits true).foldl (fun a u => a.add (1, (oGet Obj.EST_R0_UOHM u 0 s : Int))) (0, 1))

/-- R153, R254: a sequence of 127 frames on a card is complete: its sums are added to the card's. P is the running sum
of p less its mean over the sequence, in 127ths. -/
def sequenceDone (c : Nat) (s : Mach) : Mach :=
  let fr := s.cnv.cal.frames
  let ps := (fr.foldl (fun (a : Int × List Int) f => (a.1 + f.1, a.2 ++ [a.1 + f.1])) (0, [])).2
  let mean := ps.foldl (fun a x => a + x) 0
  let big := ps.map fun x => 127 * x - mean
  let z := sget (0, 0, 0, 0, 0) s.cnv.cal.sums c
  let t := (fr.zip big).foldl (fun (a : Int × Int × Int × Int × Int) q =>
    let f := q.1
    (a.1 + f.1 * f.2.1, a.2.1 + f.1 * f.1, a.2.2.1 + q.2 * f.2.1, a.2.2.2.1 + q.2 * q.2, a.2.2.2.2 + f.1 * f.2.2)) z
  incObj Obj.CNV_CAL_SEQUENCES { s with
    cnv := { s.cnv with cal := { s.cnv.cal with
      frames := []
      lastDone := s.now
      seqs := smod 0 s.cnv.cal.seqs c (fun n => n + 1)
      sums := sput (0, 0, 0, 0, 0) s.cnv.cal.sums c t } }
    bnk := { s.bnk with calLate := false } }

/-- R254: the estimate of a card: either its updates wait for the boundary, or it is discarded. -/
def calEstimateOf (c : Nat) (s : Mach) : Mach :=
  let z := sget (0, 0, 0, 0, 0) s.cnv.cal.sums c
  let d := (phase (4 * c) s).deep
  let x := b2n d
  let s := { s with cnv := { s.cnv with cal := { s.cnv.cal with
      seqs := sput 0 s.cnv.cal.seqs c 0
      sums := sput (0, 0, 0, 0, 0) s.cnv.cal.sums c (0, 0, 0, 0, 0) } } }
  -- A and B in µV, M in mA, I in µA: B is in 127ths over P, and mF × µV / (625 ps counts) gives µA × 1.6 × 10⁶
  let a : Frac := (z.1, z.2.1)
  let b : Frac := (z.2.2.1 * 127, z.2.2.2.1)
  let m : Frac := (z.2.2.2.2, z.2.1)
  let i : Frac := Frac.mul (-b.1, b.2) ((bankC d s).mul (1600000, (s.cnv.period : Int)))
  let v := bankMv d s
  let cmd : Frac := (obj Obj.CNV_CAL_AMPL_W s * 1000000000, v)
  let r := i.div cmd
  let r := r.1 * (if r.2 < 0 then -1 else 1)
  let rd := (i.div cmd).2.natAbs
  let ok := decide (0 < r) && decide (r ≤ 2 * rd ∧ (rd : Int) ≤ 2 * r)
  if !ok then incObj Obj.EST_CAL_DISCARDS s
  else
    let ia : Frac := i
    let gains := (cardPhases c).map fun p =>
      (CalTarget.gain p, Frac.trunc (Frac.mul ((phase p s).gain, 1) (ia.div (m.mul (1000, 1)))) s)
    -- -A / I in µΩ: µV / µA is Ω
    let rx : Frac := Frac.mul ((-a.1) * 1000000, a.2) (Frac.div (1, 1) ia)
    let r0s := (bankUnits d).map fun u =>
      (CalTarget.r0 u, if d then Frac.trunc (Frac.mul (oGet Obj.EST_R0_UOHM u 0 s, 1) (rx.div (rPar s))) s else rx.trunc s)
    let lp := (CalTarget.loop x, Frac.trunc (Frac.mul (oGet Obj.CNV_LOOP_RES_UOHM x 0 s, 1) (cmd.div ia)) s)
    countEv 323 (incObj Obj.EST_CAL_UPDATES { s with
      free := s.free + 1
      cnv := { s.cnv with cal := { s.cnv.cal with updates := s.cnv.cal.updates ++ gains ++ r0s ++ [lp] } } })

/-- R254: a value moves toward its target by at most `EST_CAL_STEP_PPM` of itself. -/
def limited (old new : Int) (s : Mach) : Int :=
  let d := tdiv (old * obj Obj.EST_CAL_STEP_PPM s) 1000000
  clampI new (old - d) (old + d)

/-- R254: the updates take effect at a step boundary. -/
def applyCal (s : Mach) : Mach :=
  let l := s.cnv.cal.updates
  let s := { s with cnv := { s.cnv with cal := { s.cnv.cal with updates := [] } } }
  each l (fun u s => match u.1 with
    | .gain p => let x := phase p s; setPhase p { x with gain := (limited x.gain u.2 s).toNat % 65536 } s
    | .r0 k => oSet Obj.EST_R0_UOHM k 0 ((limited (oGet Obj.EST_R0_UOHM k 0 s) u.2 s).toNat % 2 ^ 32) s
    | .loop x => oSet Obj.CNV_LOOP_RES_UOHM x 0 ((limited (oGet Obj.CNV_LOOP_RES_UOHM x 0 s) u.2 s).toNat % 2 ^ 32) s) s

/-! ### The lifetime record (R255, R256) -/

/-- The histogram bin of a reported state of charge. -/
def socBin (soc : Int) : Nat := min 19 (soc.toNat / 500)
/-- The histogram bin of a temperature. -/
def tempBin (t : Int) : Nat := min 15 ((t + 10).toNat / 5)

/-- One 60 s update of record `u`. -/
def lifeFold (u : Nat) (s : Mach) : Mach :=
  let a := sget {} s.bnk.sram u
  let r := sget {} s.bnk.life u
  let r := { r with
    tMin := min r.tMin a.tMin
    tMax := max r.tMax a.tMax
    vMin := min r.vMin a.vMin
    vMax := max r.vMax a.vMax
    iDis := max r.iDis a.iDis
    iChg := max r.iChg a.iChg
    qDis := r.qDis + a.qDis / 1000000000
    qChg := r.qChg + a.qChg / 1000000000
    soc := smod 0 r.soc (socBin (socReport u s)) (fun n => (n + 60) % 2 ^ 32)
    tmp := smod 0 r.tmp (tempBin (unit u s).temp) (fun n => (n + 60) % 2 ^ 32)
    upd := (r.upd + 1) % 2 ^ 32 }
  { s with bnk := { s.bnk with
      life := sput {} s.bnk.life u r
      lifeMir := sput {} s.bnk.lifeMir u r
      sram := sput {} s.bnk.sram u { qDis := a.qDis % 1000000000, qChg := a.qChg % 1000000000 } } }

/-- The 192 bytes of lifetime record `u`. -/
def lifeBytes (u : Nat) (s : Mach) : List Byte :=
  let r := sget {} s.bnk.life u
  let b := toBytes 1 u ++ [0] ++ toBytes 1 (ofSigned 8 r.tMin) ++ toBytes 1 (ofSigned 8 r.tMax) ++ toBytes 4 r.vMin
    ++ toBytes 4 r.vMax ++ toBytes 4 r.iDis ++ toBytes 4 r.iChg ++ toBytes 8 r.qDis ++ toBytes 8 r.qChg
    ++ (List.range 20).flatMap (fun n => toBytes 4 (sget 0 r.soc n)) ++ (List.range 16).flatMap (fun n => toBytes 4 (sget 0 r.tmp n))
    ++ toBytes 4 r.upd ++ List.replicate 6 0
  b ++ toBytes 2 (crc16 b)

/-! ### The commands -/

/-- ESTIMATOR_SAMPLE (R241). -/
def cmdEstimatorSample (u : Nat) (s : Mach) : Mach := estimatorSample u s

/-- TAPER_DECLARATION (R253). -/
def cmdTaperDeclaration (u : Nat) (s : Mach) : Mach :=
  match taperDue u s with
  | some full => declare u full s
  | none => s

/-- REST_REQUEST (R250). -/
def cmdRestRequest (deep : Bool) (s : Mach) : Mach :=
  let b := b2n deep
  if s.bnk.reqBits.testBit b ∨ restAge deep s < 86400 then s
  else { s with bnk := { s.bnk with
      reqBits := setBit s.bnk.reqBits b
      reqAt := sput 0 s.bnk.reqAt b (opSeconds s) } }

/-- REST_REQUEST_OVERDUE (R250). -/
def cmdRestRequestOverdue (deep : Bool) (s : Mach) : Mach :=
  let b := b2n deep
  if s.bnk.reqBits.testBit b ∧ sget 0 s.bnk.reqAt b + 86400 ≤ opSeconds s then
    refreshStarved { s with bnk := { s.bnk with overdue := setBit s.bnk.overdue b } }
  else s

/-- REPORT_SLEW (R246). -/
def cmdReportSlew (s : Mach) : Mach := slewReports s

/-- LIFETIME_UPDATE (R256). -/
def cmdLifetimeUpdate (s : Mach) : Mach :=
  if opSeconds s < s.bnk.lifeAt + 60 then s
  else each (List.range 5) lifeFold { s with bnk := { s.bnk with lifeAt := s.bnk.lifeAt + 60 } }

/-- MONITOR_FRAME (R235). -/
def cmdMonitorFrame (k m f : Nat) (s : Mach) : Mach := monitorFrame k m f s

/-- MONITOR_TIMEOUT (R236): one monitor has been silent for `BNK_MON_TIMEOUT_MS`. -/
def cmdMonitorTimeout (k m : Nat) (s : Mach) : Mach :=
  if monitorAge k m s < obj Obj.BNK_MON_TIMEOUT_MS s * 1000000 then s
  else refreshCanBms (0x9000 + k * 32 + m) { s with bnk := { s.bnk with
      monitors := smod {} s.bnk.monitors (20 * k + m) (fun x => { x with silent := true })
      units := smod {} s.bnk.units (k + 1) (fun x => { x with fullAt := none, emptyAt := none, declared := false }) } }

/-- STRING_TIMEOUT (R236): every monitor of a string has been silent for 1 s. -/
def cmdStringTimeout (k : Nat) (s : Mach) : Mach :=
  if (List.range 20).all fun m => decide (1000000000 ≤ monitorAge k m s) then
    refreshBankDeep (0x8001 + k) { s with bnk := { s.bnk with allSilent := setBit s.bnk.allSilent k } }
  else s

/-- CAL_OFFSET (R153): 256 samples of a phase are collected. -/
def cmdCalOffset (p : Nat) (s : Mach) : Mach :=
  let x := phase p s
  if x.offN < 256 then s else setPhase p { x with offs := -(tdiv x.offSum x.offN), offSum := 0, offN := 0 } s

/-- The next card under calibration: the next fitted card whose phases are WORKING, in ascending order (R153). -/
def nextCalCard (s : Mach) : Nat :=
  let c := s.cnv.cal.card
  (((List.range 25).map fun k => (c + 1 + k) % 25).find? fun k =>
    (card k s).fitted && decide ((phase (4 * k) s).st = .working)).getD c

/-- CAL_SEQUENCE_COMPLETE (R153). -/
def cmdCalSequenceComplete (c : Nat) (s : Mach) : Mach :=
  if c ≠ s.cnv.cal.card ∨ s.cnv.cal.frames.length < 127 then s
  else
    let s := refreshStarved (sequenceDone c s)
    { s with cnv := { s.cnv with cal := { s.cnv.cal with card := nextCalCard s } } }

/-- CAL_ESTIMATE (R254): only the ACTIVE or SOLO module forms estimates (R257). -/
def cmdCalEstimate (c : Nat) (s : Mach) : Mach :=
  if sget 0 s.cnv.cal.seqs c < obj Obj.EST_CAL_SEQ s ∨ ¬ drives s then s else calEstimateOf c s

/-- CALIBRATION_STARVED (R153): no sequence has completed for 24 h. -/
def cmdCalibrationStarved (s : Mach) : Mach :=
  if s.now < s.cnv.cal.lastDone + 86400 * 1000000000 then s
  else refreshStarved { s with bnk := { s.bnk with calLate := true } }

/-- PRECHARGE_TIMEOUT's condition (R238). -/
def prechargeLate (s : Mach) : Bool :=
  decide (s.mode = .start) && decide (s.bnk.st = .precharge ∨ s.fdr.seq = .rectOn)
    && decide (s.bnk.preAt + obj Obj.BNK_PRECHARGE_TIMEOUT_S s * 1000000000 ≤ s.now)

end Sys2Proof.Machine
end

