-- ==== Sys2Proof/Machine/Grid.lean ====
section
/-! DEFINITION. The grid side (chapter 10): rectifiers, the cap in force, the grid target and its command frames, feeds,
planned transfer, ride-through and the deficit check. Feed 0 is Feed 1 of the manual and feed 1 is its Feed 2. -/

namespace Sys2Proof.Machine

/-! ### Rectifiers and the cap in force (R265, R266) -/

/-- The rectifiers of a feed. -/
def feedRects (f : Nat) : List Nat := (List.range 12).map fun e => f * 12 + e
/-- `RECT_FITTED`. -/
def fitted (r : Nat) (s : Mach) : Bool := (obj Obj.RECT_FITTED s).testBit r
/-- A feed with no fitted rectifier is not monitored (R270). -/
def monitored (f : Nat) (s : Mach) : Bool := (feedRects f).any fun r => fitted r s
/-- The healthy rectifiers of a feed. -/
def healthyOf (f : Nat) (s : Mach) : List Nat := (feedRects f).filter fun r => fitted r s && (rect r s).healthy
/-- MODE_ECHO of a rectifier's last status frame. -/
def echoOf (r : Nat) (s : Mach) : Nat := (rect r s).frame / 2 ^ 62 % 4
/-- The healthy rectifiers of a feed that report CURRENT. -/
def currentOf (f : Nat) (s : Mach) : List Nat := (healthyOf f s).filter fun r => decide (echoOf r s = 3)
/-- A feed is selectable (R270). -/
def selectable (f : Nat) (s : Mach) : Bool :=
  monitored f s && (feed f s).present && decide (obj Obj.RECT_MIN_ON s ≤ (healthyOf f s).length)

/-- A transfer lasts, and its incoming feed conducts. -/
def overlap (s : Mach) : Bool := decide (s.grd.st = .transfer) && s.grd.tx.isSome

/-- n_h of R266. -/
def carrying (s : Mach) : Nat :=
  if rideThrough s then (match s.grd.incoming with | some f => (currentOf f s).length | none => 0)
  else
    (match s.grd.inService with | some f => (healthyOf f s).length | none => 0)
      + (if overlap s then (match s.grd.incoming with | some f => (healthyOf f s).length | none => 0) else 0)

/-- R266: the cap in force. -/
def capNow (s : Mach) : Nat :=
  min s.grd.capW (carrying s * obj Obj.RECT_RATED_W s * 1000000 / max 1 (obj Obj.RECT_EFF_PPM s))

/-- Out-of-period command frames are owed to every conducting feed (R262). -/
def oweFrames (s : Mach) : Mach :=
  let owe := fun (f : Option Nat) (s : Mach) => match f with
    | some f => setFeed f { feed f s with due := true } s
    | none => s
  owe s.grd.incoming (owe s.grd.inService s)

/-- The cap in force is taken into use: B follows, a fall hands over a fall task, and frames are owed (R112, R266,
R268); a STANDBY module takes it from the order (R299). -/
def recap (reason : Nat) (s : Mach) : Mach :=
  let c := capNow s
  if c = s.grd.capForce ∨ s.role = .standby then s
  else orderExt 3 (some c) <| oweFrames (withSupply reason (fun s => { s with grd := { s.grd with capForce := c } }) s)

/-- R270: FEED1 and FEED2 are asserted while their feeds are not selectable, from the end of BOOT; a selectable feed
that is not in service stands by. -/
def refreshFeed (f : Nat) (s : Mach) : Mach :=
  let s := setLine f (decide (s.mode ≠ .boot) && monitored f s && !selectable f s) 0 0 s
  if selectable f s && s.grd.inService.isSome && decide (s.grd.inService ≠ some f) && decide (s.grd.incoming ≠ some f)
    && decide ((feed f s).mode = 0) then feedMode f 1 s else s

/-- CAN_RECT is asserted while a fitted rectifier is silent or bus 0 is in error (R265). -/
def refreshCanRect (src : Nat) (s : Mach) : Mach :=
  setLine 46 ((List.range 24).any (fun r => fitted r s && (rect r s).silent) || s.grd.canErr.testBit 0) src 0 s

/-- A change of a rectifier's health: its commanded mode, the cap and the feeds follow. -/
def healthChanged (f : Nat) (s : Mach) : Mach :=
  refreshFeed f (recap 5 (feedMode f (feed f s).mode s))

/-- R265: a rectifier is unhealthy; `bad` says that only readmission makes it healthy again. -/
def rectDown (r : Nat) (bad : Bool) (s : Mach) : Mach :=
  let x := rect r s
  let s := setRect r { x with healthy := false, failed := x.failed || x.healthy || bad, goodAt := none, readmit := none } s
  if x.healthy then healthChanged (r / 12) s else s

/-- R265: a rectifier is healthy. -/
def rectUp (r : Nat) (s : Mach) : Mach :=
  healthChanged (r / 12) (setRect r { rect r s with healthy := true, failed := false, readmit := none } s)

/-- R271: the incoming feed of a transfer reports CURRENT. -/
def transferCheck (s : Mach) : Mach :=
  match s.grd.incoming with
  | none => s
  | some f =>
    let all := decide ((healthyOf f s) ≠ [] ∧ (currentOf f s).length = (healthyOf f s).length)
    if s.grd.st = .transfer ∧ s.grd.tx = none ∧ all then recap 5 { s with grd := { s.grd with tx := some s.now } }
    else if rideThrough s then recap 5 s
    else s

/-- R264, R265: a rectifier status frame; one that repeats the previous ALIVE does not count as a frame. -/
def rectStatus (r f : Nat) (s : Mach) : Mach :=
  let x := rect r s
  let rep := x.seen && decide (x.frame / 2 ^ 64 % 256 = f / 2 ^ 64 % 256)
  let s := setRect r { x with
    frame := f
    lastAt := if rep then x.lastAt else s.now
    seen := true
    silent := x.silent && rep } s
  if !fitted r s then s
  else
    let s := refreshCanRect (0x4000 + r) s
    let was := x.seen && x.frame.testBit 60
    if rep then rectDown r false s
    else if f.testBit 60 then
      let s := rectDown r true s
      if was then s else pulse 12 (0x4000 + r) (f / 2 ^ 52 % 256) s
    else if (rect r s).alarm then s
    else
      let x := rect r s
      -- a wrong MODE_ECHO 100 ms after a change of mode breaks the run of good conditions
      let echo := decide (echoOf r s = x.mode) || decide (s.now < x.modeAt + 100000000)
      let s := setRect r { x with goodAt := if echo then some (x.goodAt.getD s.now) else none } s
      let s := if x.healthy ∨ x.failed then s else rectUp r s
      transferCheck s

/-! ### The grid target and its frames (R16, R261, R262, R267) -/

/-- R261: the grid draw in W. -/
def gridDraw (s : Mach) : Nat :=
  (s.grd.feeds.1.amps + s.grd.feeds.2.amps) * s.cnv.busMv.toNat * 10 / max 1 (obj Obj.RECT_EFF_PPM s)

/-- The grid target before its rise limit (R16, R267, R286). -/
def targetNow (s : Mach) : Int :=
  if s.mode = .start then min (s.grd.capForce : Int) (aggMean 100000000 s)
  else max 0 (min (rowGridW (row s.trk.bin s) s) (s.grd.capForce : Int))

/-- R267: a rise of T is limited to `GRID_RISE_W_MS` × the time since the last frame; a fall applies in full. -/
def riseLimited (s : Mach) : Int :=
  let t := targetNow s
  let up := s.grd.tLast + tdiv (obj Obj.GRID_RISE_W_MS s * (s.now - s.grd.tAt)) 1000000
  if t ≤ s.grd.tLast then t else min t up

/-- R271: the part of the target that feed `f` carries now, for the target `t`. -/
def shareOfTarget (f : Nat) (t : Int) (s : Mach) : Int :=
  if s.grd.st = .transfer then
    match s.grd.tx with
    | none => if s.grd.incoming = some f then 0 else t
    | some tx =>
      let d := obj Obj.FEED_XFER_MS s * 1000000
      let up := tdiv (t * (min (s.now - tx) d)) d
      if s.grd.incoming = some f then up else t - up
  else if s.grd.inService = some f ∨ s.grd.incoming = some f then t else 0

/-- R267: LIMIT for a target over the healthy rectifiers of a feed; at a bus of 0 mV the limit is a free value. -/
def limitFor (f : Nat) (t : Int) (s : Mach) : Nat :=
  let n := (healthyOf f s).length
  let v := s.cnv.busMv
  if n = 0 then 0
  else if v ≤ 0 then (Config.free 16 s.free).toNat
  else min 0xFFFF (tdiv (t * obj Obj.RECT_EFF_PPM s * 100000) (1000000 * (v * n))).toNat

/-- The rectifier bus reference, which a ramp moves (Tables 10.13 and 10.14). -/
def busRefNow (s : Mach) : Nat :=
  match s.grd.rampAt with
  | none => s.grd.busRef
  | some t =>
    let d := obj Obj.RECT_BUS_RAMP_MS s * 1000000
    let e := min (s.now - t) d
    let stop := if s.grd.rampDown then 0 else obj Obj.CNV_BUS_SET_MV s * 1000
    ((s.grd.rampFrom : Int) + tdiv (((stop : Int) - s.grd.rampFrom) * e) d).toNat

/-- The bus reference follows its ramp. -/
def moveBusRef (s : Mach) : Mach := { s with grd := { s.grd with busRef := busRefNow s } }

/-- Table 10.2: a command frame to feed `f`: VOLTAGE entries are limited to the cap in force, CURRENT entries to the
feed's share of the target. -/
def commandFrame (f : Nat) (t : Int) (s : Mach) : Nat :=
  let entry := fun (e : Nat) => (rect (f * 12 + e) s).mode
  let volts := limitFor f s.grd.capForce s
  let amps := limitFor f (shareOfTarget f t s) s
  let lim := fun (e : Nat) => if entry e = 2 then volts else if entry e = 3 then amps else 0
  let ref := if s.cnv.st = .regulate then obj Obj.CNV_BUS_SET_MV s else s.grd.busRef / 1000
  ((feed f s).seq % 256) <<< 248 ||| (ref % 2 ^ 32) <<< 216
    ||| (List.range 12).foldl (fun a e => a ||| entry e <<< (214 - 2 * e) ||| lim e <<< (176 - 16 * e)) 0

/-- R262: when a frame to feed `f` is due. -/
def frameDue (f : Nat) (s : Mach) : Bool :=
  let x := feed f s
  let period := if s.grd.inService = some f ∨ s.grd.incoming = some f then 500000 else 10000000
  x.due || decide (x.lastCmd + period ≤ s.now)

/-- RECT_COMMAND_FRAME (R262, R267): after the STANDBY frame that ends a shut-down, the feed is commanded OFF. -/
def cmdRectCommandFrame (f : Nat) (s : Mach) : Mach :=
  if !frameDue f s || decide (s.mode = .boot) then s
  else
    let s := moveBusRef s
    let conducting := decide (s.grd.inService = some f ∨ s.grd.incoming = some f)
    let t := if conducting then riseLimited s else s.grd.tLast
    let w := commandFrame f t s
    let v0 := decide (s.cnv.busMv ≤ 0)
    let s := if outputs s then countEv 387 (send (.rect f w) s) else s
    let s := { s with free := if v0 then s.free + 1 else s.free }
    let s := if conducting then
        setObj Obj.GRID_TARGET_W (t.toNat % 2 ^ 32) { s with grd := { s.grd with tLast := t, tAt := s.now } }
      else s
    let x := feed f s
    let s := setFeed f { x with seq := (x.seq + 1) % 256, lastCmd := s.now, due := false } s
    if s.fdr.seq = .stopOff ∧ x.mode = 1 ∧ s.grd.inService = some f then
      let s := feedMode f 0 s
      { s with
        grd := { s.grd with inService := none, st := .none }
        fdr := { s.fdr with seq := .idle } }
    else s

/-- RECT_STATUS_FRAME (R264). -/
def cmdRectStatusFrame (r f : Nat) (s : Mach) : Mach := rectStatus r f s

/-- RECT_TIMEOUT (R265): the last status frame is more than 30 ms old. -/
def cmdRectTimeout (r : Nat) (s : Mach) : Mach :=
  let x := rect r s
  if s.now ≤ max x.lastAt s.gl.upAt + 30000000 ∨ ¬ fitted r s then s
  else refreshCanRect (0x4000 + r) (rectDown r false (setRect r { x with silent := true } s))

/-- RECT_MODE_ECHO_CHECK (R265): 100 ms after a change of mode. -/
def cmdRectModeEchoCheck (r : Nat) (s : Mach) : Mach :=
  let x := rect r s
  if x.echoed ∨ s.now < x.modeAt + 100000000 ∨ ¬ fitted r s then s
  else
    let s := setRect r { x with echoed := true } s
    if echoOf r s = x.mode then s else pulse 12 (0x4000 + r) 0 (rectDown r true s)

/-- R272: three fitted rectifiers' alarm lines of a feed went low within 100 µs, since the last loss. -/
def alarmLoss (f : Nat) (s : Mach) : Bool :=
  let l := (feedRects f).filter fun r => fitted r s && (rect r s).alarm && decide ((feed f s).lostAt < (rect r s).alarmAt)
  l.any fun r => decide (3 ≤ (l.filter fun q => decide ((rect r s).alarmAt ≤ (rect q s).alarmAt
    ∧ (rect q s).alarmAt ≤ (rect r s).alarmAt + 100000)).length)

/-- RECT_ALARM (R265): a RECT_ALM_N line takes a level. -/
def cmdRectAlarm (r : Nat) (low : Bool) (s : Mach) : Mach :=
  let x := rect r s
  if !low then setRect r { x with alarm := false } s
  else if x.alarm then s
  else
    let s := setRect r { x with alarm := true, alarmAt := s.now } s
    if fitted r s then pulse 12 (0x4000 + r) 0 (rectDown r true s) else s

/-- RECT_READMIT (R265): a readmission test starts for each named, fitted rectifier that is not healthy. -/
def rectReadmitWrite (v : Nat) (s : Mach) : Mach :=
  each (bitsBelow v 24) (fun r s =>
    let x := rect r s
    if fitted r s && !x.healthy then setRect r { x with readmit := some s.now } s else s) s

/-- RECT_READMIT_COMPLETE (R265): the conditions have been met for 1 s. -/
def cmdRectReadmitComplete (r : Nat) (s : Mach) : Mach :=
  let x := rect r s
  match x.readmit, x.goodAt with
  | some t, some g =>
    if max t g + 1000000000 ≤ s.now ∧ s.now ≤ x.lastAt + 30000000 ∧ echoOf r s = x.mode ∧ ¬ x.alarm then rectUp r s
    else s
  | _, _ => s

/-! ### Feeds (R270 to R275) -/

/-- FEED_PRESENT (R270). -/
def cmdFeedPresent (f : Nat) (s : Mach) : Mach :=
  let x := feed f s
  let t := obj Obj.FEED_RETURN_MS s * 1000000
  match x.aboveAt with
  | some a =>
    if x.present ∨ s.now < a + t ∨ (x.lost ∧ s.now < x.lostAt + t) then s
    else refreshFeed f (setFeed f { x with present := true, lost := false } s)
  | none => s

/-- R73, R273: BRAKE with a reason to every enabled tray. -/
def brakeAll (reason : Nat) (s : Mach) : Mach :=
  each (bitsBelow (obj Obj.TKT_TRAY_ENABLE s) 64) (fun t s => brake t reason s) s

/-- R273, R274: ride-through at the loss of the feed in service; an incoming feed of a transfer keeps its commands. -/
def enterRideThrough (lost : Nat) (s : Mach) : Mach :=
  let s := incObj Obj.RT_EVENTS (countEv 388 s)
  let keep := decide (s.grd.st = .transfer)
  let other := 1 - lost
  let go := !keep && decide (obj Obj.FEED_AUTO_TRANSFER s = 1) && selectable other s
  let inc := if keep then s.grd.incoming else if go then some other else none
  let s := { s with grd := { s.grd with
      st := .rideThrough
      inService := none
      incoming := inc
      tx := none
      -- an incoming feed that conducts keeps its part of the target (R291)
      tLast := if keep then (match inc with | some f => shareOfTarget f s.grd.tLast s | none => 0) else 0
      tAt := s.now
      rtShort := false } }
  let s := if go then feedMode other 3 s else s
  recap 6 (brakeAll 6 (orderExt 5 none s))

/-- FEED_LOSS (R272, R273, R291). -/
def cmdFeedLoss (f : Nat) (s : Mach) : Mach :=
  let x := feed f s
  let byEnv := match x.belowAt with
    | some b => decide (b + obj Obj.FEED_LOSS_US s * 1000 ≤ s.now)
    | none => false
  if x.lost ∨ ¬ monitored f s ∨ ¬ (byEnv || alarmLoss f s) then s
  else
    let s := setFeed f { x with present := false, lost := true, lostAt := s.now } s
    let s := oAdd Obj.FEED1_LOSSES_FEED2_LOSSES 0 f 1 s
    let s := feedMode f 1 s
    let s :=
      if s.grd.inService = some f then
        if (s.mode = .run ∨ s.mode = .drain) ∧ s.role ≠ .standby then enterRideThrough f s else s
      else if s.grd.incoming = some f then
        let st := if rideThrough s then FeedState.rideThrough
          else match s.grd.inService with
            | some 0 => .feed1
            | some _ => .feed2
            | none => .none
        recap 5 { s with grd := { s.grd with st := st, incoming := none, tx := none } }
      else s
    refreshFeed f s

/-- FEED_STATE for a feed in service. -/
def feedStateOf (f : Nat) : FeedState := if f = 0 then .feed1 else .feed2

/-- R271: a planned transfer starts. -/
def startTransfer (f : Nat) (s : Mach) : Mach :=
  feedMode f 3 { s with grd := { s.grd with
      st := .transfer
      incoming := some f
      xferAt := s.now
      tx := none } }

/-- TRANSFER_TIMEOUT (R271). -/
def cmdTransferTimeout (s : Mach) : Mach :=
  match s.grd.st, s.grd.tx, s.grd.incoming, s.grd.inService with
  | .transfer, none, some f, some g =>
    if s.now < s.grd.xferAt + 100000000 then s
    else log 0x0501 0 (f + 1) (feedMode f 1 { s with grd := { s.grd with st := feedStateOf g, incoming := none } })
  | _, _, _, _ => s

/-- TRANSFER_RAMP_END (R271): the outgoing feed goes to STANDBY. -/
def cmdTransferRampEnd (s : Mach) : Mach :=
  match s.grd.st, s.grd.tx, s.grd.incoming, s.grd.inService with
  | .transfer, some t, some f, some g =>
    if s.now < t + obj Obj.FEED_XFER_MS s * 1000000 then s
    else
      let s := { s with grd := { s.grd with st := feedStateOf f, inService := some f, incoming := none, tx := none } }
      countEv 389 (recap 5 (feedMode g 1 s))
  | _, _, _, _ => s

/-- R274: at a step boundary ride-through ends once the incoming feed carries the target. -/
def rideThroughEnd (s : Mach) : Mach :=
  match s.grd.st, s.grd.incoming with
  | .rideThrough, some f =>
    if (healthyOf f s) ≠ [] ∧ (currentOf f s).length = (healthyOf f s).length then
      recap 5 { s with grd := { s.grd with
          st := feedStateOf f
          inService := some f
          incoming := none
          capW := obj Obj.GRID_CAP_W s } }
    else s
  | _, _ => s

/-- R266, R291: a written `GRID_CAP_W` is taken into use, but not during ride-through. -/
def takeCap (s : Mach) : Mach :=
  if rideThrough s then s else recap 5 { s with grd := { s.grd with capW := obj Obj.GRID_CAP_W s } }

/-- R275: the endurance in seconds; a free value where the divisor is 0. -/
def endurance (s : Mach) : Nat :=
  let d := if rideThrough s then aggMean 100000000 s else floorSum s
  if d = 0 then (Config.free 32 s.free).toNat else min 0xFFFFFFFF (s.bnk.e.2 / d)

/-! ### The deficit check (R269) -/

/-- A tray's power over the last 100 µs. -/
def trayPower (t : Nat) (s : Mach) : Nat :=
  let l := (feeder t s).hist.filter fun p => decide (s.now ≤ p.1 + 100000)
  if l = [] then feederPower t s else (l.foldl (fun a p => a + p.2) 0) / l.length

/-- What fall tasks waiting for the revocation unit will take (R269). -/
def fallsTake (s : Mach) : Nat :=
  let l := candidates (fun _ y => inForce s.trk.bin s.trk.n y) s
  let need : Int := s.arb.falls.foldl (fun a t => a + t.size) 0
  (takeUntil need l).1.foldl (fun a q => a + q.2.dp) 0

/-- R269: the deficit in W. -/
def deficit (s : Mach) : Int :=
  let cap : Int := s.grd.capForce * obj Obj.RECT_EFF_PPM s / 1000000
  let g : Int := (committed s.trk.bin s : Int) - fallsTake s
  let conv := fun (d : Bool) => (countedPhases d s * phaseLimit d s : Int)
  let gap := (aggLast s : Int) - g - cap
  max 0 (max (gap - (conv false + conv true))
    (gap - tdiv ((s.bnk.e.1 + s.bnk.e.2 : Nat) * 1000) (obj Obj.GRID_FOLLOW_MS s)))

/-- The trays of the deficit's BRAKE: in descending order of power until their power less their floors reaches it. -/
def deficitTrays (need : Int) : List (Nat × Nat × Nat) → List Nat
  | [] => []
  | q :: r => if need ≤ 0 then [] else q.1 :: deficitTrays (need - ((q.2.1 : Int) - q.2.2)) r

/-- R269: the check at a compute point. -/
def deficitCheck (s : Mach) : Mach :=
  if s.cnv.st ≠ .regulate ∨ rideThrough s ∨ s.now < s.grd.checkAt then s
  else
    let d := deficit s
    let s := setObj Obj.GRID_DEFICIT_W (ofSigned 32 d) s
    if d ≤ 0 then s
    else
      let l := ((List.range 64).filter fun t => !inHold t s && decide (keyValid t s ≠ 0)).map fun t =>
        (t, trayPower t s, trayFloor t s)
      let l := sortBy (fun (a b : Nat × Nat × Nat) => decide (b.2.1 ≤ a.2.1)) l
      let s := each (deficitTrays d l) (fun t s => brake t 5 s) s
      pulse 19 0 0 { s with grd := { s.grd with checkAt := s.now + obj Obj.TKT_BRAKE_CHECK_US s * 1000 } }

/-! ### CAN FD buses -/

/-- CAN_BUS_ERROR (R265, R236). -/
def cmdCanBusError (bus : Nat) (s : Mach) : Mach :=
  let s := { s with grd := { s.grd with canErr := setBit s.grd.canErr bus } }
  if bus = 0 then refreshCanRect 0 s else refreshCanBms 0 s

/-- CAN_BUS_RECOVERY. -/
def cmdCanBusRecovery (bus : Nat) (s : Mach) : Mach :=
  let s := { s with grd := { s.grd with canErr := clrBit s.grd.canErr bus } }
  if bus = 0 then refreshCanRect 0 s else refreshCanBms 0 s

end Sys2Proof.Machine
end

