-- ==== Sys2Proof/Machine/Feeders.lean ====
section
/-! DEFINITION. Tray feeders, the consist and the start and stop sequences (chapter 10, R276 to R291; R21, R238). -/

namespace Sys2Proof.Machine

/-! ### The consist (R282 to R284) -/

/-- A feeder's link is good and has been for 100 ms (R279). -/
def linkGood (t : Nat) (s : Mach) : Bool :=
  let f := feeder t s
  !f.linkBad && !f.slotBad && decide (f.goodAt + 100000000 ≤ s.now ∨ f.goodAt = 0)

/-- FEEDER_SIDEBAND is asserted while any of its conditions holds (R279). -/
def refreshSideband (src : Nat) (s : Mach) : Mach :=
  setLine 50 (s.fdr.feeders.any fun p => p.2.linkBad || p.2.slotBad || p.2.readBad) src 0 s

/-- CONSIST_MISMATCH: a MISMATCH or MISSING of a planned tray, or a seated unplanned tray (R283, R290). -/
def mismatchNow (s : Mach) : Bool :=
  (List.range 64).any fun t =>
    let e := cst t s
    if cstPlanned e then decide (cstState e = 2 ∨ cstState e = 3) else decide (cstState e = 2) && (feeder t s).seated
/-- The CONSIST_MISMATCH line follows its conditions. -/
def refreshMismatch (src : Nat) (s : Mach) : Mach := setLine 10 (mismatchNow s) src 0 s

/-- R283: what a record read says of an entry: 1 MATCHED or 2 MISMATCH. -/
def matchOf (e rec : Nat) : Nat :=
  let f := fun (hi lo x : Nat) => x / 2 ^ lo % 2 ^ (hi - lo + 1)
  if cstPlanned e && decide (f 247 240 e = f 247 240 rec) && decide (f 239 224 e = f 239 224 rec)
    && decide (f 159 96 e = f 159 96 rec)
    && (decide (f 223 160 e = 0) || decide (f 223 160 e = f 223 160 rec)) then 1 else 2

/-- The STATE of tray `t`'s entry set; the signature entries of a MISSING tray hold NaN (R53). -/
def setCstState (t x : Nat) (s : Mach) : Mach :=
  let s := refreshMismatch (0x3000 + t) (setCst t (cstWithState (cst t s) x) s)
  if x = 3 then { s with sig := { s.sig with tab := sclear s.sig.tab (sigKey t 0) (sigKey (t + 1) 0) } } else s

/-- R284: the feeder may close: MATCHED, or under OVERRIDE with the tray seated (R291); after an overcurrent trip only once
a close request has come (R280). -/
def mayClose (t : Nat) (s : Mach) : Bool :=
  let e := cst t s
  cstPlanned e && (decide (cstState e = 1) || (cstOver e && (feeder t s).seated)) && !(feeder t s).ocHold

/-- A record's CHECK and FORMAT are good (R281). -/
def recordGood (w : Nat) : Bool :=
  decide (w / 2 ^ 252 = 1) && decide (w % 65536 = crc16 ((toBytes 32 w).take 30))

/-- An identity read of tray `t` starts (R281): only the ACTIVE, SOLO or discovering module drives the sideband. -/
def startRead (t : Nat) (s : Mach) : Mach :=
  let s := setFeeder t { feeder t s with reading := true, tries := 0 } s
  if drives s || decide (s.role = .none) then send (.identRead t) s else s

/-- R283: verification reads every planned tray and every seated unplanned position. -/
def startVerify (s : Mach) : Mach :=
  each ((List.range 64).filter fun t => cstPlanned (cst t s) || (feeder t s).seated) startRead s

/-! ### Commands to feeders (R276, R285) -/

/-- The feeder commanded OPEN over a ramp. -/
def openFeeder (t ramp : Nat) (s : Mach) : Mach :=
  setFeeder t { feeder t s with cmd := 0, ramp := ramp, wantClose := false, deadline := none, openAt := none } s

/-- A feeder that is to close and has not (its place in the inrush budget, R285). -/
def closing (f : Feeder) : Bool := decide (f.cmd = 1) && decide (f.st ≠ .closed) && f.deadline.isSome
/-- Feeders RAMPING toward CLOSED. -/
def rampingCount (s : Mach) : Nat := (s.fdr.feeders.filter fun p => closing p.2).length
/-- R285: the inrush budget has room. -/
def inrushRoom (s : Mach) : Bool := decide (rampingCount s < min 4 (obj Obj.FDR_MAX_RAMPING s))

/-- ON_DELAY_MS of an entry. -/
def cstOnDelay (e : Nat) : Nat := e / 2 ^ 82 % 2 ^ 14
/-- ON_RAMP_MS. -/
def cstOnRamp (e : Nat) : Nat := e / 2 ^ 73 % 2 ^ 9
/-- OFF_DELAY_MS. -/
def cstOffDelay (e : Nat) : Nat := e / 2 ^ 59 % 2 ^ 14
/-- OFF_RAMP_MS. -/
def cstOffRamp (e : Nat) : Nat := e / 2 ^ 50 % 2 ^ 9

/-- A close of tray `t` is asked for, from `at_` on. -/
def wantClose (t at_ : Nat) (s : Mach) : Mach :=
  let e := cst t s
  let ramp := if cstPriv e then cstOnRamp e else obj Obj.FDR_ORD_ON_RAMP_MS s
  setFeeder t { feeder t s with wantClose := true, closeAt := at_, ramp := ramp } s

/-- Table 10.8: the downlink frame of feeder `t`. -/
def feederFrame (t : Nat) (s : Mach) : Nat :=
  let f := feeder t s
  let w := 1 <<< 60 ||| b2n s.slotB <<< 59 ||| b2n (outputs s) <<< 58 ||| f.cmd <<< 56 ||| (f.ramp % 512) <<< 47
    ||| min 50 (obj Obj.FDR_INRUSH_A s) <<< 41 ||| (s.fdr.downNo % 256) <<< 33
  w ||| crc16 ((toBytes 8 w).take 6)

/-! ### The sequences (Tables 10.13 and 10.14) -/

/-- R238: a start that is given up ends its precharge. -/
def prechargeEnd (s : Mach) : Mach :=
  if s.bnk.st = .precharge then
    { s with
      bnk := { s.bnk with st := .off }
      grd := { s.grd with busRef := obj Obj.CNV_BUS_SET_MV s * 1000 } }
  else s

/-- The shut-down sequence starts (Table 10.14); leaving TRIP, the SAFE converter is OFF. -/
def enterStop (s : Mach) : Mach :=
  let s := prechargeEnd (setMode .stop (arbiterClose s))
  let s := if s.cnv.st = .safe then { s with cnv := { s.cnv with st := .off } } else s
  let s := each (List.range 64) (fun t s =>
    let f := feeder t s
    setFeeder t { f with wantClose := false, deadline := none, openAt := none, reading := false } s) s
  { s with
    grd := { s.grd with st := match s.grd.inService with
      | some 0 => .feed1
      | some _ => .feed2
      | none => .none }
    fdr := { s.fdr with seq := .stopOrdinary, stopAt := s.now, seqAt := s.now } }

/-- The trays whose feeder still follows the module: commanded CLOSE or reporting CLOSED or RAMPING. -/
def liveTrays (priv : Bool) (s : Mach) : List Nat :=
  (List.range 64).filter fun t =>
    let f := feeder t s
    decide (cstPriv (cst t s) = priv) && (decide (f.st = .closed ∨ f.st = .ramping) || decide (f.cmd = 1))

/-- Every feeder of a kind reports OPEN or TRIPPED. -/
def allOpen (priv : Bool) (s : Mach) : Bool := decide (liveTrays priv s = [])

/-- R270: feed selection in START, and the rectifiers of the feed in service to VOLTAGE at the present bus; with neither
feed selectable START aborts, and FEED1 and FEED2 are asserted as R270 states. -/
def selectFeed (s : Mach) : Mach :=
  let p := obj Obj.FEED_PREFERRED s - 1
  let pick := if selectable p s then some p else if selectable (1 - p) s then some (1 - p) else none
  match pick with
  | none => enterStop s
  | some f =>
    let s := { s with
      grd := { s.grd with
        st := feedStateOf f
        inService := some f
        incoming := none
        tx := none
        busRef := s.cnv.busMv.toNat * 1000
        rampAt := none
        rampDown := false }
      bnk := { s.bnk with preAt := s.now }
      fdr := { s.fdr with seq := .rectOn, seqAt := s.now } }
    refreshFeed (1 - f) (recap 5 (feedMode f 2 s))

/-- The start sequence moves on where its present place is complete: verification, then feed selection; the privileged
feeders, then the ordinary ones. The stop sequence moves on once every ordinary feeder is open. -/
def seqAdvance (s : Mach) : Mach :=
  match s.fdr.seq with
  | .verify => if s.fdr.feeders.any (fun p => p.2.reading) then s else selectFeed s
  | .privileged =>
    let left := (List.range 64).any fun t =>
      let f := feeder t s
      cstPriv (cst t s) && mayClose t s && (closing f || f.wantClose ||
        decide (f.cmd = 0 ∧ f.st = .opened ∧ ¬ f.used))
    if left then s
    else
      let s := { s with fdr := { s.fdr with seq := .ordinary, seqAt := s.now } }
      each ((List.range 64).filter fun t => cstPlanned (cst t s) && !cstPriv (cst t s)) (fun t s => wantClose t s.now s) s
  | .stopOrdinary =>
    if allOpen false s then { s with fdr := { s.fdr with seq := .stopPrivileged, seqAt := s.now } } else s
  | _ => s

/-- START: partner discovery and role first (Table 10.13, R294). -/
def enterStart (s : Mach) : Mach :=
  let s := setMode .start s
  let s := bankFastDisarm { s with bnk := { s.bnk with st := if s.bnk.st = .failed then .off else s.bnk.st } }
  { s with
    grd := { s.grd with capW := obj Obj.GRID_CAP_W s, tLast := 0, tAt := s.now }
    fdr := { s.fdr with seq := .discovery, seqAt := s.now } }

/-- Partner discovery begins: no IDENT has been counted yet (R294). -/
def startDiscovery (s : Mach) : Mach :=
  { s with ptn := { s.ptn with ident := none, discAt := s.now, holdAt := none } }

/-- Partner discovery is over: consist verification starts. -/
def enterVerify (s : Mach) : Mach := seqAdvance (startVerify { s with fdr := { s.fdr with seq := .verify, seqAt := s.now } })

/-- R21: a stop request; the report says whether the state takes it. -/
def stopRequested (s : Mach) : Mach × Bool :=
  match s.mode with
  | .run => (setMode .drain s, true)
  | .start => (enterStop s, true)
  | .trip => if c3Set s then (s, false) else (enterStop s, true)
  | _ => (s, false)

/-- R275: endurance in ride-through has fallen to `RT_STOP_S`: the module acts on a stop request. -/
def rtStopCheck (s : Mach) : Mach :=
  if rideThrough s && !s.grd.rtShort && decide (s.mode = .run) && decide (endurance s ≤ obj Obj.RT_STOP_S s) then
    (stopRequested { s with grd := { s.grd with rtShort := true } }).1
  else s

/-- BUS_RAMP_START (R286, R240): the rectifiers conduct in VOLTAGE mode and the fast bank is high enough. -/
def cmdBusRampStart (s : Mach) : Mach :=
  match s.fdr.seq, s.grd.inService with
  | .rectOn, some f =>
    let ok := decide ((healthyOf f s) ≠ []) && (healthyOf f s).all (fun r => decide (echoOf r s = 2))
      && decide ((obj Obj.BNK_FAST_MIN_MV s : Int) ≤ bankMv false s)
    if !ok then s
    else
      let s := { s with
        grd := { s.grd with rampAt := some s.now, rampFrom := s.cnv.busMv.toNat * 1000, rampDown := false }
        fdr := { s.fdr with seq := .busRamp, seqAt := s.now } }
      converterTrack s
  | _, _ => s

/-- BUS_RAMP_END (R238): bank precharge begins. -/
def cmdBusRampEnd (s : Mach) : Mach :=
  match s.fdr.seq, s.grd.rampAt with
  | .busRamp, some t =>
    if s.now < t + obj Obj.RECT_BUS_RAMP_MS s * 1000000 then s
    else prechargeCheck { s with
      grd := { s.grd with
        rampAt := none
        busRef := (obj Obj.CNV_BUS_SET_MV s + obj Obj.BNK_PRECHARGE_OFFSET_MV s) * 1000 }
      bnk := { s.bnk with st := .precharge, preAt := s.now }
      fdr := { s.fdr with seq := .precharge, seqAt := s.now } }
  | _, _ => s

/-- PRECHARGE_TIMEOUT (R238): START aborts to STOP and BANK_FAST latches. -/
def cmdPrechargeTimeout (s : Mach) : Mach :=
  if prechargeLate s then
    refreshBankFast (enterStop { s with
      bnk := { s.bnk with st := .failed }
      grd := { s.grd with busRef := if s.bnk.st = .precharge then obj Obj.CNV_BUS_SET_MV s * 1000 else s.grd.busRef } })
  else s

/-- CNV_REGULATE_ENTRY (R151): precharge is complete and the error has been small for 100 frames. -/
def cmdCnvRegulateEntry (s : Mach) : Mach :=
  if s.mode = .start ∧ s.cnv.st = .track ∧ s.bnk.st = .ready ∧ 100 ≤ s.cnv.settled then
    let s := { s with
      cnv := { s.cnv with st := .regulate, cal := { s.cnv.cal with lastDone := s.now } }
      det := { s.det with uvLo := 0, uvHi := 0 }
      fdr := { s.fdr with seq := .privileged, seqAt := s.now } }
    let s := match s.grd.inService with
      | some f => feedMode f 3 s
      | none => s
    seqAdvance s
  else s

/-- PRIVILEGED_ON_DELAY (R286): a privileged entry's ON_DELAY_MS after REGULATE its feeder is due to close. -/
def cmdPrivilegedOnDelay (t : Nat) (s : Mach) : Mach :=
  let e := cst t s
  let f := feeder t s
  if s.fdr.seq = .privileged ∧ cstPriv e ∧ mayClose t s ∧ f.cmd = 0 ∧ ¬ f.wantClose ∧ ¬ f.used
      ∧ s.fdr.seqAt + cstOnDelay e * 1000000 ≤ s.now then
    wantClose t s.now s
  else s

/-- FEEDER_CLOSE_START (R284, R285): a feeder due to close starts its ramp; ordinary feeders of START in ascending
order. -/
def cmdFeederCloseStart (t : Nat) (s : Mach) : Mach :=
  let f := feeder t s
  let lower := decide (s.fdr.seq = .ordinary) && !cstPriv (cst t s) &&
    ((List.range t).any fun k => (feeder k s).wantClose && !cstPriv (cst k s) && mayClose k s && linkGood k s)
  -- in START a feeder closes in its place of the sequence (Table 10.13)
  let driven := decide (s.mode = .run ∨ s.mode = .drain) || (decide (s.mode = .start) &&
    (decide (s.fdr.seq = .ordinary) || (decide (s.fdr.seq = .privileged) && cstPriv (cst t s))))
  if f.wantClose && decide (f.closeAt ≤ s.now) && mayClose t s && linkGood t s && inrushRoom s && !lower && driven
    && !f.reading then
    let overridden := decide (cstState (cst t s) ≠ 1)
    let s := setFeeder t { f with
      cmd := 1
      wantClose := false
      used := true
      overrode := overridden
      deadline := some (s.now + (f.ramp + 50) * 1000000) } s
    if overridden then log 0x0502 (0x3000 + t) (f.identity / 2 ^ 160 % 2 ^ 32) s else s
  else s

/-- FEEDER_CLOSE_TIMEOUT (R287). -/
def cmdFeederCloseTimeout (t : Nat) (s : Mach) : Mach :=
  let f := feeder t s
  match f.deadline with
  | none => s
  | some d =>
    if s.now < d ∨ f.st = .closed then s
    else seqAdvance (pulse 9 (0x3000 + t) 0 (setFeeder t { f with cmd := 2, deadline := none } s))

/-- Every enabled feeder of START has closed or has failed to (Table 10.13, R287). -/
def allClosed (s : Mach) : Bool :=
  (List.range 64).all fun t =>
    let f := feeder t s
    !(closing f) && !(f.wantClose && mayClose t s)

/-- RUN_ENTRY (R21): tickets are accepted and the tracker starts in SEARCH. -/
def cmdRunEntry (s : Mach) : Mach :=
  if s.mode = .start ∧ s.fdr.seq = .ordinary ∧ allClosed s then
    let s := forgetAllSeq (setMode .run { s with fdr := { s.fdr with seq := .idle } })
    let t0 := s.now * 2 ^ 14
    { s with
      trk := { ({} : Tracker) with
        step := s.trk.step
        binT := t0
        nextT := t0 + 4000 * 2 ^ 14
        wrapT := s.now
        offset := s.trk.offset
        enteredAt := s.now }
      grd := { s.grd with agg := [] }
      tt := { s.tt with synth := true, mean := aggNow s, excRun := 0, excOn := false } }
  else s

/-- ORDINARY_FEEDER_OFF (Table 10.14): at 1 ms intervals the highest-numbered ordinary feeder still closed opens. -/
def cmdOrdinaryFeederOff (t : Nat) (s : Mach) : Mach :=
  let left := (liveTrays false s).filter fun k => decide ((feeder k s).cmd = 1) && linkGood k s
  if s.fdr.seq = .stopOrdinary ∧ left.getLast? = some t ∧ s.fdr.stopAt + 1000000 ≤ s.now then
    openFeeder t (obj Obj.FDR_ORD_OFF_RAMP_MS s) { s with fdr := { s.fdr with stopAt := s.fdr.stopAt + 1000000 } }
  else seqAdvance s

/-- PRIVILEGED_OFF_DELAY (Table 10.14). -/
def cmdPrivilegedOffDelay (t : Nat) (s : Mach) : Mach :=
  let e := cst t s
  if s.fdr.seq = .stopPrivileged ∧ cstPriv e ∧ (feeder t s).cmd = 1 ∧ s.fdr.seqAt + cstOffDelay e * 1000000 ≤ s.now then
    openFeeder t (cstOffRamp e) s
  else s

/-- BUS_RAMP_DOWN (R151, Table 10.14): every feeder reports OPEN. -/
def cmdBusRampDown (s : Mach) : Mach :=
  if s.fdr.seq = .stopPrivileged ∧ allOpen true s ∧ allOpen false s then
    let s := { s with
      grd := { s.grd with rampAt := some s.now, rampFrom := s.cnv.busMv.toNat * 1000, rampDown := true }
      fdr := { s.fdr with seq := .stopRamp, seqAt := s.now } }
    let s := if s.cnv.st = .regulate then trackAgain s else { s with cnv := { s.cnv with settled := 0 } }
    match s.grd.inService with
    | some f => feedMode f 2 s
    | none => s
  else s

/-- Table 10.14: the bus has fallen below `CNV_TRACK_OFF_MV`: the converter is OFF and the rectifiers go to STANDBY, then
OFF. -/
def trackOffCheck (s : Mach) : Mach :=
  if s.fdr.seq = .stopRamp ∧ s.cnv.busMv < (obj Obj.CNV_TRACK_OFF_MV s : Int) ∧ s.cnv.st ≠ .regulate then
    let s := if s.cnv.st = .track then converterStop .off s else s
    match s.grd.inService with
    | some f => feedMode f 1 { s with fdr := { s.fdr with seq := .stopOff }, grd := { s.grd with rampAt := none } }
    | none => { s with fdr := { s.fdr with seq := .idle }, grd := { s.grd with rampAt := none, st := .none, incoming := none } }
  else s

/-! ### Uplinks (R278 to R280, R290) -/

/-- FEEDER_DOWNLINK (R276): every 10 µs a frame to every feeder. -/
def cmdFeederDownlink (s : Mach) : Mach :=
  if s.now < s.fdr.downAt ∨ s.mode = .boot then s
  else
    let s := if s.ptn.gate then s else each (List.range 64) (fun t s => send (.feeder t (feederFrame t s)) s) s
    { s with fdr := { s.fdr with downAt := s.now + 10000, downNo := (s.fdr.downNo + 1) % 256 } }

/-- R290: a tray is pulled while its feeder was CLOSED or RAMPING. -/
def trayPulled (t : Nat) (s : Mach) : Mach :=
  let s := orderExt 2 (some t) (flushTray t s)
  countEv 386 (pulse 11 (0x3000 + t) 0 (setCstState t 3 s))

/-- The STATE field of an uplink. -/
def upState (n : Nat) : FdrState := if n = 0 then .opened else if n = 1 then .ramping else if n = 2 then .closed else .tripped

/-- What a good uplink frame reports, taken into feeder `t`'s record. -/
def uplinkTaken (t f : Nat) (s : Mach) : Feeder :=
  let x := feeder t s
  let seated := f.testBit 48
  let x := { x with
    badRun := 0
    lastUp := s.now
    goodAt := if x.linkBad || x.slotBad then s.now else x.goodAt
    linkBad := false
    slotBad := decide (f / 2 ^ 49 % 64 ≠ t) }
  -- the frame of another position reports nothing about this feeder (R279)
  if x.slotBad then x else { x with
    st := upState (f / 2 ^ 58 % 4)
    early := f.testBit 57
    oc := f.testBit 56
    driveB := f.testBit 55
    seated := seated
    seatedAt := if seated && !x.seated then s.now else x.seatedAt
    used := x.used && seated
    curr := f / 2 ^ 32 % 65536
    temp := f / 2 ^ 24 % 256
    hist := (s.now, (f / 2 ^ 32 % 65536) * s.cnv.busMv.toNat / 100000) ::
      x.hist.filter (fun p => decide (s.now ≤ p.1 + 100000)) }

/-- FEEDER_UPLINK (R278, R279, R280, R290). -/
def cmdFeederUplink (t f : Nat) (s : Mach) : Mach :=
  let x := feeder t s
  let good := decide (f / 2 ^ 60 = 1) && decide (f % 65536 = crc16 ((toBytes 8 f).take 6))
  if !good then
    let n := min 3 (x.badRun + 1)
    refreshSideband (0x3000 + t) (setFeeder t { x with badRun := n, linkBad := x.linkBad || decide (3 ≤ n) } s)
  else
    let y := uplinkTaken t f s
    let s := refreshSideband (0x3000 + t) (setFeeder t y s)
    let pulled := y.early && !x.early
    let oc := decide (y.st = .tripped) && y.oc
    let tripped := oc && !y.early && !(decide (x.st = .tripped) && x.oc && !x.early)
    -- an opening of its own ends the close command
    let s := if pulled || tripped then
        setFeeder t { feeder t s with cmd := 0, deadline := none, wantClose := false, ocHold := y.ocHold || tripped } s
      else s
    let s := if tripped then countEv 385 (pulse 9 (0x3000 + t) 0 (flushTray t s))
      -- an early break and an overcurrent trip together (R291)
      else if pulled && oc && !(decide (x.st = .tripped) && x.oc) then countEv 385 (pulse 9 (0x3000 + t) 0 s)
      else s
    let s := if pulled then
        if (x.st = .closed ∨ x.st = .ramping) ∧ s.role = .standby then s
        else if x.st = .closed ∨ x.st = .ramping then trayPulled t s else setCstState t 3 s
      else s
    let s := if y.st = .closed ∧ x.st ≠ .closed then
        forgetSeq t (countEv 384 (setFeeder t { feeder t s with deadline := none } s))
      else s
    if y.slotBad then s
    else
      let q := sget (0, 0) s.sig.samp t
      seqAdvance { s with sig := { s.sig with
          samp := sput (0, 0) s.sig.samp t (q.1 + y.curr * s.cnv.busMv.toNat, q.2 + 1) } }

/-- FEEDER_LINK_LOSS (R279): three bad or missing uplinks, or a wrong slot. -/
def cmdFeederLinkLoss (t : Nat) (s : Mach) : Mach :=
  let x := feeder t s
  if 3 ≤ x.badRun ∨ max x.lastUp s.gl.upAt + 30000 ≤ s.now ∨ x.slotBad then
    refreshSideband (0x3000 + t) (setFeeder t { x with
      linkBad := x.linkBad || decide (3 ≤ x.badRun ∨ max x.lastUp s.gl.upAt + 30000 ≤ s.now) } s)
  else s

/-! ### Identity reads and requests (R281 to R284, R289) -/

/-- IDENTITY_READ_COMPLETE (R281, R283). -/
def cmdIdentityReadComplete (t : Nat) (r : Option Nat) (s : Mach) : Mach :=
  let f := feeder t s
  if !f.reading then s
  else
    let fail := fun (s : Mach) =>
      if f.tries < 2 then
        let s := setFeeder t { f with tries := f.tries + 1 } s
        if drives s || decide (s.role = .none) then send (.identRead t) s else s
      else
        let s := refreshSideband (0x3000 + t) (setFeeder t { f with reading := false, readBad := true } s)
        -- a tray seated at an unplanned position is a MISMATCH, read or not (R283)
        seqAdvance (if cstPlanned (cst t s) then setCstState t 3 s else if f.seated then setCstState t 2 s else s)
    match r with
    | none => fail s
    | some w =>
      if recordGood w then
        let s := refreshSideband (0x3000 + t) (setFeeder t { f with reading := false, readBad := false, identity := w } s)
        seqAdvance (setCstState t (matchOf (cst t s) w) s)
      else fail s

/-- R283: re-reads of the named trays. -/
def reverify (v : Nat) (s : Mach) : Mach := each (bitsBelow v 64) startRead s

/-- R289: BRAKE with reason MANAGER to each named tray, ahead of opening it. -/
def openRequested (v : Nat) (s : Mach) : Mach :=
  each (bitsBelow v 64) (fun t s =>
    let s := brake t 7 s
    setFeeder t { feeder t s with openAt := some (s.now + obj Obj.TKT_BRAKE_CHECK_US s * 1000), wantClose := false } s) s

/-- FEEDER_OPEN_AFTER_BRAKE (R289). -/
def cmdFeederOpenAfterBrake (t : Nat) (s : Mach) : Mach :=
  match (feeder t s).openAt with
  | none => s
  | some a => if s.now < a ∨ ¬ linkGood t s then s else openFeeder t (obj Obj.FDR_ORD_OFF_RAMP_MS s) s

/-- R289: the identity is read again and the feeder is due to close. -/
def closeRequested (v : Nat) (s : Mach) : Mach :=
  each (bitsBelow v 64) (fun t s =>
    wantClose t s.now (startRead t (setFeeder t { feeder t s with ocHold := false } s))) s

/-- HOT_INSERT (R289): a tray seated at a planned, open position; a seating counts once. -/
def cmdHotInsert (t : Nat) (s : Mach) : Mach :=
  let f := feeder t s
  if decide (obj Obj.FDR_HOT_INSERT s = 1) && cstPlanned (cst t s) && f.seated && decide (f.st = .opened) && !f.used
    && !f.wantClose && decide (f.cmd ≠ 1) && decide (s.mode = .run ∨ s.mode = .drain)
    && decide (f.seatedAt + obj Obj.FDR_SETTLE_MS s * 1000000 ≤ s.now) then
    closeRequested (2 ^ t) s
  else s

/-- R284: an OVERRIDE committed in RUN closes its feeder under the inrush budget. -/
def overrideCommitted (t : Nat) (s : Mach) : Mach :=
  if cstOver (cst t s) && cstPlanned (cst t s) && decide ((feeder t s).cmd ≠ 1) && decide (s.mode = .run) then
    wantClose t s.now s
  else s

end Sys2Proof.Machine
end

