-- ==== Sys2Proof/Machine/Sense.lean ====
section
/-! DEFINITION. Sense-link frames (R421, R422) and the detectors that count their samples: the bus (R131, R136, R138,
R321), the bank channels (R234, R236) and the feeds' channels (R260, R270). -/

namespace Sys2Proof.Machine

/-- The three channels whose silence is SENSE_LINK: bus, fast bank, deep bank (R236, Table 5.8). -/
def watched (s : Mach) : List Nat := [obj Obj.CNV_BUS_CH s, bankChan false s, bankChan true s]

/-- SENSE_LINK is one level line for all its conditions (R236). -/
def refreshSenseLink (s : Mach) : Mach :=
  noteLink (setLine 48 ((watched s).any (fun c => decide (sget 0 s.cnv.missing c = 1))
    || (List.range 3).any (fun i => decide (sget 0 s.cnv.disOn i = 1))) 0 0 s)

/-- A consecutive-sample count: the next count where `hit`, else 0. -/
def countRun (hit : Bool) (n top : Nat) : Nat := if hit then min top (n + 1) else 0

/-- A channel delivers a sample, or delivers none, in a sample set. -/
def channelSample (c : Nat) (code : Option Nat) (s : Mach) : Mach :=
  match code with
  | none => { s with cnv := { s.cnv with goodRun := sput 0 s.cnv.goodRun c 0 } }
  | some x =>
    let g := min 8 (sget 0 s.cnv.goodRun c + 1)
    { s with cnv := { s.cnv with
        chan := sput 0 s.cnv.chan c x
        lastAt := sput 0 s.cnv.lastAt c s.now
        goodRun := sput 0 s.cnv.goodRun c g
        missing := if 8 ≤ g then sput 0 s.cnv.missing c 0 else s.cnv.missing } }

/-- The comparison of pair `i`: main and check sample of one set, in mV, within a tolerance. -/
def pairCheck (i : Nat) (a b : Option Int) (tol : Nat) (s : Mach) : Mach :=
  let bad := match a, b with
    | some x, some y => decide (tol < (x - y).natAbs)
    | _, _ => false
  let ok := match a, b with
    | some x, some y => decide ((x - y).natAbs ≤ tol)
    | _, _ => false
  let n := countRun bad (sget 0 s.cnv.disagree i) 16
  let k := countRun ok (sget 0 s.cnv.agreeRun i) 16
  { s with cnv := { s.cnv with
      disagree := sput 0 s.cnv.disagree i n
      agreeRun := sput 0 s.cnv.agreeRun i k
      disOn := if n = 16 then sput 0 s.cnv.disOn i 1 else if k = 16 then sput 0 s.cnv.disOn i 0 else s.cnv.disOn } }

/-- R321: BUS_OV and BUS_UV. -/
def busDetectors (mv : Int) (s : Mach) : Mach :=
  let n := obj Obj.FLT_BUS_SAMPLES s
  let hi := decide ((obj Obj.FLT_BUS_OV_MV s : Int) < mv)
  let lo := decide (mv < obj Obj.FLT_BUS_UV_MV s)
  let armed := decide (s.cnv.st = .regulate)
  let d : Detect := { s.det with
    ovHi := if s.mode = .boot then 0 else countRun hi s.det.ovHi n
    ovLo := if s.mode = .boot then 0 else countRun (!hi) s.det.ovLo n
    uvLo := if armed then countRun lo s.det.uvLo n else 0
    uvHi := if armed then countRun (!lo) s.det.uvHi n else 0 }
  let s : Mach := { s with det := d }
  let data := ofSigned 32 mv
  let s : Mach := if n ≤ d.ovHi then setLine 4 true 0 data s else if n ≤ d.ovLo then setLine 4 false 0 0 s else s
  if !armed then setLine 5 false 0 0 s
  else if n ≤ d.uvLo then setLine 5 true 0 data s else if n ≤ d.uvHi then setLine 5 false 0 0 s else s

/-- R138: a trigger of all-fire: at once, held during the separating frame, dropped during an all-fire frame. -/
def fireTrigger (s : Mach) : Mach :=
  let t := s.now * 8
  let f := s.cnv.fire
  if f.active then s
  else if t < f.sepEnd then { s with cnv := { s.cnv with fire := { f with held := true } } }
  else fireStart t s

/-- A bus sample, or none, in a sample set: differences are taken between consecutive sets (R136, R138). -/
def busSample (mv : Option Int) (s : Mach) : Mach :=
  match mv with
  | none => { s with cnv := { s.cnv with rising := 0, falling := 0 } }
  | some v =>
    let fresh := decide (2 ≤ sget 0 s.cnv.goodRun (obj Obj.CNV_BUS_CH s))
    let d := v - s.cnv.samples.headD v
    let up := fresh && decide ((obj Obj.CNV_BRAKE_SLOPE s : Int) < d)
    let down := fresh && decide (d < -(obj Obj.CNV_ALLFIRE_SLOPE s : Int))
    let r := countRun up s.cnv.rising 2
    let f := countRun down s.cnv.falling 2
    let s := { s with cnv := { s.cnv with
        samples := v :: s.cnv.samples.take 15
        rising := r
        falling := f
        slopeUp := s.cnv.slopeUp || decide (r = 2) } }
    let s := busDetectors v s
    if f = 2 ∧ obj Obj.CNV_ALLFIRE_ENABLE s = 1 ∧ s.cnv.st = .regulate then
      fireTrigger { s with cnv := { s.cnv with falling := 1 } }
    else s

/-- A bank's terminal sample in a set (R236, R241, R252). -/
def bankSample (deep : Bool) (mv : Option Int) (s : Mach) : Mach :=
  match mv with
  | none => s
  | some v =>
    let s := if bankFailed deep s ∨ s.mode = .boot then s else
      { s with bnk := { s.bnk with
          winSum := (bankUnits deep).foldl (fun m u => smod 0 m u (fun a => a + v)) s.bnk.winSum
          winN := (bankUnits deep).foldl (fun m u => smod 0 m u (fun a => a + 1)) s.bnk.winN
          last :=
            let upd := fun (l : List (Nat × Int)) => (s.now, v) :: l.filter (fun p => decide (s.now ≤ p.1 + 1000000))
            if deep then (s.bnk.last.1, upd s.bnk.last.2) else (upd s.bnk.last.1, s.bnk.last.2) } }
    let c := s.cnv.cal
    let s := { s with cnv := { s.cnv with cal := { c with
        frSum := if deep then (c.frSum.1, c.frSum.2 + v) else (c.frSum.1 + v, c.frSum.2)
        frN := if deep then (c.frN.1, c.frN.2 + 1) else (c.frN.1 + 1, c.frN.2) } } }
    if deep then s
    else
      let hi := decide ((obj Obj.BNK_FAST_TRIP_MV s : Int) < v)
      let h := countRun hi s.bnk.fastHi 16
      let l := countRun (!hi) s.bnk.fastLo 16
      refreshBankFast { s with bnk := { s.bnk with
          fastHi := h
          fastLo := l
          fastOver := if h = 16 then true else if l = 16 then false else s.bnk.fastOver } }

/-- A feed's envelope and current samples in a set (R260, R270, R272). -/
def feedSample (f : Nat) (env amps : Option Nat) (s : Mach) : Mach :=
  let x := feed f s
  let th := obj Obj.FEED_LOSS_MV s
  let x := match env with
    | none => x
    | some c => { x with
        env := 4 * c
        aboveAt := runOf (decide (th < 4 * c)) x.aboveAt s.now
        belowAt := runOf (decide (4 * c < th)) x.belowAt s.now }
  setFeed f { x with amps := amps.getD x.amps } s

/-- The samples that a frame delivers, by channel: none where CH_VALID is 0, where CHECK fails or where SET_NO skips
(R422). -/
def frameSamples (f : Nat) (s : Mach) : List (Option Nat) :=
  let good := decide (f % 65536 = crc16 ((toBytes 42 f).take 40))
  let no := f / 2 ^ 328 % 256
  let next := match s.cnv.setNo with
    | none => true
    | some k => decide (no = (k + 1) % 256)
  (List.range 16).map fun c =>
    if good && next && f.testBit (312 + c) then some (f / 2 ^ (24 + 18 * c) % 2 ^ 18) else none

/-- SET_NO as expected after a frame: a frame whose CHECK fails covers one set. -/
def nextSetNo (f : Nat) (s : Mach) : Option Nat :=
  if f % 65536 = crc16 ((toBytes 42 f).take 40) then some (f / 2 ^ 328 % 256)
  else s.cnv.setNo.map fun k => (k + 1) % 256

/-- A sample set acts, whether it came from this module's own link or was forwarded. -/
def senseSet (l : List (Option Nat)) (s : Mach) : Mach :=
  let code := fun (c : Nat) => l.getD c none
  let mv := fun (c : Nat) => (code c).map fun x => (4 * x : Int)
  let bch := fun (j : Nat) (s : Mach) => oGet Obj.BNK_FAST_CH_TO_BNK_DEEP_CHECK_CH 0 j s
  let fch := fun (j : Nat) (s : Mach) => oGet Obj.FEED1_CH_TO_FEED2_I_CH 0 j s
  let s := each (List.range 16) (fun c s => channelSample c (code c) s) s
  let s := pairCheck 0 (mv (obj Obj.CNV_BUS_CH s)) (mv (obj Obj.CNV_BUS_CHECK_CH s)) (obj Obj.CNV_BUS_DISAGREE_MV s) s
  let s := pairCheck 1 (mv (bch 0 s)) (mv (bch 1 s)) (obj Obj.BNK_DISAGREE_MV s) s
  let s := pairCheck 2 (mv (bch 2 s)) (mv (bch 3 s)) (obj Obj.BNK_DISAGREE_MV s) s
  let s := feedSample 0 (code (fch 0 s)) (code (fch 2 s)) s
  let s := feedSample 1 (code (fch 1 s)) (code (fch 3 s)) s
  -- events of one cycle in ascending bit order (R345): 4 to 6, 13, 48
  let s := busSample (mv (obj Obj.CNV_BUS_CH s)) s
  let s := bankSample true (mv (bch 2 s)) (bankSample false (mv (bch 0 s)) s)
  prechargeCheck (refreshSenseLink s)

/-- SENSE_FRAME (R421, R422); the set is dated 1.0 µs before its closing symbol. -/
def cmdSenseFrame (f : Nat) (s : Mach) : Mach :=
  senseSet (frameSamples f s) { s with cnv := { s.cnv with setNo := nextSetNo f s, setAt := s.now - 1000 } }

/-- SENSE_TIMEOUT (R236, Table 5.8): no sample on a watched channel for 3 µs. -/
def cmdSenseTimeout (c : Nat) (s : Mach) : Mach :=
  if s.mode = .boot ∨ ¬ (watched s).contains c ∨ s.now < max (sget 0 s.cnv.lastAt c) s.gl.upAt + 3000 then s
  else refreshSenseLink { s with cnv := { s.cnv with
      missing := sput 0 s.cnv.missing c 1
      goodRun := sput 0 s.cnv.goodRun c 0 } }

end Sys2Proof.Machine
end

