-- ==== Sys2Proof/Machine/Timetable.lean ====
section
/-! DEFINITION. The timetable's pages, validation, swap, synthesis and excursion rule (R37 to R48) and the signature
updater (R51 to R53). -/

namespace Sys2Proof.Machine

/-! ### Validation (R38, R46) -/

/-- R38: a row that a commit accepts. -/
def rowValid (r : Nat) : Bool :=
  let p := f16 (rowPred r)
  let g := f16 (rowGrid r)
  let b := f16 (rowBase r)
  let t := f16 (rowTol r)
  let k := f16 (rowFf r)
  !p.isNan && !g.isNan && !b.isNan && !t.isNan && !k.isNan && !p.isNeg && !g.isNeg && !t.isNeg && !b.isInf && !k.isInf
    && decide (rowShare r ≤ 128) && decide (r / 2 ^ 40 % 2 ^ 11 = 0) && decide (r / 2 ^ 16 % 256 = 0)
    && decide (rowChecked r = r)

/-- R46: what validation of the shadow page reports: a code of Table 0.6 and a row, or none when it passes. -/
def validatePage (s : Mach) : Option (Nat × Nat) :=
  let p := shadowPage s
  if p.count ≠ s.trk.n ∨ p.width ≠ s.trk.wCode then some (0x09, 0)
  else ((srange p.rows 0 p.count).find? fun q => !rowValid q.2).map fun q => (0x05, q.1)

/-- R45, R47: an accepted commit of the shadow page. -/
def acceptPage (s : Mach) : Mach :=
  let p := shadowPage s
  let s := setShadow { p with seq := (p.seq + 1) % 2 ^ 32 } s
  { s with tt := { s.tt with
      shadow := .committed
      late := decide (s.trk.n ≤ s.trk.bin + 1)
      acked := false } }

/-- R46: a refused commit leaves the page OPEN; TIMETABLE_INVALID pulses (R321). -/
def refusePage (code r : Nat) (s : Mach) : Mach :=
  pulse 21 0 0 (setObj Obj.TT_REFUSAL_CODE code (setObj Obj.TT_REFUSAL_ROW r
    { s with tt := { s.tt with shadow := .opened } }))

/-! ### Swap and synthesis (R41, R47, R48) -/

/-- A page plans the steps of bin count `n` and width code `w`. -/
def pageFits (p : Page) (n w : Nat) : Bool := decide (p.count ≠ 0 ∧ p.count = n ∧ p.width = w)

/-- R41: rows are synthesised for the step in force. -/
def synthNow (s : Mach) : Bool :=
  !pageFits (livePage s) s.trk.n s.trk.wCode || decide (s.trk.st = .search ∨ s.trk.st = .track ∨ s.trk.st = .aperiodic)

/-- R47: the committed shadow page may swap in at this wrap. -/
def swapNow (s : Mach) : Bool :=
  decide (s.tt.shadow = .committed) && !s.tt.late && decide (s.trk.st = .locked ∨ s.trk.st = .holdover)
    && pageFits (shadowPage s) s.trk.n s.trk.wCode && (s.tt.acked || decide (s.role = .solo))

/-- The timetable's part of a wrap, after the tracker's: `n0` and `w0` are the bin count and width of the ended step. -/
def pageAtWrap (n0 w0 : Nat) (rebin : Bool) (s : Mach) : Mach :=
  let fitted0 := pageFits (livePage s) n0 w0
  let s :=
    if swapNow s then
      countEv 193 (incObj Obj.TT_SWAP_COUNT { s with tt := { s.tt with
          liveB := !s.tt.liveB
          shadow := .copying
          copyEnd := s.now + 50000
          bad := [] } })
    else if s.tt.shadow = .committed ∧ rebin ∧ ¬ pageFits (shadowPage s) s.trk.n s.trk.wCode then
      { s with tt := { s.tt with shadow := .opened } }
    else s
  let syn := synthNow s
  let s := { s with tt := { s.tt with
      late := false
      synth := syn
      mean := aggMean 10000000000 s
      excRun := 0
      excOn := false } }
  let s := if syn then countEv 196 s else s
  if fitted0 ∧ ¬ pageFits (livePage s) s.trk.n s.trk.wCode then pulse 21 0 0 s else s

/-- SHADOW_COPY_COMPLETE (R48). -/
def cmdShadowCopyComplete (s : Mach) : Mach :=
  if s.tt.shadow = .copying then
    let s := setShadow (livePage s) s
    { s with tt := { s.tt with shadow := .opened } }
  else s

/-- R41, R112, R204: an uncorrectable error in a live row: the row is synthesised from now on, and what the supply loses
by it in the bin in progress is a fall. -/
def liveRowLost (b : Nat) (s : Mach) : Mach :=
  withSupply 1 (fun s => { s with tt := { s.tt with
      mean := if s.tt.synth ∨ s.tt.bad ≠ [] then s.tt.mean else aggMean 10000000000 s
      bad := if s.tt.bad.contains b then s.tt.bad else b :: s.tt.bad } }) s

/-! ### The excursion rule (R40) -/

/-- The aggregate lies outside PRED_POWER ± TOLERANCE of a row. -/
def outsideBand (r : Nat) (s : Mach) : Bool :=
  let p := f16 (rowPred r)
  let t := f16 (rowTol r)
  if t.isInf then false
  else
    let a : Int := aggLast s
    decide ((p.addExact t).floorMul 1000 < a) || decide (a < -((p.neg.addExact t).floorMul 1000))

/-- The row of bin `b` is not synthesised. -/
def plannedRow (b : Nat) (s : Mach) : Bool := !(s.tt.synth || s.tt.bad.contains b)

/-- R40 at the end of bin `b`: the run of bins outside the band. A bin whose row is synthesised is not compared and ends
the run (DESIGN CHOICE, log entry 127). -/
def excursionRun (b : Nat) (s : Mach) : Mach :=
  { s with tt := { s.tt with
      excRun := if plannedRow b s && outsideBand (row b s) s then s.tt.excRun + 1 else 0 } }

/-- R40, R112: from the bin that begins now, B is 0; what its row would have given is a fall. -/
def excursionAct (s : Mach) : Mach :=
  if s.tt.excOn ∨ s.tt.excRun < obj Obj.TT_EXCURSION_BINS s then s
  else
    countEv 195 (incObj Obj.TT_EXCURSION_STEPS
      (withSupply 1 (fun s => { s with tt := { s.tt with excOn := true } }) s))

/-! ### The signature table (R51 to R53) -/

/-- An entry not yet learned: MEAN NaN, SPREAD 0. -/
def sigUnknown : Nat := 0x7E00 * 65536
/-- binary32 to binary16, saturated at 65,504 W. -/
def sat16 (v : Fv) : Nat := let w := toF16 v; if w = 0x7C00 then 0x7BFF else w

/-- R52: one entry at the end of its bin, from the tray's power `x`. -/
def sigEntry (a : Nat) (x : Fv) (e : Nat) : Nat :=
  let m := f16 (e / 65536)
  let d := f16 (e % 65536)
  if m.isNan then sat16 x * 65536
  else
    let scale := fun (v : Fv) => v.mul32 (.fin false 1 (-(a : Int)))
    let dev := (x.sub32 m).abs
    let m' := m.add32 (scale (x.sub32 m))
    let d' := d.add32 (scale (dev.sub32 d))
    sat16 m' * 65536 + sat16 d'

/-- The tray's power in the bin that ends: the mean of its samples, or else the last sample. -/
def sigPower (t : Nat) (s : Mach) : Fv :=
  let q := sget (0, 0) s.sig.samp t
  if q.2 = 0 then r32 (Fv.ofRat 24 ((feeder t s).curr * s.cnv.busMv.toNat : Nat) 100000)
  else r32 (Fv.ofRat 24 q.1 (q.2 * 100000))

/-- The tracker state in which signatures are learned. -/
def sigLearns (s : Mach) : Bool :=
  decide (obj Obj.SIG_FREEZE s = 0) && decide (s.trk.st = .locked ∨ s.trk.st = .holdover)

/-- R52: the updater at the end of bin `b`; entries of a MISSING tray hold NaN (R53). -/
def sigBinEnd (b : Nat) (s : Mach) : Mach :=
  let a := obj Obj.SIG_RATE_SHIFT s
  let s := if sigLearns s then
      each (List.range 64) (fun t s =>
        let e := if missing t s then sigUnknown else sigEntry a (sigPower t s) (sget sigUnknown s.sig.tab (sigKey t b))
        { s with sig := { s.sig with tab := sput sigUnknown s.sig.tab (sigKey t b) e } }) s
    else s
  { s with sig := { s.sig with samp := [] } }

/-- R53: at a re-bin nothing is learned any more. -/
def sigForget (s : Mach) : Mach := setObj Obj.SIG_STEPS_LEARNED 0 { s with sig := { s.sig with tab := [] } }

end Sys2Proof.Machine
end

