-- ==== Sys2Proof/Machine/Tracker.lean ====
section
/-! DEFINITION. The Step Phase Tracker (R24 to R36): events, wraps, bins and re-bins. The functions here give the tracker
after a wrap; the boundary itself follows in `Boundary`. -/

namespace Sys2Proof.Machine

/-! ### Bins (R34 to R36) -/

/-- round(P / w), an exact half upward. -/
def roundDiv (p w : Nat) : Nat := (2 * p + w) / (2 * w)
/-- A bin duration held within w × 31/32 and w × 33/32, Q18.14 ns. -/
def clampD (q : Int) (w : Nat) : Nat :=
  let u : Int := widthNs w * 2 ^ 14
  (clampI q (u * 31 / 32) (u * 33 / 32)).toNat
/-- d for a step of `p` ns in `n` bins. -/
def binD (p n w : Nat) : Nat := clampD (tdiv (p * 2 ^ 14 : Nat) (max 1 n)) w

/-- R34: the width code at a first choice. -/
def firstWidth (p : Nat) (s : Mach) : Nat :=
  let c := obj Obj.TRK_BIN_WIDTH s
  if c ≠ 0 then c else ([1, 2, 3, 4, 5, 6, 7].find? fun k => decide (roundDiv p (widthNs k) ≤ 262144)).getD 7

/-- R34: the width code from one in use: wider only past 262,144 bins, narrower only at 245,760 or fewer. -/
def nextWidth (p w : Nat) (s : Mach) : Nat :=
  let c := obj Obj.TRK_BIN_WIDTH s
  if c ≠ 0 then c
  else if 262144 * widthNs w < p then firstWidth p s
  else (([1, 2, 3, 4, 5, 6, 7].find? fun k => decide (k < w ∧ p ≤ 245760 * widthNs k)).getD w)

/-- R36: N and w at a wrap in LOCKED or TRACK, and whether that is a re-bin. -/
def rebinAt (p n w : Nat) (s : Mach) : Nat × Nat × Bool :=
  let w' := nextWidth p w s
  let off := n * widthNs w / 32 < (p - n * widthNs w) + (n * widthNs w - p)
  if w' ≠ w ∨ off then (min 262144 (max 1 (roundDiv p (widthNs w'))), w', true) else (n, w, false)

/-! ### Beginning a step -/

/-- The step that begins at `at_` (2⁻¹⁴ ns). -/
def beginStep (at_ : Nat) (st : TrkState) (n w d : Nat) (rebin : Bool) (now : Nat) (t : Tracker) : Tracker :=
  { t with
    st := st
    step := (t.adopt.getD (t.step + 1)) % 65536
    n := n
    wCode := w
    d := d
    lenNext := none
    bin := 0
    binT := at_
    nextT := at_ + d
    wrapT := at_ / 2 ^ 14
    stretch := false
    hit := false
    heldLast := t.held
    held := none
    adopt := none
    toAper := false
    capClose := none
    enteredAt := if st = t.st then t.enteredAt else now
    lockedAll := decide (st = .locked) && !rebin
    stepsLocked := if st = .locked ∧ t.st ≠ .locked then 0
      else if t.lockSeen then (t.stepsLocked + 1) % 2 ^ 32 else 0
    lockSeen := t.lockSeen || decide (st = .locked)
    aggMin := none
    aggMax := none
    prevMin := t.aggMin
    prevMax := t.aggMax }

/-- R28: a pseudo-step of SEARCH or APERIODIC: 250,000 bins of 4 µs, no period known. -/
def pseudoStep (at_ : Nat) (st : TrkState) (now : Nat) (t : Tracker) : Tracker :=
  { beginStep at_ st 250000 3 (4000 * 2 ^ 14) false now t with
    period := 0
    missed := 0
    spacing := none
    cand := none
    heldLast := none }

/-- R28: the 64 µs step of TRACK before a period is known; the wrap lies at the event, so its error is 0. -/
def trackStep (at_ : Nat) (now : Nat) (t : Tracker) : Tracker :=
  { beginStep at_ .track 262144 7 (64000 * 2 ^ 14) false now t with
    period := 0
    err := 0
    missed := 0
    spacing := none
    cand := none
    heldLast := none }

/-- R34: N and w for a period just learned, and whether they change. -/
def firstBins (p : Nat) (s : Mach) : Nat × Nat × Bool :=
  let w := firstWidth p s
  let n := min 262144 (max 1 (roundDiv p (widthNs w)))
  (n, w, decide (n ≠ s.trk.n ∨ w ≠ s.trk.wCode))

/-- A step of TRACK or LOCKED on period `p` placed at the event `e`; `first` says that the period is learned anew. -/
def periodStep (e : Int) (st : TrkState) (p : Nat) (first : Bool) (s : Mach) : Tracker × Bool :=
  let t := s.trk
  let b := if first then firstBins p s else rebinAt p t.n t.wCode s
  ({ beginStep (e.toNat * 2 ^ 14) st b.1 b.2.1 (binD p b.1 b.2.1) b.2.2 s.now t with
    period := p
    missed := 0
    err := 0
    cand := none
    heldLast := none }, b.2.2)

/-- The half-window of capture, ns (R28). -/
def captureNs (s : Mach) : Nat := obj Obj.TRK_CAPTURE_BINS s * s.trk.d / 2 ^ 14

/-- The natural end of a step: none while bin N - 1 stretches, else the tracker of the next step, whether it re-bins and
whether the tracker unlocks (R28 to R30, R36). -/
def naturalWrap (s : Mach) : Option (Tracker × Bool × Bool) :=
  let t := s.trk
  let at_ := t.nextT
  match t.st with
  | .search => some (pseudoStep at_ .search s.now t, false, false)
  | .aperiodic => some (pseudoStep at_ .aperiodic s.now t, false, false)
  | .track => if t.period = 0 then some (pseudoStep at_ .aperiodic s.now t, false, true) else none
  | st =>
    if t.toAper ∧ t.held.isNone then some (pseudoStep at_ .aperiodic s.now t, false, true)
    else
      let b := if st = .locked then rebinAt t.period t.n t.wCode s else (t.n, t.wCode, false)
      let d := binD (t.lenNext.getD t.period) b.1 b.2.1
      let hit := t.hit
      let t' := beginStep at_ st b.1 b.2.1 d b.2.2 s.now t
      let c := t'.wrapT + obj Obj.TRK_CAPTURE_BINS s * d / 2 ^ 14
      some ({ t' with capClose := if hit then none else some c, lockedAll := t'.lockedAll && decide (st = .locked) },
        b.2.2, false)

/-! ### Events (R26 to R31) -/

/-- R27: an event is far enough from the one accepted before. -/
def farEnough (e : Int) (s : Mach) : Bool :=
  match s.trk.lastEvt with
  | none => true
  | some l => decide (l + obj Obj.TRK_PERIOD_MIN_MS s * 1000000 ≤ e)

/-- R35: a fixed width admits event spacings of at most 262,144 bins. -/
def widthAdmits (sp : Int) (s : Mach) : Bool :=
  let c := obj Obj.TRK_BIN_WIDTH s
  decide (c = 0) || decide (sp ≤ (262144 * widthNs c : Nat))

/-- A spacing within the period limits and, with a fixed width, within 262,144 bins (R35). -/
def goodSpacing (sp : Int) (s : Mach) : Bool :=
  decide ((obj Obj.TRK_PERIOD_MIN_MS s * 1000000 : Nat) ≤ sp ∧ sp ≤ (obj Obj.TRK_PERIOD_MAX_MS s * 1000000 : Nat))
    && widthAdmits sp s

/-- R35: an event inside the capture window comes at a spacing that a fixed width admits. In HOLDOVER, where the event
accepted last lies several steps back, the period stands for the spacing (DEDUCED, log entry 148). -/
def rhythmFits (e : Int) (s : Mach) : Bool :=
  match s.trk.st, s.trk.lastEvt with
  | .locked, some l => widthAdmits (e - l) s
  | _, _ => widthAdmits s.trk.period s

/-- The number of the next step: the present one's plus 1, or an adopted number (R27). -/
def nextStepNo (t : Tracker) : Nat := t.adopt.getD (t.step + 1) % 65536

/-- R27: the number that a MARKER event brings for the wrap ahead. -/
def adoptAhead (k : Option Nat) (t : Tracker) : Tracker :=
  match k with
  | some n => if n = nextStepNo t then t else { t with adopt := some n }
  | none => t

/-- R27: the number that a MARKER event inside the window of the wrap just placed brings for the next wrap. -/
def adoptBehind (k : Option Nat) (t : Tracker) : Tracker :=
  match k with
  | some n => if n = t.step then t else { t with adopt := some (n + 1) }
  | none => t

/-- R31: the correction by an event of the wrap just placed (`prev`) or of the wrap ahead. -/
def lockUpdate (e : Int) (prev : Bool) (s : Mach) : Tracker :=
  let t := s.trk
  let wrap : Int := if prev then t.wrapT else predicted s
  let err := e - wrap
  let p := ((t.period : Int) + asr err (obj Obj.TRK_KI_SHIFT s)).toNat
  let tEnd := wrap + p + asr err (obj Obj.TRK_KP_SHIFT s)
  let k := if prev then t.n - 1 - t.bin else t.n
  let tNext : Int := if prev then (t.nextT / 2 ^ 14 : Nat) else wrap
  let d := if k = 0 then t.d else clampD (tdiv ((tEnd - tNext) * 2 ^ 14) k) t.wCode
  let t := { t with period := p, err := err, lastEvt := some e, missed := 0, cand := none, toAper := false }
  let t := if t.st = .locked then t else { t with st := .locked, enteredAt := s.now, stepsLocked := 0, lockSeen := true }
  if prev then { t with d := d, capClose := none, heldLast := none }
  else { t with lenNext := some (tEnd - wrap).toNat, hit := true, held := none }

/-- R28: the wrap to whose window an event belongs: `some true` the wrap just placed, `some false` the wrap ahead. -/
def windowOf (e : Int) (s : Mach) : Option Bool :=
  let c : Int := captureNs s
  let w : Int := s.trk.wrapT
  let p : Int := predicted s
  let inPrev := decide (w - c ≤ e ∧ e ≤ w + c)
  let inNext := decide (p - c ≤ e ∧ e ≤ p + c)
  if inPrev && inNext then some (decide (e - w ≤ p - e)) else if inPrev then some true else if inNext then some false
  else none

/-- An event is accepted: the tracker without a wrap, or the tracker of the step that the event begins with its re-bin
flag. -/
def acceptEvent (e : Int) (k : Option Nat) (s : Mach) : Tracker × Option (Tracker × Bool) :=
  let t := s.trk
  if !farEnough e s then (t, none)
  else
    let last := { t with lastEvt := some e }
    let ahead := fun (s : Mach) => { s with trk := adoptAhead k { s.trk with lastEvt := some e } }
    match t.st with
    | .search => (t, some (trackStep (e.toNat * 2 ^ 14) s.now (adoptAhead k last), false))
    | .aperiodic => (t, some (trackStep (e.toNat * 2 ^ 14) s.now (adoptAhead k last), false))
    | .track =>
      let sp := e - t.lastEvt.getD e
      if t.period = 0 then
        if goodSpacing sp s then
          let r := periodStep e .track sp.toNat true (ahead s)
          (t, some ({ r.1 with spacing := some sp.toNat }, r.2))
        else (t, some (trackStep (e.toNat * 2 ^ 14) s.now (adoptAhead k last), false))
      else if !goodSpacing sp s then (t, none)
      else
        let near := decide ((e - predicted s).natAbs ≤ obj Obj.TRK_LOCK_TOL s * t.d / 2 ^ 14)
        let p := if near then (t.spacing.getD t.period + sp.toNat) / 2 else sp.toNat
        let r := periodStep e (if near then .locked else .track) p false (ahead s)
        (t, some ({ r.1 with spacing := some sp.toNat }, r.2))
    | st =>
      match windowOf e s with
      | some prev =>
        if (prev && t.capClose.isNone) || (!prev && t.hit) || !rhythmFits e s then (t, none)
        else (if prev then adoptBehind k (lockUpdate e prev s) else adoptAhead k (lockUpdate e prev s), none)
      | none =>
        if st = .holdover then
          match t.cand with
          | some c =>
            if goodSpacing (e - c) s then
              let r := periodStep e .track (e - c).toNat true (ahead s)
              (t, some ({ r.1 with spacing := some (e - c).toNat }, r.2))
            else ({ t with cand := some e }, none)
          | none => ({ t with cand := some e }, none)
        else (t, none)

/-- R26: with both sources, a load event inside a capture window waits there for a MARKER event; TRACK has a capture
window once its period is known. -/
def holdLoad (e : Int) (s : Mach) : Option Tracker :=
  let t := s.trk
  if obj Obj.TRK_SOURCE s ≠ 2 ∨ ¬ farEnough e s then none
  else match t.st with
    | .track =>
      if t.period ≠ 0 ∧ (e - predicted s).natAbs ≤ captureNs s then some { t with held := some (t.held.getD e) } else none
    | .search => none
    | .aperiodic => none
    | _ => match windowOf e s with
      | some true => if t.capClose.isSome ∧ t.heldLast.isNone then some { t with heldLast := some e } else some t
      | some false => if ¬ t.hit ∧ t.held.isNone then some { t with held := some e } else some t
      | none => none

/-! ### MARKER and load events (R24, R25) -/

/-- R24: a MARKER of step `k` from requester `r`: the senders counted, and the event time when the quorum is complete.
Numbers half the range behind are forgotten. -/
def markerTicket (k r : Nat) (s : Mach) : Tracker × Option Int :=
  let t := s.trk
  if t.markDone.contains k then (t, none)
  else
    let l := ((t.mark.find? fun p => decide (p.1 = k)).map fun p => p.2).getD []
    let l := if l.contains r then l else r :: l
    let rest := t.mark.filter fun p => decide (p.1 ≠ k)
    if obj Obj.TRK_MARKER_QUORUM s ≤ l.length then
      ({ t with
        mark := rest
        markDone := k :: t.markDone.filter (fun j => decide ((k + 65536 - j) % 65536 < 32768)) },
        some ((s.now : Int) - obj Obj.TRK_MARKER_LATENCY_NS s))
    else ({ t with mark := (k, l) :: rest }, none)

/-- The extremes of the aggregate that the crossing threshold rests on (R25). -/
def crossSpan (s : Mach) : Option (Nat × Nat) :=
  if s.trk.st = .search ∨ s.trk.st = .aperiodic then
    match (s.grd.agg.filter fun p => decide (s.now ≤ p.1 + 1000000000)).map (fun p => p.2) with
    | [] => none
    | x :: r => some (r.foldl min x, r.foldl max x)
  else match s.trk.prevMin, s.trk.prevMax with
    | some a, some b => some (a, b)
    | _, _ => none

/-- The sample re-arms the crossing detector: it lies below the threshold less 1/16 of the span. -/
def rearmed (x : Nat) (s : Mach) : Bool :=
  match crossSpan s with
  | none => s.trk.armed
  | some m => s.trk.armed || decide (16 * x + (m.2 - m.1) < 8 * (m.1 + m.2))

/-- The sample crosses upward: it lies above the threshold plus 1/16 of the span. -/
def crossed (x : Nat) (s : Mach) : Bool :=
  match crossSpan s with
  | none => false
  | some m => s.trk.armed && decide (8 * (m.1 + m.2) + (m.2 - m.1) < 16 * x)

/-- A rack aggregate sample, channel 180: kept for 10 s, in the step's extremes and by the crossing detector. -/
def aggSample (s : Mach) : Mach :=
  let x := aggNow s
  let arm := rearmed x s
  { s with
    grd := { s.grd with agg := (s.now, x) :: s.grd.agg.filter (fun p => decide (s.now ≤ p.1 + 10000000000)) }
    trk := { s.trk with
      armed := arm
      aggMin := some (min x (s.trk.aggMin.getD x))
      aggMax := some (max x (s.trk.aggMax.getD x)) } }

/-- The members of a list within half a period of `e`. -/
def nearby (e : Int) (l : List Int) (s : Mach) : List Int := l.filter fun c => decide ((e - c).natAbs ≤ s.trk.period / 2)

/-- The member nearest to `e`. -/
def nearest (e : Int) : List Int → Option Int
  | [] => none
  | x :: r => match nearest e r with
    | none => some x
    | some y => if (e - y).natAbs < (e - x).natAbs then some y else some x

/-- R25: the offset moves by 1/16 of the difference between raw crossing less MARKER event and the offset in force. -/
def learnOffset (cross marker : Int) (t : Tracker) : Tracker :=
  { t with offset := t.offset + tdiv (cross - marker - t.offset) 16 }

/-- R25: pairs are learned while both sources are enabled and a period estimate exists. -/
def learnsOffset (s : Mach) : Bool := decide (obj Obj.TRK_SOURCE s = 2 ∧ s.trk.period ≠ 0)

/-- R25: a MARKER event pairs with the nearest crossing before it, or waits for the next one. -/
def pairMarker (m : Int) (s : Mach) : Tracker :=
  let t := s.trk
  if !learnsOffset s then t
  else match nearest m (nearby m t.crosses s) with
    | some c => { learnOffset c m t with
      crosses := t.crosses.filter fun x => decide (x ≠ c)
      pair := some (m, c, t.offset) }
    | none => { t with markers := nearby m (m :: t.markers) s }

/-- R25: a crossing pairs with the MARKER event that waits nearest to it, or waits itself; it takes the place of the
crossing before the last MARKER event where it is the nearer one. -/
def pairCross (c : Int) (s : Mach) : Tracker :=
  let t := s.trk
  if !learnsOffset s then t
  else match t.pair.filter fun q => decide ((c - q.1).natAbs < (q.2.1 - q.1).natAbs) with
    | some q => learnOffset c q.1 { t with offset := q.2.2, pair := some (q.1, c, q.2.2) }
    | none => match nearest c (nearby c t.markers s) with
      | some m => { learnOffset c m t with
        markers := t.markers.filter fun x => decide (x ≠ m)
        pair := some (m, c, t.offset) }
      | none => { t with crosses := nearby c (c :: t.crosses) s }

/-- R32: TRACKER_UNLOCK at entry to HOLDOVER or APERIODIC. -/
def unlocked (s : Mach) : Mach := pulse 20 0 0 s

/-- TRK_SEARCH_LIMIT (R28). -/
def cmdTrkSearchLimit (s : Mach) : Mach :=
  if s.trk.st = .search ∧ (s.mode = .run ∨ s.mode = .drain) ∧ s.role ≠ .standby
      ∧ s.trk.enteredAt + obj Obj.TRK_SEARCH_LIMIT_S s * 1000000000 ≤ s.now then
    unlocked { s with trk := { s.trk with st := .aperiodic, enteredAt := s.now } }
  else s

end Sys2Proof.Machine
end

