-- ==== Sys2Proof/Machine/LongRecord.lean ====
section
/-! DEFINITION. The Long Record (chapters 6 and 7): what each channel samples (Table 6.5), the coding of a block (R197 to
R199), the closing of a block and the reading of a sample (R200). -/

namespace Sys2Proof.Machine

/-! ### The coding of a block (R197, R198) -/

/-- R198: the prediction for sample `i` from the reconstructed samples before it, newest first. -/
def lrPredict (order i : Nat) (xr : List Int) : Int :=
  let o := min order i
  let a := xr.getD 0 0
  let b := xr.getD 1 0
  let c := xr.getD 2 0
  if o = 1 then a else if o = 2 then 2 * a - b else 3 * a - 3 * b + c

/-- R198: the quantised residual for bound `k`. -/
def lrQuant (k : Nat) (r : Int) : Int :=
  let m : Int := (r.natAbs + k) / (2 * k + 1)
  if r < 0 then -m else m

/-- The residuals of samples `i` on, from the reconstructed samples before them. -/
def lrResiduals (order : Nat) (bound : Nat → Nat) : Nat → List Int → List Int → List Int
  | _, _, [] => []
  | i, xr, x :: rest =>
    let p := lrPredict order i xr
    let q := lrQuant (bound i) (x - p)
    q :: lrResiduals order bound (i + 1) ((p + q * (2 * bound i + 1)) :: xr) rest

/-- R198: the decoder: reconstructed samples, oldest first, from the residuals of samples `i` on. -/
def lrRebuild (order : Nat) (bound : Nat → Nat) : Nat → List Int → List Int → List Int
  | _, _, [] => []
  | i, xr, q :: rest =>
    let v := lrPredict order i xr + q * (2 * bound i + 1)
    v :: lrRebuild order bound (i + 1) (v :: xr) rest

/-- `q` fits in `w`-bit two's complement. -/
def lrFits (w : Nat) (q : Int) : Bool :=
  if w = 0 then decide (q = 0) else decide (-(2 : Int) ^ (w - 1) ≤ q ∧ q < (2 : Int) ^ (w - 1))

/-- The least width, 0 to 24, that holds every residual. -/
def lrWidth (l : List Int) : Option Nat := (List.range 25).find? fun w => l.all (lrFits w)

/-- R198: the order with the smallest width, the lower on a tie: order, width and residuals. -/
def lrBest (bound : Nat → Nat) (x0 : Int) (rest : List Int) : Option (Nat × Nat × List Int) :=
  [1, 2, 3].foldl (fun best o =>
    let q := lrResiduals o bound 1 [x0] rest
    match lrWidth q, best with
    | some w, some b => if w < b.2.1 then some (o, w, q) else some b
    | some w, none => some (o, w, q)
    | none, b => b) none

/-- R198: the bound of sample `i`. -/
def lrBound (k kPrior split i : Nat) : Nat := if i < split then kPrior else k

/-- Fields of `w` bits packed from the most significant bit on. -/
def lrPack (w : Nat) (l : List Int) : Nat := l.foldl (fun a q => a * 2 ^ w + ofSigned w q) 0

/-- Table 7.8: the header as 128 bits, with HDR_CHECK over bytes 0 to 13. -/
def lrHeader (mode k kPrior split order width anchor no : Nat) : Nat :=
  let w := mode <<< 126 ||| k <<< 122 ||| kPrior <<< 118 ||| split <<< 111 ||| order <<< 109 ||| width <<< 104
    ||| anchor <<< 64 ||| (no % 2 ^ 32) <<< 32
  w ||| crc16 ((toBytes 16 w).take 14)

/-- R197: a block of 80 samples (oldest first) written over the slot `old`; bits past the sample field stay. -/
def lrEncode (k kPrior split no : Nat) (l : List Int) (old : Nat) : Nat :=
  let x0 := l.headD 0
  let place := fun (h bits : Nat) (f : Nat) =>
    h <<< 1920 ||| f <<< (1920 - bits) ||| old % 2 ^ (1920 - bits)
  match lrBest (lrBound k kPrior split) x0 l.tail with
  | some (o, w, q) => place (lrHeader 0 k kPrior split (o - 1) w (ofSigned 32 x0) no) (79 * w) (lrPack w q)
  | none =>
    let m := l.foldl min x0
    place (lrHeader 1 k kPrior split 0 24 (ofSigned 32 m) no) (80 * 24)
      (l.foldl (fun a x => a * 2 ^ 24 + (x - m).toNat % 2 ^ 24) 0)

/-- The header of a block. -/
def lrHead (b : Nat) : Nat := b >>> 1920

/-- R200: HDR_CHECK and BLOCK_NO of a slot are right. -/
def lrHeadOk (b no : Nat) : Bool :=
  let h := lrHead b
  decide (crc16 ((toBytes 16 h).take 14) = nfld h 15 0) && decide (nfld h 63 32 = no % 2 ^ 32)

/-- R198: the 80 samples of a block. -/
def lrDecode (b : Nat) : List Int :=
  let h := lrHead b
  let w := nfld h 108 104
  let anchor := toSigned 32 (nfld h 95 64)
  let f := fun (n i : Nat) => (b >>> (1920 - n * (i + 1))) % 2 ^ n
  if nfld h 127 126 = 0 then
    let q := (List.range 79).map fun i => if w = 0 then 0 else toSigned w (f w i)
    anchor :: lrRebuild (nfld h 110 109 + 1) (lrBound (nfld h 125 122) (nfld h 121 118) (nfld h 117 111)) 1 [anchor] q
  else (List.range 80).map fun i => anchor + (f 24 i : Int)

/-! ### Recording (R165, R199) -/

/-- A channel. -/
def lrChan (c : Nat) (s : Mach) : LrChan := sget {} s.lr.chans c
/-- A channel replaced. -/
def setLrChan (c : Nat) (x : LrChan) (s : Mach) : Mach :=
  { s with lr := { s.lr with chans := sput {} s.lr.chans c x } }

/-- R199: the bound in force for a channel. -/
def lrBoundOf (c : Nat) (s : Mach) : Nat :=
  if c < 188 then obj Obj.LR_BOUND_K s else if c < 256 then 0 else (ioBound c s.ldr.inUse).getD 0

/-- One sample recorded; a block that begins takes the bound in force. -/
def lrRecord (c : Nat) (x : Int) (s : Mach) : Mach :=
  let ch := lrChan c s
  let ch := if ch.buf = [] then { ch with k := lrBoundOf c s, kPrior := lrBoundOf c s, split := 0 } else ch
  setLrChan c { ch with buf := x :: ch.buf, count := ch.count + 1, last := x } s

/-- R199: a new LR_BOUND_K at a step boundary: the block in progress splits. -/
def lrSplit (s : Mach) : Mach :=
  each (List.range 188) (fun c s =>
    let ch := lrChan c s
    let k := lrBoundOf c s
    if ch.buf = [] ∨ ch.k = k then s
    else setLrChan c { ch with kPrior := ch.k, k := k, split := min 79 (ch.buf.length % 80) } s) s

/-- LONG_RECORD_BLOCK_CLOSE (R197): the oldest 80 buffered samples are coded over the oldest slot; a lost buffer gives a
lost block. -/
def cmdLongRecordBlockClose (c : Nat) (s : Mach) : Mach :=
  let ch := lrChan c s
  if ch.buf.length < 80 then s
  else
    let blk := ch.buf.reverse.take 80
    let key := c * 131072 + ch.blocks % 131072
    let s := { s with lr := { s.lr with
        slots := sput 0 s.lr.slots key (lrEncode ch.k ch.kPrior ch.split ch.blocks blk (sget 0 s.lr.slots key))
        lost := sput false s.lr.lost key ch.lost } }
    let k := lrBoundOf c s
    setLrChan c { ch with
      buf := ch.buf.take (ch.buf.length - 80)
      blocks := ch.blocks + 1
      k := k
      kPrior := k
      split := 0
      lost := false } s

/-- R200: what a read of the sample with index `i` (0 for the first sample since power-up) finds for a tick whose snapshot
took the channel as `snap`: a value, or none where its block is lost; `none` outside where the channel no longer or not
yet holds it. What was in the ingest buffer at the snapshot is read as it was there. -/
def lrReadAt (snap : LrChan) (c i : Nat) (s : Mach) : Option (Option Int) :=
  let ch := lrChan c s
  let key := c * 131072 + i / 80 % 131072
  if i < ch.floor ∨ snap.count ≤ i then none
  else if snap.blocks ≤ i / 80 then
    let lost := snap.lost || (if ch.blocks ≤ i / 80 then ch.lost else sget false s.lr.lost key)
    some (if lost then none else snap.buf[snap.count - 1 - i]?)
  else if 131072 < ch.blocks - i / 80 then none
  else
    let b := sget 0 s.lr.slots key
    if sget false s.lr.lost key || !lrHeadOk b (i / 80) then some none
    else some ((lrDecode b)[i % 80]?)

/-- R200: a read of the channel as it stands. -/
def lrRead (c i : Nat) (s : Mach) : Option (Option Int) := lrReadAt (lrChan c s) c i s

/-- Whole joules of usable energy of a bank above its low limit (channels 189 and 190). -/
def lrEnergy (deep : Bool) (s : Mach) : Int := if deep then s.bnk.e.2 else s.bnk.e.1

/-- Channel 191: the bin number with TRK_STATE in bits [21:19]. -/
def lrPhase (s : Mach) : Int :=
  let t := match s.trk.st with
    | .search => 0 | .track => 1 | .locked => 2 | .holdover => 3 | .aperiodic => 4
  (s.trk.bin + t * 2 ^ 19 : Nat)

/-- R165: the samples taken together every 10 µs; the 1 kS/s channels take every hundredth. -/
def lrSamplePeriod (nth : Nat) (s : Mach) : Mach :=
  let s := each (List.range 100) (fun p s => lrRecord (16 + p) (phase p s).cur s) s
  let s := each (List.range 64) (fun t s => lrRecord (116 + t) (feeder t s).curr s) s
  let s := lrRecord 180 (aggNow s) s
  let s := lrRecord 181 (gridDraw s) s
  let s := lrRecord 182 s.cnv.banks.1.p s
  let s := lrRecord 183 s.cnv.banks.2.p s
  let s := lrRecord 184 s.cnv.ffGrant s
  let s := lrRecord 185 s.arb.corr s
  let s := lrRecord 186 (committed s.trk.bin s) s
  let s := lrRecord 187 (baseB s.trk.bin s) s
  let s := lrRecord 191 (lrPhase s) s
  if nth % 100 = 0 then
    lrRecord 190 (lrEnergy true s) (lrRecord 189 (lrEnergy false s) (lrRecord 188 (capForce s) s))
  else s

/-- R165: the sense channels of one set, 1 LSB each. -/
def lrSense (samples : Nat → Nat) (s : Mach) : Mach :=
  each (List.range 16) (fun c s => lrRecord c (samples c) s) s

end Sys2Proof.Machine
end

