-- ==== Sys2Proof/Machine/Units.lean ====
section
/-! DEFINITION. The arithmetic of the carts, scan units and vector units (R184 to R186, R192 to R196): binary32 with one
rounding, MX blocks, block products, recurrences and the vector functions. -/

namespace Sys2Proof

/-! ### Binary32 with one rounding (R185) -/

/-- The value times `2^x`, exact. -/
def Fv.scale (x : Int) : Fv → Fv
  | .fin n m e => .fin n m (e + x)
  | v => v

/-- Fused multiply-add, rounded once. -/
def Fv.fma32 (a b c : Fv) : Fv := r32 ((a.mulExact b).addExact c)

/-- A quotient of magnitudes with a sticky last bit: at least 28 bits before it. -/
def ratio (neg : Bool) (m : Nat) (e : Int) (l : Nat) (f : Int) : Fv :=
  let k := 28 + Nat.log2 l
  let t := (m <<< k) / l
  .fin neg (2 * t + if (m <<< k) % l = 0 then 0 else 1) (e - f - k - 1)

/-- Division, rounded once. -/
def Fv.div32 (a b : Fv) : Fv :=
  match a, b with
  | .nan, _ => .nan
  | _, .nan => .nan
  | .inf _, .inf _ => .nan
  | .inf n, .fin k _ _ => .inf (n != k)
  | .fin n _ _, .inf k => .fin (n != k) 0 0
  | .fin n m e, .fin k l f =>
    if l = 0 then (if m = 0 then .nan else .inf (n != k)) else r32 (ratio (n != k) m e l f)

/-- The integer square root below `2^k`, from the bits above bit `k` found so far. -/
def rootFrom (n : Nat) : Nat → Nat → Nat
  | 0, r => r
  | k + 1, r => let t := r + 2 ^ k; rootFrom n k (if t * t ≤ n then t else r)

/-- Square root, rounded once; of a negative value a NaN. -/
def Fv.sqrt32 : Fv → Fv
  | .nan => .nan
  | .inf n => if n then .nan else .inf false
  | .fin n m e =>
    if m = 0 then .fin n 0 0
    else if n then .nan
    else
      let k := 60 + (e % 2).toNat
      let x := m <<< k
      let r := rootFrom x (Nat.log2 x / 2 + 1) 0
      r32 (.fin false (2 * r + if r * r = x then 0 else 1) ((e - k) / 2 - 1))

/-- binary32 rounded to BF16 (Table 7.3). -/
def toBf16 (v : Fv) : Nat := fpEncode 8 8 v
/-- BF16 to value: bits 31 to 16 of a binary32. -/
def bf16 (w : Nat) : Fv := f32 (w % 65536 * 65536)

/-! ### MX blocks (R192, Table 7.5) -/

/-- Significant bits (the hidden one among them) and exponent bits of a floating-point element; INT8 has none. -/
def MxElem.shape : MxElem → Nat × Nat
  | .e4m3 => (4, 4) | .e5m2 => (3, 5) | .e3m2 => (3, 3) | .e2m3 => (4, 2) | .e2m1 => (2, 2) | .int8 => (8, 0)
/-- emax. -/
def MxElem.emax : MxElem → Int
  | .e4m3 => 8 | .e5m2 => 15 | .e3m2 => 4 | .e2m3 => 2 | .e2m1 => 2 | .int8 => 0
/-- The code of the largest finite magnitude. -/
def MxElem.top : MxElem → Nat
  | .e4m3 => 0x7E | .e5m2 => 0x7B | .e3m2 => 0x1F | .e2m3 => 0x1F | .e2m1 => 0x7 | .int8 => 127
/-- Width of an element in bits. -/
def MxElem.bits (f : MxElem) : Nat := f.shape.1 + f.shape.2
/-- Bytes of a block of 32 elements with its scale (Table 6.2). -/
def MxElem.bytes (f : MxElem) : Nat := 1 + 4 * f.bits

/-- The value of an element's code. -/
def MxElem.value (f : MxElem) (w : Nat) : Fv :=
  match f with
  | .int8 => (Fv.ofInt (toSigned 8 w)).scale (-6)
  | .e5m2 => fpDecode 3 5 w
  | f =>
    if f = .e4m3 ∧ w % 128 = 0x7F then .nan
    else
      let p := f.shape.1
      let frac := w % 2 ^ (p - 1)
      let ex := (w >>> (p - 1)) % 2 ^ f.shape.2
      let qmin : Int := 3 - (2 : Int) ^ (f.shape.2 - 1) - p
      let neg := w.testBit (f.bits - 1)
      if ex = 0 then .fin neg frac qmin else .fin neg (frac + 2 ^ (p - 1)) (qmin + ex - 1)

/-- A finite value rounded to an element, to nearest even, saturating at the largest finite magnitude of either sign. -/
def MxElem.round (f : MxElem) : Fv → Nat
  | .fin neg m e =>
    if f = .int8 then
      let t := min (roundEven m e (-6)) f.top
      if neg then (256 - t) % 256 else t
    else
      let p := f.shape.1
      let qmin : Int := 3 - (2 : Int) ^ (f.shape.2 - 1) - p
      let q := max (e + Nat.log2 m - (p - 1 : Nat)) qmin
      let t := if m = 0 then 0 else min ((q - qmin).toNat * 2 ^ (p - 1) + roundEven m e q) f.top
      (if neg then 2 ^ (f.bits - 1) else 0) + t
  | _ => 0

/-- One MX block: its E8M0 scale byte and the codes of its 32 elements. -/
structure MxBlock where
  scale : Nat
  elems : List Nat
  deriving DecidableEq, Repr

/-- `floor_log2` of a magnitude; none of 0. -/
def Fv.log2Floor : Fv → Option Int
  | .fin _ m e => if m = 0 then none else some (e + Nat.log2 m)
  | _ => none

/-- R192: binary32 values to one block. -/
def mxConvert (f : MxElem) (v : List Fv) : MxBlock :=
  if v.any fun a => a.isNan || a.isInf then ⟨0xFF, v.map fun _ => 0⟩
  else
    let x := match v.filterMap Fv.log2Floor with
      | [] => -127
      | l => max (l.foldl max (l.headD 0) - f.emax) (-127)
    ⟨(x + 127).toNat, v.map fun a => f.round (a.scale (-x))⟩

/-- The values that a block's elements stand for; a scale of 0xFF makes each a NaN. -/
def MxBlock.values (f : MxElem) (b : MxBlock) : List Fv :=
  if b.scale = 0xFF then b.elems.map fun _ => .nan
  else b.elems.map fun w => (f.value w).scale ((b.scale : Int) - 127)

/-- A block in memory: the scale byte, then the elements from the most significant bit on. -/
def MxBlock.toBytes (f : MxElem) (b : MxBlock) : List Byte :=
  BitVec.ofNat 8 b.scale
    :: Sys2Proof.toBytes (4 * f.bits) ((b.elems.take 32).foldl (fun a w => a * 2 ^ f.bits + w % 2 ^ f.bits) 0)

/-- The block that bytes of memory hold. -/
def mxOfBytes (f : MxElem) (l : List Byte) : MxBlock :=
  let w := beNat (l.drop 1)
  ⟨(l.headD 0).toNat, (List.range 32).map fun i => (w >>> (f.bits * (31 - i))) % 2 ^ f.bits⟩

/-! ### Products in the carts (R194) -/

/-- The sum of the exact products of two blocks' elements, rounded once, and then times `2^(Xa + Xb)`. -/
def blockProduct (f : MxElem) (a b : MxBlock) : Fv :=
  if a.scale = 0xFF ∨ b.scale = 0xFF then .nan
  else
    let sum := (a.elems.zip b.elems).foldl (fun (s : Fv) q => s.addExact ((f.value q.1).mulExact (f.value q.2)))
      (.fin false 0 0)
    r32 ((r32 sum).scale ((a.scale : Int) + b.scale - 254))

/-- Bytes of 32 elements of a cart format (Table 6.2). -/
def CartFormat.bytes : CartFormat → Nat
  | .mx f => f.bytes
  | _ => 64

/-- What one pair of blocks of 32 elements adds to the accumulator: one block product, or every product as it forms. -/
def cartTerms (f : CartFormat) (a b : List Byte) : List Fv :=
  let each := fun (g : Nat → Fv) => (List.range 32).map fun i => r32 ((g (beNat ((a.drop (2 * i)).take 2))).mulExact
    (g (beNat ((b.drop (2 * i)).take 2))))
  match f with
  | .mx m => [blockProduct m (mxOfBytes m a) (mxOfBytes m b)]
  | .bf16 => each bf16
  | .fp16 => each f16

/-- R194: the block pairs added to the accumulator in the order they reach it. -/
def cartDot (f : CartFormat) (pairs : List (List Byte × List Byte)) (acc : Fv) : Fv :=
  pairs.foldl (fun a q => (cartTerms f q.1 q.2).foldl Fv.add32 a) acc

/-! ### Scan lanes (R195, R196) -/

/-- R195: one step of a lane. -/
def scanStep (h a b : Fv) : Fv := a.fma32 h b

/-- The rounded sum of two values and its exact error. -/
def twoSum (a b : Fv) : Fv × Fv :=
  let s := a.add32 b
  let t := s.sub32 a
  (s, (a.sub32 (s.sub32 t)).add32 (b.sub32 t))

/-- R196: one compensated step; the lane's value is the unevaluated sum of two binary32 values. -/
def scanStep2 (h : Fv × Fv) (a b : Fv) : Fv × Fv :=
  let p := a.mul32 h.1
  let e := a.fma32 h.2 (a.fma32 h.1 p.neg)
  let q := twoSum p b
  twoSum q.1 (q.2.add32 e)

/-- A lane over its history, read out as one binary32 value. -/
def scanLane (comp : Bool) (h0 : Fv) (steps : List (Fv × Fv)) : Fv :=
  if comp then
    let h := steps.foldl (fun h q => scanStep2 h q.1 q.2) (h0, .fin false 0 0)
    h.1.add32 h.2
  else steps.foldl (fun h q => scanStep h q.1 q.2) h0

/-! ### Vector functions (R186, Table 7.2) -/

/-- Fraction bits of the working precision. -/
def vecBits : Nat := 256

/-- `2 * atanh(n / d)` in units of `2^-256`, from the first `k` terms of its series. -/
def atanhFix (n d : Int) (k : Nat) : Int :=
  let z := n * 2 ^ vecBits / d
  let z2 := z * z / 2 ^ vecBits
  2 * ((List.range k).foldl (fun (a : Int × Int) (i : Nat) => (a.1 + a.2 / (2 * i + 1), a.2 * z2 / 2 ^ vecBits)) (0, z)).1

/-- ln 2 in units of `2^-256`. -/
def ln2Fix : Int := atanhFix 1 3 90

/-- `e^y` for `y` in units of `2^-256`, as `t * 2^(i - 256)`. -/
def expFix (y : Int) : Int × Int :=
  let i := y / ln2Fix
  let r := y - i * ln2Fix
  (((List.range 64).foldl (fun (a : Int × Int) (k : Nat) => (a.1 + a.2, a.2 * r / 2 ^ vecBits / (k + 1))) (0, 2 ^ vecBits)).1, i)

/-- A finite value of magnitude below `2^10` in units of `2^-256`. -/
def Fv.fix : Fv → Int
  | .fin n m e => (if n then -1 else 1) * ((m <<< (e + vecBits).toNat : Nat) : Int)
  | _ => 0

/-- A magnitude of at least `k`. -/
def Fv.atLeast (k : Nat) (v : Fv) : Bool :=
  match v with
  | .fin _ m e => decide (m ≠ 0 ∧ (11 ≤ e + Nat.log2 m ∨ (k : Int) * 2 ^ vecBits ≤ (Fv.fin false m e).fix))
  | .inf _ => true
  | .nan => false

/-- A value known but for its last bit of the working precision. -/
def near (t i : Int) : Fv := .fin false (2 * t.toNat + 1) (i - vecBits - 1)

/-- 2^x. -/
def exp2Near (v : Fv) : Fv :=
  if v.atLeast 200 then (if v.isNeg then .fin false 1 (-300) else .fin false 1 200)
  else
    let x := v.fix
    let i := x / 2 ^ vecBits
    let f := x % 2 ^ vecBits
    if f = 0 then .fin false 1 i
    else
      let r := expFix (f * ln2Fix / 2 ^ vecBits)
      near r.1 (r.2 + i)

/-- log2 of a positive value. -/
def log2Near : Fv → Fv
  | .fin _ m e =>
    let l := Nat.log2 m
    let i := e + l
    if m = 2 ^ l then Fv.ofInt i
    else
      let t := i * 2 ^ vecBits + atanhFix ((m : Int) - 2 ^ l) ((m : Int) + 2 ^ l) 90 * 2 ^ vecBits / ln2Fix
      .fin (decide (t < 0)) (2 * t.natAbs + 1) (-(vecBits : Int) - 1)
  | v => v

/-- tanh of a finite value; a magnitude of 10 or more gives 1. -/
def tanhNear (v : Fv) : Fv :=
  if v.atLeast 10 then .fin v.isNeg 1 0
  else
    let r := expFix (2 * v.abs.fix)
    let n : Int := r.1 * 2 ^ r.2.toNat
    match Fv.ofRat 24 (n - 2 ^ vecBits) (n + 2 ^ vecBits).toNat with
    | .fin _ m e => .fin (match v with | .fin s _ _ => s | _ => false) m e
    | x => x

/-- The logistic function of a finite value; 20 and above give 1, -110 and below 0. -/
def sigmoidNear (v : Fv) : Fv :=
  if v.isNeg = false ∧ v.atLeast 20 then .fin false 1 0
  else if v.isNeg ∧ v.atLeast 110 then .fin false 0 0
  else
    let r := expFix v.abs.fix
    let n : Int := r.1 * 2 ^ r.2.toNat
    Fv.ofRat 24 (if v.isNeg then 2 ^ vecBits else n) (n + 2 ^ vecBits).toNat

/-- 1 / √v of a positive value. -/
def rsqrtNear : Fv → Fv
  | .fin _ m e =>
    let l := m <<< (e % 2).toNat
    let x := 2 ^ 200 / l
    let r := rootFrom x 101 0
    .fin false (2 * r + if r * r * l = 2 ^ 200 then 0 else 1) (-(e - e % 2) / 2 - 101)
  | v => v

/-- A binary32 value moved by `j` quarters of its last place, `j` limited to `k` places either way. -/
def slipped (k : Nat) (j : Int) (v : Fv) : Fv :=
  match r32 v with
  | .fin n m e =>
    let q := max (e + Nat.log2 m - 23) (-149)
    let d := max (-(4 * k : Int)) (min (4 * k) j)
    r32 ((Fv.fin n m e).addExact ((Fv.ofInt d).scale (q - 2)))
  | x => x

/-- Table 7.2: what the vector function unit answers: the special inputs of the table, a finite input within the accuracy
of its row (`slip` says how far), and `open_` for the inputs that the table leaves out. -/
def vecFn1 (f : VecFn) (slip : Int) (open_ : Fv) (v : Fv) : Fv :=
  let zero := match v with | .fin _ m _ => decide (m = 0) | _ => false
  match f, v with
  | _, .nan => open_
  | .tanh, .inf n => .fin n 1 0
  | .sigmoid, .inf n => .fin false (if n then 0 else 1) 0
  | .log2, .inf n => if n then .nan else open_
  | .rsqrt, .inf n => if n then .nan else open_
  | _, .inf _ => open_
  | .recip, .fin n m e => if zero then .inf n else slipped 1 slip (ratio n 1 0 m e)
  | .rsqrt, .fin n _ _ => if zero then .inf n else if n then .nan else slipped 1 slip (rsqrtNear v)
  | .exp2, _ => slipped 2 slip (exp2Near v)
  | .log2, .fin n _ _ => if zero then .inf true else if n then .nan else slipped 2 slip (log2Near v)
  | .tanh, _ => slipped 2 slip (tanhNear v)
  | .sigmoid, _ => slipped 2 slip (sigmoidNear v)

/-- Elementwise arithmetic of the vector unit (R157, R185). -/
def vecArith (f : VecOp) (a b c : Fv) : Fv :=
  match f with
  | .add => a.add32 b
  | .sub => a.sub32 b
  | .mul => a.mul32 b
  | .fma => a.fma32 b c
  | .div => a.div32 b
  | .sqrt => a.sqrt32

end Sys2Proof
end

