-- ==== Sys2Proof/Machine/Coaches.lean ====
section
/-! DEFINITION. The Forecast Engine's coaches and memory (chapter 6): carts and the cart map, the regions of HBM, the Depot,
coach SRAM, and the operations that a coach's core issues on its units. -/

namespace Sys2Proof.Machine

/-! ### Coaches and carts (R174 to R176, R182, R212) -/

/-- Coach `c`. -/
def coach (c : Nat) (s : Mach) : Coach := sget {} s.eng.coaches c
/-- Coach `c` replaced. -/
def setCoach (c : Nat) (x : Coach) (s : Mach) : Mach :=
  { s with eng := { s.eng with coaches := sput {} s.eng.coaches c x } }

/-- R175: the cart that logical cart `l` has to itself: the one of its number, or the spare that replaced it. -/
def ownCart (l : Nat) (x : Coach) : Option Nat :=
  if x.failed.testBit l = false then some l
  else if x.spareFor = l ∧ x.failed.testBit 32 = false then some 32
  else none

/-- The working carts of a coach: its logical carts with a working cart of their own. -/
def workingCarts (x : Coach) : Nat :=
  32 - popBelow x.failed 32 + (if x.spareFor ≠ 0x3F ∧ x.failed.testBit 32 = false then 1 else 0)

/-- R212: the cart map: the cart on which logical cart `l` runs; orphans, in ascending order, share the carts of the
logical carts that have one of their own, in ascending order. -/
def cartMap (l : Nat) (x : Coach) : Option Nat :=
  if x.removed then none
  else match ownCart l x with
    | some k => some k
    | none => ((List.range 32).filterMap fun j => ownCart j x)[((List.range l).filter fun j => (ownCart j x).isNone).length]?

/-- R175: the spare cart may replace another. -/
def spareFree (x : Coach) : Bool := decide (x.spareFor = 0x3F) && !x.failed.testBit 32

/-- Coaches in service with their working carts. -/
def serviceCarts (s : Mach) : List (Nat × Nat) :=
  ((List.range 64).filter fun c => !(coach c s).removed).map fun c => (c, workingCarts (coach c s))

/-- R213: the loaded model's logical coaches, each with the coach in service it is paired with. -/
def coachPairs (s : Mach) : List (Nat × Nat) :=
  ((logicalOrder s.ldr.inUse).zip (serviceOrder (serviceCarts s))).map fun q => (q.1, q.2.1)

/-- The logical coach that coach `c` carries. -/
def logicalOf (c : Nat) (s : Mach) : Option Nat := ((coachPairs s).find? fun q => decide (q.2 = c)).map fun q => q.1

/-- The objects that count carts and coaches (Table 6.13, R401). -/
def countCarts (s : Mach) : Mach :=
  let l := (List.range 64).map fun c => coach c s
  let live := l.filter fun x => !x.removed
  let spare := (live.filter spareFree).length
  let s := setObj Obj.ENG_CARTS_WORKING (live.foldl (fun a x => a + workingCarts x) 0) s
  let s := setObj Obj.ENG_SPARE_CARTS spare s
  setObj Obj.ENG_COACHES_IN_SERVICE live.length s

/-! ### HBM (R162, Table 6.5a) -/

/-- The first granule of the model region; the regions follow one another in the table's order. -/
def modelGranule : Nat := 70778880
/-- Where a slot begins in the model region: the reserve slot of 2 GiB, then two model slots of 26 GiB. -/
def slotBase (k : Nat) : Nat := if k = 0 then 0 else 2147483648 + (k - 1) * 27917287424
/-- Bytes of a slot. -/
def slotSize (k : Nat) : Nat := if k = 0 then 2147483648 else 27917287424
/-- The slot of the model that runs. -/
def slotNow (s : Mach) : Nat := if s.eng.active = 2 then 0 else s.ldr.slot

/-- R164, R204: granule `g` of the model region has the loader's bytes again; what the container does not hold stays
unreadable until it is written. -/
def restoreGranule (g : Nat) (s : Mach) : Mach :=
  let a := g * 256
  let base := slotBase s.ldr.slot
  if s.ldr.loaded ∧ base ≤ a ∧ a < base + slotSize s.ldr.slot then
    let w := ((firstOf 4 s.ldr.inUse).drop (a - base)).take 256
    { s with eng := { s.eng with
        hbm := sputRun 0 s.eng.hbm a w
        unread := sput false s.eng.unread g (decide (w.length < 256)) } }
  else { s with eng := { s.eng with unread := sput false s.eng.unread g false } }

/-! ### The Depot (R161) -/

/-- The slice and set of a line: bits 10 to 7 of its address choose the slice. -/
def depotKey (line : Nat) : Nat := line % 65536

/-- The lines of a set, the latest used first. -/
def depotSet (line : Nat) (s : Mach) : List DepotLine := sget [] s.eng.depot (depotKey line)

/-- The set of a line replaced. -/
def putDepot (line : Nat) (l : List DepotLine) (s : Mach) : Mach :=
  { s with eng := { s.eng with depot := sput [] s.eng.depot (depotKey line) l } }

/-- The Depot holds a line. -/
def depotHit (line : Nat) (s : Mach) : Option DepotLine := (depotSet line s).find? fun x => decide (x.line = line)

/-- A line that leaves the Depot is written back if HBM is older. -/
def writeBack (x : DepotLine) (s : Mach) : Mach :=
  if x.dirty then { s with eng := { s.eng with
    hbm := sputRun 0 s.eng.hbm (x.line * 128) x.bytes
    unread := sput false s.eng.unread (x.line / 2) false } }
  else s

/-- A line is used: it is filled from HBM if absent, and of more than 8 lines the least recently used leaves. -/
def depotTouch (line : Nat) (s : Mach) : Mach :=
  let l := depotSet line s
  match depotHit line s with
  | some x => putDepot line (x :: l.filter fun y => decide (y.line ≠ line)) s
  | none =>
    let x : DepotLine := ⟨line, false, sgetRun 0 s.eng.hbm (line * 128) 128⟩
    putDepot line (x :: l.take 7) (match l.drop 7 with
      | y :: _ => writeBack y s
      | [] => s)

/-- A transfer allocates its line unless it bypasses the Depot or HBM cannot give it. -/
def depotFill (bypass : Bool) (line : Nat) (s : Mach) : Mach :=
  if bypass || sget false s.eng.unread (line / 2) then s else depotTouch line s

/-- Lines of the byte range `[lo, hi)` of the model region are dropped unwritten. -/
def depotDrop (lo hi : Nat) (s : Mach) : Mach :=
  let keep := fun (x : DepotLine) => !decide (lo ≤ x.line * 128 ∧ x.line * 128 < hi)
  let l := (s.eng.depot.map fun p => (p.1, p.2.filter keep)).filter fun p => decide (p.2 ≠ [])
  { s with eng := { s.eng with depot := l } }

/-- The byte at an address of the model region, as the Depot or else HBM holds it. -/
def hbmByte (a : Nat) (s : Mach) : Byte :=
  match depotHit (a / 128) s with
  | some x => x.bytes.getD (a % 128) 0
  | none => sget 0 s.eng.hbm a

/-- A byte that neither the Depot nor HBM can give. -/
def hbmLost (a : Nat) (s : Mach) : Bool := (depotHit (a / 128) s).isNone && sget false s.eng.unread (a / 256)

/-- One byte written at an address of the model region. -/
def hbmWrite (bypass : Bool) (a : Nat) (b : Byte) (s : Mach) : Mach :=
  let s := depotFill bypass (a / 128) s
  match depotHit (a / 128) s with
  | some x =>
    putDepot (a / 128) ((depotSet (a / 128) s).map fun y =>
      if y.line = x.line then { y with dirty := true, bytes := y.bytes.set (a % 128) b } else y) s
  | none => { s with eng := { s.eng with
      hbm := sput 0 s.eng.hbm a b
      unread := sput false s.eng.unread (a / 256) false } }

/-- A run of bytes written from an address on. -/
def hbmPut (bypass : Bool) : Nat → List Byte → Mach → Mach
  | _, [], s => s
  | a, b :: r, s => hbmPut bypass (a + 1) r (hbmWrite bypass a b s)

/-- R228: an address of the slot inside the adaptable parameters is relocated to the buffer in use. -/
def adaptMoved (o : Nat) (s : Mach) : Nat :=
  let c := s.ldr.inUse
  if s.eng.active = 1 ∧ mdlAdaptive c ∧ s.ldr.curBuf = 1 ∧ adaptOffset c ≤ o ∧ o < adaptOffset c + adaptBytes c then
    o + adaptBytes c
  else o

/-- The address in the model region of byte `o` of the slot in use. -/
def hbmAt (o : Nat) (s : Mach) : Nat := slotBase (slotNow s) + adaptMoved o s

/-! ### Coach SRAM -/

/-- Bytes placed in coach SRAM; words written whole are valid again (R177). -/
def sramPut (c o : Nat) (l : List Byte) (s : Mach) : Mach :=
  { s with eng := { s.eng with
      sram := sputRun 0 s.eng.sram (c * 2 ^ 22 + o) l
      sramBad := sclear s.eng.sramBad (c * 2 ^ 19 + (o + 7) / 8) (c * 2 ^ 19 + (o + l.length) / 8) } }

/-- `n` bytes of a coach's SRAM; none past its end or from an invalid word. -/
def sramGet (c o n : Nat) (s : Mach) : Option (List Byte) :=
  if 2 ^ 22 < o + n ∨ srange s.eng.sramBad (c * 2 ^ 19 + o / 8) (c * 2 ^ 19 + (o + n + 7) / 8) ≠ [] then none
  else some (sgetRun 0 s.eng.sram (c * 2 ^ 22 + o) n)

/-- R177: an uncorrectable error invalidates a word of coach SRAM. -/
def sramLose (c w : Nat) (s : Mach) : Mach :=
  { s with eng := { s.eng with sramBad := sput false s.eng.sramBad (c * 2 ^ 19 + w) true } }

/-- R209: the coaches' SRAM images of a container, each in the coach that its logical coach is paired with; `only` limits
the bytes to invalid words. -/
def placeImages (only : Bool) (s : Mach) : Mach :=
  let c := s.ldr.inUse
  each (coachPairs s) (fun q s =>
    match coachSection 5 q.1 c with
    | none => s
    | some l =>
      if only then
        each ((srange s.eng.sramBad (q.2 * 2 ^ 19) ((q.2 + 1) * 2 ^ 19)).map fun p => p.1 - q.2 * 2 ^ 19) (fun w s =>
          sramPut q.2 (8 * w) ((l.drop (8 * w)).take 8) s) s
      else sramPut q.2 0 l s) s

/-! ### Operations of a coach's core (R157, R158) -/

/-- binary32 words as values. -/
def fvOf (l : List Byte) : List Fv := (List.range (l.length / 4)).map fun i => f32 (beNat ((l.drop (4 * i)).take 4))
/-- Values as binary32 words. -/
def bytesOf (l : List Fv) : List Byte := l.flatMap fun v => toBytes 4 (toF32 v)

/-- R178: the order in which `n` block sums reach an accumulator; the manual fixes none. -/
def arrival (n : Nat) (s : Mach) : List Nat :=
  let key := fun (i : Nat) => (Config.free 16 (s.free + i)).toNat
  sortBy (fun i j => decide (key i < key j) || (decide (key i = key j) && decide (i < j))) (List.range n)

/-- What an operation leaves at which offset of the coach's SRAM, and how many free values it draws; nothing where an
operand cannot be read or no cart serves it. -/
def opResult (c : Nat) (s : Mach) : EngOp → Option (Nat × List Byte × Nat)
  | .store dst data => some (dst.toNat, data, 0)
  | .dot k f n a b acc =>
    match cartMap k.val (coach c s), sramGet c a.toNat (n.toNat * f.bytes) s, sramGet c b.toNat (n.toNat * f.bytes) s,
        sramGet c acc.toNat 4 s with
    | some _, some x, some y, some z =>
      let block := fun (l : List Byte) (i : Nat) => (l.drop (i * f.bytes)).take f.bytes
      some (acc.toNat, bytesOf [cartDot f ((arrival n.toNat s).map fun i => (block x i, block y i)) (f32 (beNat z))], n.toNat)
    | _, _, _, _ => none
  | .scan comp n a b h =>
    match sramGet c a.toNat (4 * n.toNat) s, sramGet c b.toNat (4 * n.toNat) s, sramGet c h.toNat 4 s with
    | some x, some y, some z => some (h.toNat, bytesOf [scanLane comp (f32 (beNat z)) ((fvOf x).zip (fvOf y))], 0)
    | _, _, _ => none
  | .fn f n src dst =>
    (sramGet c src.toNat (4 * n.toNat) s).map fun x =>
      (dst.toNat, bytesOf (((fvOf x).zip (List.range n.toNat)).map fun q =>
        vecFn1 f (toSigned 8 (Config.free 8 (s.free + 2 * q.2)).toNat) (f32 (Config.free 32 (s.free + 2 * q.2 + 1)).toNat) q.1),
        2 * n.toNat)
  | .arith f n a b d dst =>
    match sramGet c a.toNat (4 * n.toNat) s, sramGet c b.toNat (4 * n.toNat) s, sramGet c d.toNat (4 * n.toNat) s with
    | some x, some y, some z =>
      some (dst.toNat, bytesOf ((((fvOf x).zip (fvOf y)).zip (fvOf z)).map fun q => vecArith f q.1.1 q.1.2 q.2), 0)
    | _, _, _ => none
  | .toMx f n src dst =>
    (sramGet c src.toNat (128 * n.toNat) s).map fun x =>
      (dst.toNat, (List.range n.toNat).flatMap fun i => (mxConvert f (fvOf ((x.drop (128 * i)).take 128))).toBytes f, 0)
  | .fromMx f n src dst =>
    (sramGet c src.toNat (n.toNat * f.bytes) s).map fun x =>
      (dst.toNat, (List.range n.toNat).flatMap fun i =>
        bytesOf ((mxOfBytes f ((x.drop (i * f.bytes)).take f.bytes)).values f), 0)

/-- One operation of coach `c`; a coach out of service, or a result past the end of its SRAM, has none. -/
def engOp (c : Nat) (op : EngOp) (s : Mach) : Mach :=
  if (coach c s).removed then s
  else match opResult c s op with
    | some (o, l, n) =>
      let s : Mach := { s with free := s.free + n }
      if 2 ^ 22 < o + l.length then s else sramPut c o l s
    | none => s

end Sys2Proof.Machine
end

