-- ==== Sys2Proof/Machine/Engine.lean ====
section
/-! DEFINITION. The Forecast Engine (chapter 6): the tick, its publication and rows, stream descriptors, failures, HBM
repair and background work, and the reserve model's plan (R226). -/

namespace Sys2Proof.Machine

/-! ### State of the engine -/

/-- The engine is powered for forecasting: the module is in RUN or DRAIN and executes the loop. -/
def engRuns (s : Mach) : Bool := decide (s.mode = .run ∨ s.mode = .drain) && loops s

/-- 0x2400.00 (Table 6.13). -/
def engState (s : Mach) : Nat :=
  if engRuns s = false then 0
  else if s.eng.active = 0 then 1
  else if s.eng.suspended then 3
  else if s.eng.active = 2 then 4
  else 2

/-- Table 6.12: the record of coach `c`; its temperature is given. -/
def coachRecord (c temp : Nat) (s : Mach) : Nat :=
  let x := coach c s
  let st := if x.removed then 3 else if engRuns s = false then 0 else if workingCarts x < 32 then 2 else 1
  st <<< 125 ||| (if st = 0 ∨ x.removed then 0 else workingCarts x) <<< 119 ||| x.failed <<< 86 ||| x.spareFor <<< 80
    ||| (min x.sramCe 0xFFFF) <<< 64 ||| (min x.sramUe 0xFFFF) <<< 48 ||| (x.rounds % 65536) <<< 32 ||| (temp % 256) <<< 24

/-! ### The correction (R17, R92, R168) -/

/-- R92: a published correction as the arbiter takes it. -/
def clampCorr (c : Int) (s : Mach) : Int := clampI c (objI Obj.ARB_C_MIN_W 32 s) (objI Obj.ARB_C_MAX_W 32 s)

/-- R179: a correction published by the engine (kind 16), or limited (17), goes to the partner with its instant. -/
def forwardCorr (kind : Nat) (c : Int) (s : Mach) : Mach :=
  if feeds s then
    (sendBulk bulkCorr (toBytes 4 s.ptn.open_.no ++ toBytes 4 (s.now - s.ptn.open_.start) ++ toBytes 1 kind
      ++ toBytes 4 (ofSigned 32 c)) s).2
  else s

/-- Table 1.2: from the next bin the lesser of the last correction and 0 W. -/
def limitNow (s : Mach) : Mach :=
  { s with arb := { s.arb with corrNext := some (min (s.arb.corrNext.getD s.arb.corr) 0) } }

/-- The limit of Table 1.2 on the module that drives; a STANDBY module takes the ACTIVE's (R179). -/
def limitCorr (s : Mach) : Mach :=
  if drives s then
    let c := s.arb.corrNext.getD s.arb.corr
    limitNow (if 0 < c then forwardCorr 17 0 s else s)
  else s

/-- R189: binary32 W to I32 W toward minus infinity; NaN gives the most negative value. -/
def corrOf (w : Nat) : Int :=
  match f32 w with
  | .nan => -2147483648
  | .inf neg => if neg then -2147483648 else 2147483647
  | v => clampI (v.floorMul 1) (-2147483648) 2147483647

/-! ### The tick (R166 to R168) -/

/-- The length of a tick, ns. -/
def tickNs (s : Mach) : Nat := obj Obj.ENG_TICK_US s * 1000

/-- R167. -/
def snapshot (s : Mach) : Snapshot :=
  { st := s.trk.st
    step := s.trk.step
    bin := s.trk.bin
    n := s.trk.n
    wCode := s.trk.wCode
    d := s.trk.d
    cap := capForce s
    corr := objI Obj.ENG_CORRECTION_W 32 s
    shadow := s.tt.shadow
    writer := obj Obj.TT_WRITER s
    chans := s.lr.chans
    wraps := s.eng.wraps
    state := s.eng.state }

/-- R224: one warm-up tick has ended. -/
def warmTick (s : Mach) : Mach :=
  if s.eng.warm = 0 then s
  else
    let w := s.eng.warm - 1
    setObj Obj.MDL_WARMUP_LEFT w { s with eng := { s.eng with warm := w } }

/-- A tick ends without results: counted, counted off the warm-up (R224), and C is limited (R168) unless the tick is none
that publishes (R180). -/
def dropTick (t : Tick) (s : Mach) : Mach :=
  let s := warmTick (countEv 257 (incObj Obj.ENG_TICKS_ABANDONED s))
  if t.mute then s else limitCorr s

/-- R168: the tick has reached its end; without a publication point it is abandoned and ENGINE_DEADLINE pulses. -/
def endTick (s : Mach) : Mach :=
  match s.eng.tick with
  | none => s
  | some t =>
    let s := { s with eng := { s.eng with tick := none } }
    if t.done then s else pulse 22 0 0 (if t.dead then s else dropTick t s)

/-- Table 1.2: the grid restarts or another model starts: a tick that could still have published is abandoned. -/
def cutTick (s : Mach) : Mach :=
  match s.eng.tick with
  | none => s
  | some t => if t.done || t.dead then { s with eng := { s.eng with tick := none } } else endTick s

/-! ### Rows of the tick and the header (R169, R170) -/

/-- R170: the header follows the snapshot's N and w while the engine may write an OPEN page. -/
def writeHeader (t : Tick) (s : Mach) : Mach :=
  let p := shadowPage s
  if p.count = t.snap.n ∧ p.width = t.snap.wCode ∨ obj Obj.TT_WRITER s ≠ 0 ∨ s.tt.shadow ≠ .opened ∨ drives s = false then s
  else
    let s := setShadow { p with count := t.snap.n, width := t.snap.wCode } s
    { s with eng := { s.eng with changed := true } }

/-- R177: words that an error invalidated are loaded again. -/
def reloadWords (s : Mach) : Mach := if s.eng.sramBad = [] then s else placeImages true s

/-- FORECAST_TICK_START (R166, R167): the next tick of the grid begins. -/
def cmdForecastTickStart (s : Mach) : Mach :=
  match s.eng.nextAt with
  | none => s
  | some at_ =>
    if engRuns s = false ∨ s.eng.active = 0 ∨ s.eng.suspended ∨ s.eng.copying ∨ s.now < at_ then s
    else
      let s := endTick s
      let t : Tick := { start := at_, stop := at_ + tickNs s, snap := snapshot s, rows := [], dead := false, moved := false
                        done := false, mute := !drives s }
      let s := reloadWords (writeHeader t s)
      countEv 256 (incObj Obj.ENG_TICK_COUNT
        { s with eng := { s.eng with tick := some t, nextAt := some (at_ + tickNs s), done := [] } })

/-- TICK_ABANDON (R168); a tick that was running when the loop stopped is dropped without a report (Table 1.6). -/
def cmdTickAbandon (s : Mach) : Mach :=
  match s.eng.tick with
  | none => s
  | some t =>
    if s.now < t.stop then s
    else if engRuns s then endTick s
    else { s with eng := { s.eng with tick := none } }

/-- R174, R177: the tick in progress is abandoned for a failure that its own bit reports. -/
def failTick (s : Mach) : Mach :=
  match s.eng.tick with
  | none => s
  | some t =>
    if t.done || t.dead then s
    else dropTick t { s with eng := { s.eng with tick := some { t with dead := true, rows := [] } } }

/-! ### Rows and the commit (R169 to R171) -/

/-- R169: a row of the tick replaces one written earlier. -/
def stageRow (b r : Nat) (s : Mach) : Mach :=
  match s.eng.tick with
  | some t =>
    if t.dead || t.done then s
    else { s with eng := { s.eng with tick := some { t with rows := sins t.rows b r } } }
  | none => s

/-- R169: the conditions under which a tick's rows are discarded. -/
def rowsDiscarded (t : Tick) (s : Mach) : Bool :=
  let p := shadowPage s
  decide (obj Obj.TT_WRITER s = 1) || decide (t.snap.shadow = .committed) || t.moved
    || decide (p.count ≠ t.snap.n ∨ p.width ≠ t.snap.wCode)

/-- R169, R206: the rows enter the shadow page, each with its ROW_CHECK. -/
def releaseRows (t : Tick) (s : Mach) : Mach :=
  let p := shadowPage s
  let l := t.rows.filter fun q => decide (q.1 < 262144)
  let rows := l.foldl (fun a q => sput rowReset a q.1 (rowChecked q.2)) p.rows
  let ch := decide (rows ≠ p.rows)
  let s := setShadow { p with rows := rows } s
  let s := countEvN 260 l.length (oAdd Obj.ENG_ROWS_RELEASED 0 0 l.length s)
  { s with eng := { s.eng with changed := s.eng.changed || ch } }

/-- ROW_RELEASE (R169): rows that waited for the end of COPYING. -/
def cmdRowRelease (s : Mach) : Mach :=
  match s.eng.held with
  | none => s
  | some t =>
    if s.tt.shadow ≠ .opened then s
    else
      let s := { s with eng := { s.eng with held := none } }
      writeHeader t (if rowsDiscarded t s then s else releaseRows t s)

/-- R391: control-pair tasks are suspended, so no shadow page is committed. -/
def tasksWait (s : Mach) : Bool := decide (s.life.pairWait ≠ [])

/-- R170: the engine commits the shadow page; validation follows. -/
def engineCommit (s : Mach) : Mach :=
  let lead := obj Obj.ENG_COMMIT_LEAD_US s * 1000
  if s.eng.changed && decide (s.tt.shadow = .opened) && s.tt.valid.isNone && decide (obj Obj.TT_WRITER s = 0)
      && decide (s.trk.st = .locked ∨ s.trk.st = .holdover) && decide (predicted s ≤ s.now + lead) && !tasksWait s then
    { s with tt := { s.tt with valid := some 0 } }
  else s

/-- R171: a committed page is OPEN again and the withdrawal counted; the partner, which holds the page, is told (R179). -/
def reopenPage (s : Mach) : Mach :=
  let s := if feedsWrites s then (sendBulk bulkPage [] s).2 else s
  countEv 259 (incObj Obj.ENG_COMMITS_WITHDRAWN
    { s with
      tt := { s.tt with shadow := .opened }
      eng := { s.eng with own := false, changed := true } })

/-- R171: the engine's commit is withdrawn, rows unchanged. -/
def withdrawCommit (s : Mach) : Mach :=
  let s := if s.tt.valid = some 0 then { s with tt := { s.tt with valid := none } } else s
  if s.tt.shadow = .committed ∧ s.eng.own then reopenPage s else s

/-! ### The reserve model's plan (R226) -/

/-- binary16 of a sum in W taken as kW. -/
def kw16 (v : Fv) : Nat := toF16 (r32 (v.mulExact (Fv.ofRat 40 1 1000)))

/-- The mean rack aggregate over the last ten steps. -/
def tenSteps (s : Mach) : Nat :=
  let l := s.eng.stepAgg
  let n := l.foldl (fun a p => a + p.2) 0
  if n = 0 then aggNow s else (l.foldl (fun a p => a + p.1) 0) / n

/-- R226: the row of bin `b`; where an entry is not learned, the row as R41 synthesises it. -/
def reserveRow (b : Nat) (s : Mach) : Nat :=
  let es := (List.range 64).map fun t => sget sigUnknown s.sig.tab (sigKey t b)
  let mean := fun (e : Nat) => f16 (e / 65536)
  let spread := fun (e : Nat) => f16 (e % 65536)
  if es.any (fun e => (mean e).isNan) then rowSynthesised s
  else
    let sum := fun (f : Nat → Fv) => es.foldl (fun (a : Fv) e => a.addExact (f e)) (.fin false 0 0)
    let times := fun (k : Int) (v : Fv) => v.mulExact (Fv.ofInt k)
    let target := min (tenSteps s) (capForce s)
    let base := (Fv.ofInt target).addExact (sum (fun e => (mean e).addExact (times 2 (spread e)))).neg
    rowChecked (kw16 (sum mean) <<< 112 ||| wToKw16 target <<< 96
      ||| (if base.isNeg then 0 else kw16 base) <<< 80 ||| kw16 (sum fun e => times 3 (spread e)) <<< 64
      ||| obj Obj.TT_FALLBACK_SHARE s <<< 56)

/-- R226: every row of the snapshot's step. -/
def reserveRows (t : Tick) (s : Mach) : SMap Nat := (List.range t.snap.n).map fun b => (b, reserveRow b s)

/-- R226: the banks' shortfall over the 64 bins from the snapshot's on, as a power below 0 W: what the rows ask of the
banks beyond the grid, in W per bin, less the energy of both banks spread over those bins, toward minus infinity. -/
def reserveCorr (t : Tick) (s : Mach) : Int :=
  let n := t.snap.n
  let d : Int := t.snap.d
  if n = 0 ∨ d ≤ 0 then 0
  else
    let need := (List.range 64).foldl (fun (a : Int) i =>
      let r := reserveRow ((t.snap.bin + i) % n) s
      a + max 0 (kwFloorW (rowPred r) - kwFloorW (rowGrid r))) 0
    -- energy in J over 64 bins of d / 2^14 ns, in W
    let gives := ((s.bnk.e.1 + s.bnk.e.2 : Nat) : Int) * 1000000000 * 2 ^ 14 / d
    min 0 ((gives - need) / 64)

/-! ### The publication point (R168) -/

/-- A correction is published: reported, clamped, from the next bin on, and noted for the epoch's EPOCH_END. -/
def publishCorr (c : Int) (s : Mach) : Mach :=
  let s := forwardCorr 16 c (setObj Obj.ENG_CORRECTION_W (ofSigned 32 c) s)
  { s with
    arb := { s.arb with corrNext := some (clampCorr c s) }
    ptn := { s.ptn with open_ := { s.ptn.open_ with corr := some c } } }

/-- R199: I24 saturation of a model channel's sample. -/
def sat24 (x : Int) : Int := clampI x (-8388608) 8388607

/-- R165, R168: one sample for each model channel that the container declares: the first that the schedule gives, or else
the channel's last. -/
def publishChans (l : List (Nat × Nat)) (s : Mach) : Mach :=
  each (ioChannels s.ldr.inUse) (fun q s =>
    match l.find? fun p => decide (256 + p.1 = q.1) with
    | some p => lrRecord q.1 (sat24 (toSigned 32 p.2)) s
    | none => lrRecord q.1 (lrChan q.1 s).last s) s

/-- TICK_PUBLICATION (R168 to R170, R179, R224): the schedule of the tick in progress signals completion. -/
def cmdTickPublication (corr : Nat) (chans : List (Nat × Nat)) (state : List Byte) (s : Mach) : Mach :=
  match s.eng.tick with
  | none => s
  | some t =>
    if t.done || t.dead || decide (t.stop ≤ s.now) || !engRuns s then s
    else
      let warm := decide (0 < s.eng.warm)
      let reserve := decide (s.eng.active = 2)
      let c := if reserve then reserveCorr t s else if warm then min (corrOf corr) 0 else corrOf corr
      let speaks := drives s && !t.mute
      let s := if speaks then publishCorr c s else s
      let s := if reserve then s else publishChans chans s
      let t : Tick := if reserve && speaks then { t with rows := reserveRows t s } else t
      let ns := s.now - t.start
      let s := setObj Obj.ENG_TICK_MAX_NS (max ns (obj Obj.ENG_TICK_MAX_NS s)) s
      let s := { s with eng := { s.eng with tick := some { t with done := true, rows := [] }, state := state } }
      let s := if warm then warmTick s else s
      if !speaks || warm then s
      else if rowsDiscarded t s && s.tt.shadow ≠ .copying then engineCommit (writeHeader t s)
      else if s.tt.shadow = .opened then engineCommit (releaseRows t s)
      else if s.tt.shadow = .copying ∧ ¬ t.moved ∧ obj Obj.TT_WRITER s = 0 ∧ t.snap.shadow ≠ .committed then
        { s with eng := { s.eng with held := some t } }
      else s

/-! ### Stream descriptors (R159, R160, R200) -/

/-- The Long Record sample that flat element `e` of a KIND 0x3 read names, counted from power-up (R167). -/
def descSample (d : Nat) (snap : Snapshot) (e : Nat) : Int :=
  let ch := sget {} snap.chans (nfld d 247 239)
  (ch.count : Int) - (descSrc d % 2 ^ 24 : Nat)
    + (e / max 1 (descCount d) * descSrcStride d / 4 + e % max 1 (descCount d) : Nat)

/-- The byte of the slot, the entry or the row that flat element `e` names. -/
def descItem (d e : Nat) : Nat :=
  let o := e / max 1 (descCount d) * descSrcStride d
  let unit := if descKind d = 4 then 4 else if descKind d = 5 then 16 else 1
  descSrc d + o / unit + e % max 1 (descCount d)

/-- One element of a read at flat element `e`: its bytes, none where an error took it; none outside where the Long
Record does not hold it. -/
def descRead (d : Nat) (snap : Snapshot) (e : Nat) (s : Mach) : Option (Option (List Byte)) :=
  match descKind d with
  | 1 =>
    let a := hbmAt (descItem d e) s
    some (if hbmLost a s then none else some [hbmByte a s])
  | 3 =>
    let ch := nfld d 247 239
    let i := descSample d snap e
    if i < 0 then none
    else (lrReadAt (sget {} snap.chans ch) ch i.toNat s).map fun v => v.map fun x => toBytes 4 (ofSigned 32 x)
  | 4 => some (some (toBytes 4 (sget sigUnknown s.sig.tab (descItem d e))))
  | _ => some (some (toBytes 16 (row (descItem d e) s)))

/-- Where flat element `e` of a transfer lies in coach SRAM. -/
def descPlace (d e : Nat) : Nat :=
  descDst d + e / max 1 (descCount d) * descDstStride d + e % max 1 (descCount d) * descElem d

/-- R160: the elements outside `[first, last]` are delivered. -/
def descDeliver (c d : Nat) (snap : Snapshot) (range : Option (Nat × Nat)) (s : Mach) : Mach :=
  each (List.range (descCount d * descRows d)) (fun e s' =>
    if (match range with | some (a, b) => decide (a ≤ e ∧ e ≤ b) | none => false) then s'
    else match descRead d snap e s with
      | some (some l) => sramPut c (descPlace d e) l s'
      | _ => s') s

/-- R162, R217: a transfer that no certified schedule holds: past the model's resident memory, past the coach's SRAM, or
of a channel that the model may not read. -/
def descOutside (d : Nat) (s : Mach) : Bool :=
  let room := if s.eng.active = 1 then certHbm s.ldr.inUse else slotSize (slotNow s)
  decide (2 ^ 22 < descSramEnd d) || (decide (descKind d = 1 ∨ descKind d = 2) && decide (room < descHbmEnd d))
    || (decide (descKind d = 3) && decide (s.eng.active = 1) && !ioReads (nfld d 247 239) s.ldr.inUse)

/-! ### Rows of HBM (R163, R164) -/

/-- The granules that a failed pseudo-channel cannot give: slots of the Long Record become lost blocks, and those of the
model region are unreadable until the restore. -/
def unreadable (l : List Nat) (s : Mach) : Mach :=
  each l (fun g s =>
    if g < 512 * 131072 then { s with lr := { s.lr with lost := sput false s.lr.lost g true } }
    else if modelGranule ≤ g ∧ g < modelGranule + 226492416 then
      { s with eng := { s.eng with unread := sput false s.eng.unread (g - modelGranule) true } }
    else s) s

/-- R164: a pseudo-channel is mapped onto its stack's spare, or no spare is left. -/
def pchFails (pch : Nat) (lost : List Nat) (s : Mach) : Mach :=
  let stack := pch / 64
  let s := unreadable lost s
  if s.eng.pchUsed.testBit stack then
    pulse 25 (0xA000 + pch) 0 { s with eng := { s.eng with noSpare := true } }
  else
    let s := { s with eng := { s.eng with
        pchUsed := setBit s.eng.pchUsed stack
        pchMap := sput 0 s.eng.pchMap (pch + 1) 1
        repairDue := s.eng.repairDue.filter fun k => decide (k / 2 ^ 32 ≠ pch)
        restores := s.eng.restores ++ [⟨pch, s.now⟩] } }
    let s := incObj Obj.SPR_ENTRIES (incObj Obj.ENG_PCH_REPAIRS s)
    pulse 26 (0xA000 + pch) 0 (log 0x0301 (0xA000 + pch) 0xFFFFFFFF s)

/-- R401: the row repairs that a pseudo-channel has left. -/
def repairsLeft (pch : Nat) (s : Mach) : Nat := 16 - sget 0 s.eng.repairs pch

/-- R163, R164: a row is to be repaired; a pseudo-channel without a repair left is mapped instead. -/
def rowDue (pch r : Nat) (s : Mach) : Mach :=
  let key := pch * 2 ^ 32 + r
  if s.eng.repairDue.contains key then s
  else if repairsLeft pch s = 0 then (if sget 0 s.eng.pchMap (pch + 1) = 1 then s else pchFails pch [] s)
  else { s with eng := { s.eng with repairDue := s.eng.repairDue ++ [key] } }

/-- An uncorrectable HBM error: counted, its row to be repaired, HBM_ECC_UE latched (R163, R177, R204). -/
def hbmError (pch r : Nat) (s : Mach) : Mach := pulse 25 0 0 (rowDue pch r (incObj Obj.ENG_HBM_UE s))

/-- R200: the block of a channel's sample is lost: in its slot, or in the ingest buffer. -/
def loseSample (c i : Nat) (s : Mach) : Mach :=
  let ch := lrChan c s
  if ch.blocks ≤ i / 80 then pulse 27 0 0 (setLrChan c { ch with lost := true } s)
  else if 131072 < ch.blocks - i / 80 then s
  else { s with lr := { s.lr with lost := sput false s.lr.lost (c * 131072 + i / 80 % 131072) true } }

/-- R200, R204: what the element of a read that met an uncorrectable error loses. -/
def descLoses (d : Nat) (snap : Snapshot) (e : Nat) (s : Mach) : Mach :=
  match descKind d with
  | 1 => restoreGranule (hbmAt (descItem d e) s / 256) s
  | 3 => if 0 ≤ descSample d snap e then loseSample (nfld d 247 239) (descSample d snap e).toNat s else s
  | 4 => { s with sig := { s.sig with tab := sput sigUnknown s.sig.tab (descItem d e) sigUnknown } }
  | _ => liveRowLost (descItem d e) s

/-- A completion record for the coach's core. -/
def complete (c id status first last : Nat) (s : Mach) : Mach :=
  { s with eng := { s.eng with done := ⟨c, id, status, first, last⟩ :: s.eng.done } }

/-- The first and last members of a list of elements. -/
def extent : List Nat → Option (Nat × Nat)
  | [] => none
  | x :: r => some (x, r.getLastD x)

/-- KIND 0x6: each element carries its row number and the row. -/
def stageRows : List Byte → Nat → Mach → Mach
  | _, 0, s => s
  | l, n + 1, s => stageRows (l.drop 20) n (stageRow (beAt l 0 4) (beAt l 4 16) s)

/-- KIND 0x2: rows of bytes from coach SRAM go to HBM, through the Depot or past it (R161). -/
def descStore (c d : Nat) (s : Mach) : Mach :=
  each (List.range (descRows d)) (fun r s =>
    match sramGet c (descDst d + r * descDstStride d) (descCount d) s with
    | some l => (List.range l.length).foldl (fun s i =>
        hbmWrite (d.testBit 250) (hbmAt (descSrc d + r * descSrcStride d + i) s) (l.getD i 0) s) s
    | none => s) s

/-- KIND 0x6: rows with their numbers go from coach SRAM to the staging buffer. -/
def descStage (c d : Nat) (s : Mach) : Mach :=
  each (List.range (descRows d)) (fun r s =>
    match sramGet c (descDst d + r * descDstStride d) (20 * descCount d) s with
    | some l => stageRows l (descCount d) s
    | none => s) s

/-- A read (KIND 0x1 and 0x3 to 0x5): its lines are allocated, what an error took is lost, the rest is delivered. -/
def descFetch (c d : Nat) (snap : Snapshot) (ue : Option (Nat × Nat × Nat × Nat)) (s : Mach) : Mach :=
  let n := descCount d * descRows d
  let els := List.range n
  let s := if descKind d = 1 then
      each els (fun e s => depotFill (d.testBit 250) (hbmAt (descItem d e) s / 128) s) s
    else s
  let hit := match ue with
    | some (a, b, _) => els.filter fun e => decide (a ≤ e ∧ e ≤ b)
    | none => []
  let s := each hit (descLoses d snap) s
  let range := extent (els.filter fun e => decide (descRead d snap e s = some none) || hit.contains e)
  let absent := els.find? fun e => decide (descRead d snap e s = none)
  match range, absent with
  | some r, _ => complete c (descId d) 1 r.1 r.2 (descDeliver c d snap range s)
  | none, some e => complete c (descId d) 2 e (n - 1) (descDeliver c d snap (some (e, n - 1)) s)
  | none, none => complete c (descId d) 0 0 0 (descDeliver c d snap none s)

/-- R177: the model's handler skips a read that an error met. -/
def mayskip (c d : Nat) (s : Mach) : Bool :=
  decide (descKind d = 1) && match logicalOf c s with
    | some l => (skipList s.ldr.inUse).contains (l, descId d)
    | none => false

/-- STREAM_DESCRIPTOR_COMPLETE (R160, R177, R200): `ue` names the elements that an uncorrectable error met in this read
touched and its row; `ops` are what the coach's core issued before. -/
def cmdStreamDescriptorComplete (c d : Nat) (ue : Option (Nat × Nat × Nat × Nat)) (ops : List EngOp) (s : Mach) : Mach :=
  let bg := d.testBit 251
  let open_ := match s.eng.tick with
    | some t => !t.dead && !t.done && decide (s.now < t.stop)
    | none => false
  if descReserved d then s
  else if (!open_ && !bg) || descOutside d s then complete c (descId d) 3 0 0 s
  else
    let s := each ops (engOp c) s
    let snap := match s.eng.tick with | some t => t.snap | none => snapshot s
    if descKind d = 2 then complete c (descId d) 0 0 0 (descStore c d s)
    else if descKind d = 6 then complete c (descId d) 0 0 0 (descStage c d s)
    else
      let s := descFetch c d snap ue s
      match ue with
      | none => s
      | some (_, _, pch, r) =>
        if descKind d = 5 then pulse 27 0 0 s
        else
          let s := hbmError pch r s
          if mayskip c d s || bg then s else failTick s

/-! ### Background ages (R173) -/

/-- The age of background activity `a` (0 to 4) in seconds; adaptation and restore age only while they have work. -/
def bgAge (a : Nat) (s : Mach) : Nat :=
  let since := max (sget 0 s.eng.bgAt a) s.gl.upAt
  if a = 3 ∧ (obj Obj.MDL_ADAPT_ENABLE s = 0 ∨ s.eng.active ≠ 1 ∨ mdlAdaptive s.ldr.inUse = false) then 0
  else if a = 4 then (match s.eng.restores with | r :: _ => (s.now - r.began) / 1000000000 | [] => 0)
  else (s.now - since) / 1000000000

/-! ### Failures of carts, coaches and words (R174 to R177) -/

/-- R174: what a lost unit does at once: no tick to the boundary, the commit withdrawn. -/
def unitLost (s : Mach) : Mach :=
  withdrawCommit (limitCorr (failTick { s with eng := { s.eng with suspended := s.eng.suspended || engRuns s } }))

/-- CART_FAILURE (R174, R175): a working cart, or the spare. -/
def cmdCartFailure (c k : Nat) (s : Mach) : Mach :=
  let x := coach c s
  if x.failed.testBit k || x.removed then s
  else
    let src := 0x6000 + c * 64 + k
    let x' := { x with failed := setBit x.failed k }
    if k = 32 ∧ x.spareFor = 0x3F then pulse 24 src 0 (countCarts (setCoach c x' s))
    else
      let s := countCarts (setCoach c { x' with due := x.due ++ [k] } s)
      unitLost (pulse 23 src 0 s)

/-- BACKGROUND_STARVED asserts while any age exceeds 86,400 s (R173). -/
def refreshBackground (s : Mach) : Mach :=
  setLine 52 ((List.range 5).any fun a => decide (86400 < bgAge a s)) 0 0 s

/-- R173: activity `a` has completed a full pass or round; the line falls with the last age over the limit. -/
def passDone (a : Nat) (s : Mach) : Mach :=
  let s := { s with eng := { s.eng with bgAt := sput 0 s.eng.bgAt a s.now } }
  if s.fc.lines.testBit 52 then refreshBackground s else s

/-- R173: every fitted cart of the engine has been tested once. -/
def selftestPass (s : Mach) : Mach :=
  let l := (List.range 64).filter fun c => !(coach c s).removed
  if l.all (fun c => (coach c s).round) then
    passDone 2 (each l (fun c s => setCoach c { coach c s with round := false } s) s)
  else s

/-- CART_SELFTEST (R173, R174, R175): one cart's test; a round ends when every fitted cart has been tested. -/
def cmdCartSelftest (c k : Nat) (pass : Bool) (s : Mach) : Mach :=
  let x := coach c s
  if obj Obj.ENG_SELFTEST_ENABLE s = 0 ∨ x.removed ∨ x.failed.testBit k ∨ rowMaint (row s.trk.bin s) = false then s
  else
    let again := !pass && x.lastFail.testBit k
    let tested := setBit x.tested k
    let full := decide ((tested ||| x.failed) % 2 ^ 33 = 2 ^ 33 - 1)
    let x := { x with
      lastFail := if pass then clrBit x.lastFail k else setBit x.lastFail k
      tested := if full then 0 else tested
      round := x.round || full
      rounds := if full then (x.rounds + 1) % 65536 else x.rounds }
    let s := selftestPass (setCoach c x s)
    let s := if !pass && !again then log 0x0303 (0x6000 + c * 64 + k) 0 s else s
    if again then cmdCartFailure c k s else s

/-- COACHMAN_LOCKSTEP (R176). -/
def cmdCoachmanLockstep (c : Nat) (s : Mach) : Mach :=
  let x := coach c s
  if x.removed || x.dueGone then s
  else unitLost (pulse 34 (0x5000 + c) 0 (setCoach c { x with dueGone := true } s))

/-- ENGINE_SRAM_UE (R177): a word of coach SRAM is invalid until it is loaded again; a line of the Depot is dropped, for
the next tick to fetch from HBM. -/
def cmdEngineSramUe (w : EngWord) (used : Bool) (s : Mach) : Mach :=
  let s := incObj Obj.ENG_SRAM_UE s
  let s := match w with
    | .sram c k =>
      pulse 23 (0x5000 + c.val) 0
        (sramLose c.val k.val (setCoach c.val { coach c.val s with sramUe := (coach c.val s).sramUe + 1 } s))
    | .depot line => pulse 23 0 0 (depotDrop (line.toNat * 128) (line.toNat * 128 + 128) s)
  if used then failTick s else s

/-! ### HBM (R163, R164, R204) -/

/-- HBM_CORRECTABLE_ERROR (R163). -/
def cmdHbmCorrectableError (pch r : Nat) (s : Mach) : Mach :=
  let key := pch * 2 ^ 32 + r
  let n := sget 0 s.eng.rowCe key + 1
  let s := incObj Obj.ENG_HBM_CE s
  let s := { s with eng := { s.eng with rowCe := sput 0 s.eng.rowCe key n } }
  if obj Obj.ENG_ROW_REPAIR_CE s ≤ n then rowDue pch r s else s

/-- HBM_ROW_REPAIR (R163): a temporary repair in a MAINT bin, made permanent at the next BOOT. -/
def cmdHbmRowRepair (pch r : Nat) (s : Mach) : Mach :=
  let key := pch * 2 ^ 32 + r
  if rowMaint (row s.trk.bin s) = false ∨ s.eng.repairDue.contains key = false then s
  else if repairsLeft pch s = 0 then pchFails pch [] s
  else
    let s := { s with eng := { s.eng with
        repairDue := s.eng.repairDue.filter fun k => decide (k ≠ key)
        rowCe := sput 0 s.eng.rowCe key 0
        repairs := sput 0 s.eng.repairs pch (sget 0 s.eng.repairs pch + 1)
        tempRep := s.eng.tempRep ++ [key] } }
    let s := incObj Obj.SPR_ENTRIES (incObj Obj.ENG_ROW_REPAIRS s)
    pulse 26 (0xA000 + pch) 0 (log 0x0301 (0xA000 + pch) r s)

/-- PSEUDO_CHANNEL_FAILURE (R164), with the granules that can no longer be read. -/
def cmdPseudoChannelFailure (pch : Nat) (lost : List Nat) (s : Mach) : Mach := pchFails pch lost s

/-- PSEUDO_CHANNEL_RESTORE_COMPLETE (R164): the granules are the loader's again; with the last restore the running model
returns at the next boundary. -/
def cmdPseudoChannelRestoreComplete (pch : Nat) (s : Mach) : Mach :=
  if s.eng.restores.any (fun r => decide (r.pch = pch)) then
    let l := s.eng.restores.filter fun r => decide (r.pch ≠ pch)
    let s := if l = [] then each s.eng.unread (fun p s => restoreGranule p.1 s) s else s
    passDone 4 { s with eng := { s.eng with
      restores := l
      restored := s.eng.restored || decide (l = []) } }
  else s

/-- R228, R231: adapted parameters are gone and the container's stand again. -/
def adaptReset (s : Mach) : Mach :=
  setObj Obj.MDL_ADAPT_GENERATION 0 { s with ldr := { s.ldr with
    curBuf := 0
    cand := none
    candAck := false
    revert := false
    flipSteps := 0 } }

/-- HBM_UE (R200, R204, Table 7.11). -/
def cmdHbmUe (hit : HbmHit) (pch r : Nat) (s : Mach) : Mach :=
  match hit with
  | .ingest c => pulse 27 0 0 (setLrChan c.val { lrChan c.val s with lost := true } s)
  | .signature t b =>
    let s := hbmError pch r s
    { s with sig := { s.sig with tab := sput sigUnknown s.sig.tab (sigKey t.val b.val) sigUnknown } }
  | .longRecord c blk =>
    let s := hbmError pch r s
    let ch := lrChan c.val s
    let b := blk.toNat
    if b < ch.blocks ∧ ch.blocks ≤ b + 131072 then loseSample c.val (80 * b) s else s
  | .model g used =>
    let s := restoreGranule g.toNat (hbmError pch r s)
    if used then failTick s else s
  | .adaptation current =>
    let s := hbmError pch r s
    if current then failTick (adaptReset s) else { s with ldr := { s.ldr with cand := none } }
  | .recurrentState =>
    let s := hbmError pch r s
    failTick { s with eng := { s.eng with state := firstOf 6 s.ldr.inUse } }
  | .unused => hbmError pch r s

/-- TIMETABLE_SRAM_UE (R204): a live row is synthesised from now on; a shadow row is the live page's row again, or the
reset row, and a COMMITTED page is withdrawn as R171 withdraws a commit. -/
def cmdTimetableSramUe (live : Bool) (b : Nat) (s : Mach) : Mach :=
  let s :=
    if live then liveRowLost b s
    else
      let l := livePage s
      let r := if l.count ≤ b then rowReset else sget rowReset l.rows b
      let p := shadowPage s
      let rows := sput rowReset p.rows b r
      let s := setShadow { p with rows := rows } s
      let s := { s with eng := { s.eng with changed := s.eng.changed || decide (rows ≠ p.rows) } }
      if s.tt.shadow = .committed then reopenPage s else s
  pulse 27 0 0 s

/-! ### Background work (R173) -/

/-- BACKGROUND_PASS_COMPLETE (R173): a full pass; a scrub of SRAM names a coach, or the Depot, for each word it corrected. -/
def cmdBackgroundPassComplete (a : Nat) (corrected : List (Option Nat)) (s : Mach) : Mach :=
  let s := if a = 1 then
      each corrected (fun c s =>
        let s := incObj Obj.ENG_SRAM_CE s
        match c with
        | some c => setCoach c { coach c s with sramCe := (coach c s).sramCe + 1 } s
        | none => s) s
    else s
  passDone a s

/-- BACKGROUND_STARVED (R173). -/
def cmdBackgroundStarved (a : Nat) (s : Mach) : Mach := if 86400 < bgAge a s then refreshBackground s else s

end Sys2Proof.Machine
end

