-- ==== Sys2Proof/Machine/Loader.lean ====
section
/-! DEFINITION. The loader (chapter 8): load states, verification, the switch, the reserve model, adaptation, and the
engine's part of entry to RUN and of a step boundary. Writes answer with a code of Table 0.6. -/

namespace Sys2Proof.Machine

/-! ### Resources and the check (R213 to R215) -/

/-- The running release (R396). -/
def release (s : Mach) : Nat := obj Obj.ID_FW_MAJOR s * 256 + obj Obj.ID_FW_MINOR s

/-- R214: the width code of w_check. -/
def checkWidth (s : Mach) : Nat :=
  if s.trk.st = .locked ∨ s.trk.st = .holdover then s.trk.wCode else s.eng.lastW.getD 3

/-- What R213 checks against, for a tick length. -/
def resources (tick : Nat) (s : Mach) : Resources :=
  { tick := tick, wCode := checkWidth s, maint := obj Obj.TT_MAINT_INTERVAL s, carts := serviceCarts s }

/-- R215: a refusal is reported and recorded. -/
def reportRefusal (f : MdlFail) (s : Mach) : Mach :=
  let s := setObj Obj.MDL_REFUSAL_CODE (mdlCode f.reason) s
  let s := setObj Obj.MDL_REFUSAL_REASON f.reason s
  let s := setObj Obj.MDL_REFUSAL_COACH f.coach s
  let s := setObj Obj.MDL_REFUSAL_EXCESS f.excess s
  log 0x0400 0 (mdlCode f.reason <<< 24 ||| f.reason <<< 16 ||| f.coach <<< 8) s

/-- R213: the check came to its figures: it passed, or failed at one of its items. -/
def checkReached : Option MdlFail → Bool
  | none => true
  | some f => decide (7 ≤ f.reason ∧ f.reason ≤ 0xC)

/-- R213 of a container against resources, with the figures of the check reported. -/
def noteCheckAt (r : Resources) (c : List Byte) (s : Mach) : Mach :=
  let s := setObj Obj.MDL_BUDGET_CYCLES (tickBudget r) s
  let s := setObj Obj.MDL_WORST_CYCLES (worstCycles c r % 2 ^ 32) s
  setObj Obj.MDL_CHECK_WIDTH r.wCode s

/-- R213 of a container against the present resources, reported. -/
def noteCheck (c : List Byte) (s : Mach) : Mach := noteCheckAt (resources (obj Obj.ENG_TICK_US s) s) c s

/-- The loaded model is checked again; a failure is reported (R215). -/
def recheck (s : Mach) : Mach :=
  if s.ldr.loaded = false then s
  else
    let c := s.ldr.inUse
    let f := certFail c (resources (obj Obj.ENG_TICK_US s) s)
    let s := noteCheck c { s with ldr := { s.ldr with fits := f.isNone && !s.ldr.barred } }
    match f with
    | some f => reportRefusal f s
    | none => s

/-- R183, R233: a new tick length is accepted only if the running model fits it. -/
def tickAllowed (tick : Nat) (s : Mach) : Bool :=
  !s.ldr.loaded || (certFail s.ldr.inUse (resources tick s)).isNone

/-! ### Starting a model (R218, R224 to R227) -/

/-- R226: the reserve model fits: four coaches in service. -/
def reserveFits (s : Mach) : Bool := decide (4 ≤ (serviceCarts s).length)

/-- R225, R164, R227: the model that is to run: 1 the loaded one, 2 the reserve model, 0 none. -/
def modelDue (s : Mach) : Nat :=
  if s.ldr.loaded && s.ldr.fits && decide (s.eng.restores = []) && !s.eng.noSpare && decide (obj Obj.MDL_FORCE_RESERVE s = 0)
  then 1
  else if reserveFits s then 2 else 0

/-- R209, R218: WEIGHTS into the model's slot, SRAM images into the coaches, STATE as the recurrent state. -/
def placeModel (c : List Byte) (s : Mach) : Mach :=
  let base := slotBase s.ldr.slot
  let top := base + slotSize s.ldr.slot
  let s := depotDrop base top s
  placeImages false { s with eng := { s.eng with
    hbm := sputRun 0 (sclear s.eng.hbm base top) base (firstOf 4 c)
    unread := sclear s.eng.unread (base / 256) (top / 256)
    sram := []
    sramBad := []
    state := firstOf 6 c } }

/-- R209, R224: the loaded model starts: with its SRAM images, from its STATE, in warm-up. -/
def startModel (s : Mach) : Mach :=
  let c := s.ldr.inUse
  let s := placeImages false { s with eng := { s.eng with state := firstOf 6 c, warm := ioWarmup c } }
  setObj Obj.MDL_ADAPT_REJECTED 0 (setObj Obj.MDL_WARMUP_LEFT (ioWarmup c) s)

/-- The model due takes over: reported, recorded, started; without any model ENGINE_DEADLINE latches once (R227). -/
def chooseModel (s : Mach) : Mach :=
  let m := modelDue s
  if m = s.eng.active ∧ (m ≠ 0 ∨ s.eng.noneLatched) then s
  else
    let s := cutTick s
    let s := { s with eng := { s.eng with
        active := m
        warm := 0
        held := none
        nextAt := if s.eng.copying then none else some s.now } }
    let s := setObj Obj.MDL_WARMUP_LEFT 0 (setObj Obj.MDL_ACTIVE_MODEL m s)
    if m = 1 then startModel (log 0x0401 0 (mdlId s.ldr.inUse) s)
    else if m = 2 then limitCorr (log 0x0401 0 Config.reserveModel.1.toNat s)
    else
      let s := limitCorr s
      if s.eng.noneLatched then s
      else pulse 22 0 0 { s with eng := { s.eng with noneLatched := true } }

/-- R218: the RUNNING container: copy A, or B if A's DIGEST fails; none where neither holds one. -/
def runningContainer (s : Mach) : List Byte :=
  if s.ldr.runA ≠ [] ∧ digestOk s.ldr.runA then s.ldr.runA
  else if s.ldr.runB ≠ [] ∧ digestOk s.ldr.runB then s.ldr.runB else []

/-- What the object dictionary reports of the RUNNING container. -/
def noteLoaded (c : List Byte) (s : Mach) : Mach :=
  let s := setObj Obj.MDL_LOADED_ID (if c = [] then 0 else mdlId c) s
  let s := setObj Obj.MDL_LOADED_REVISION (if c = [] then 0 else mdlRevision c) s
  domPut 0x2444 3 0 (toBytes 32 (if c = [] then 0 else mdlDigest c)) s

/-- R218: the engine's part of entry to RUN. -/
def engineStart (s : Mach) : Mach :=
  let c := runningContainer s
  let s := if c = [] ∧ (s.ldr.runA ≠ [] ∨ s.ldr.runB ≠ []) then pulse 40 0 0 s else s
  let s := adaptReset { s with
    eng := { s.eng with
      tick := none
      held := none
      suspended := false
      copying := false
      wraps := []
      stepAgg := []
      aggSum := 0
      aggN := 0
      lastW := none
      active := 0
      warm := 0
      noneLatched := false
      nextAt := some s.now }
    ldr := { s.ldr with inUse := c, loaded := decide (c ≠ []), fits := false, slot := 1, barred := false } }
  let s := noteLoaded c s
  let s := if c = [] then s else placeModel c s
  let s := limitCorr (countCarts s)
  chooseModel (recheck s)

/-! ### Loading (R219 to R221) -/

/-- 0x2442.00. -/
def loadState (s : Mach) : Nat := obj Obj.MDL_LOAD_STATE s

/-- The load enters a state. -/
def setLoad (x : Nat) (s : Mach) : Mach := setObj Obj.MDL_LOAD_STATE x s

/-- R219: the loader takes commands in this state and role. -/
def loaderOpen (s : Mach) : Bool := decide (s.mode ≠ .boot ∧ s.mode ≠ .safe ∧ s.role ≠ .standby)

/-- The load is EMPTY and the INCOMING slots hold nothing. -/
def loadEmpty (s : Mach) : Mach :=
  setLoad 0 { s with ldr := { s.ldr with
    inc := []
    erasing := false
    acked := false
    ackObj := none
    switchTold := false
    unfit := false } }

/-- BEGIN: erasure of the INCOMING slots starts; the partner is told the length. -/
def beginLoad (len : Nat) (s : Mach) : Mach :=
  let p := if forwards s then (fun q : Nat × Mach => (some q.1, q.2)) (openBulk bulkModel len s) else (none, s)
  let s := p.2
  let s := setObj Obj.MDL_PARTNER_STATUS 0 (setObj Obj.MDL_PARTNER_REASON 0 s)
  { s with ldr := { s.ldr with
    inc := []
    incLen := len
    erasing := true
    at_ := s.now
    ackObj := p.1
    acked := false } }

/-- MDL_BEGIN (R219). -/
def mdlBegin (s : Mach) : Nat × Mach :=
  let st := loadState s
  if loaderOpen s = false then (0x09, s)
  else if s.ldr.erasing ∨ (st ≠ 0 ∧ st ≠ 5) then (0x0B, s)
  else if obj Obj.MDL_LOAD_LENGTH s = 0 then (0x09, s)
  else (0, beginLoad (obj Obj.MDL_LOAD_LENGTH s) s)

/-- MDL_ERASE_COMPLETE (R219). -/
def cmdMdlEraseComplete (s : Mach) : Mach :=
  if s.ldr.erasing then setLoad 1 { s with ldr := { s.ldr with erasing := false } } else s

/-- MDL_LOAD_WINDOW_WRITE (R219): ascending offsets from 0, inside the announced length. -/
def mdlWindow (off : Nat) (data : List Byte) (s : Mach) : Nat × Mach :=
  if loaderOpen s = false ∨ loadState s ≠ 1 then (0x09, s)
  else if off ≠ s.ldr.inc.length ∨ s.ldr.incLen < off + data.length then (0x05, s)
  else
    let s := match s.ldr.ackObj with
      | some id => if forwards s then putBulk id off data s else s
      | none => s
    (0, { s with ldr := { s.ldr with inc := s.ldr.inc ++ data } })

/-- MDL_VERIFY (R217, R219). -/
def mdlVerify (s : Mach) : Nat × Mach :=
  if loaderOpen s = false ∨ loadState s ≠ 1 ∨ s.ldr.inc.length ≠ s.ldr.incLen then (0x09, s)
  else (0, setLoad 2 { s with ldr := { s.ldr with at_ := s.now } })

/-- The key of R216. -/
def authorKey (s : Mach) : List Byte := domBytes 0x2451 0 0 68 s

/-- R217: the outcome of every check of the container being loaded. -/
def incomingFail (s : Mach) : Option MdlFail :=
  containerFail (decide (obj Obj.MDL_SIGNATURE_REQUIRED s = 1)) (authorKey s) (release s)
    (resources (obj Obj.ENG_TICK_US s) s) s.ldr.inc

/-- MDL_VERIFY_COMPLETE (R217). -/
def cmdMdlVerifyComplete (s : Mach) : Mach :=
  if loadState s ≠ 2 then s
  else match incomingFail s with
    | none => setLoad 3 (noteCheck s.ldr.inc s)
    | some f => setLoad 5 (reportRefusal f (if checkReached (some f) then noteCheck s.ldr.inc s else s))

/-- MDL_SWITCH (R219). -/
def mdlSwitch (s : Mach) : Nat × Mach :=
  if loaderOpen s = false ∨ loadState s ≠ 3 then (0x09, s) else (0, setLoad 4 s)

/-- MDL_CANCEL (R219). -/
def mdlCancel (s : Mach) : Nat × Mach :=
  if loaderOpen s = false ∨ loadState s = 0 then (0x09, s) else (0, loadEmpty s)

/-- R220: the token lapses. -/
def loadLapse (s : Mach) : Mach :=
  if loadState s = 1 ∨ loadState s = 2 ∨ loadState s = 3 ∨ s.ldr.erasing then loadEmpty s else s

/-! ### Adaptation (R229 to R231) -/

/-- The adaptable parameters as the container has them. -/
def adaptOriginal (s : Mach) : List Byte :=
  let c := s.ldr.inUse
  let w := firstOf 4 c
  padTo (adaptBytes c) (w.drop (adaptOffset c))

/-- ADAPT_PASS_COMPLETE (R229, R230). -/
def cmdAdaptPassComplete (adopt : Bool) (candidate : List Byte) (s : Mach) : Mach :=
  let c := s.ldr.inUse
  if engRuns s = false ∨ obj Obj.MDL_ADAPT_ENABLE s = 0 ∨ 0 < s.eng.warm ∨ s.eng.active ≠ 1 ∨ mdlAdaptive c = false
      ∨ drives s = false ∨ s.ldr.cand.isSome ∨ s.ldr.revert then s
  else
    let s := passDone 3 s
    if adopt then
      let l := padTo (adaptBytes c) candidate
      let p := if forwards s then sendBulk bulkCandidate l s else (0, s)
      let s := p.2
      { s with ldr := { s.ldr with cand := some l, candAck := false, candBulk := p.1 } }
    else incObj Obj.MDL_ADAPT_REJECTED s

/-- MDL_ADAPT_REVERT (R231): the copy of the container's parameters starts; a candidate not yet in use is dropped. -/
def adaptRevert (s : Mach) : Mach :=
  if s.ldr.loaded ∧ mdlAdaptive s.ldr.inUse then
    { s with ldr := { s.ldr with revert := true, cand := none, candAck := false } }
  else s

/-- ADAPT_REVERT_COPY_COMPLETE (R231). -/
def cmdAdaptRevertCopyComplete (s : Mach) : Mach :=
  if s.ldr.revert ∧ s.ldr.cand.isNone then
    let l := adaptOriginal s
    let p := if forwards s then sendBulk bulkCandidate l s else (0, s)
    let s := p.2
    { s with ldr := { s.ldr with cand := some l, candAck := false, candBulk := p.1 } }
  else s

/-- R230: a candidate may flip at this boundary: the partner's part of the condition with the steps since the last flip;
a STANDBY module flips with the ACTIVE module. -/
def flipReady (s : Mach) : Bool :=
  if s.role = .standby then s.ldr.flipTold
  else (s.ldr.candAck || decide (s.role = .solo)) && (s.ldr.revert || decide (adaptSteps s.ldr.inUse ≤ s.ldr.flipSteps))

/-- R230, R231: the flip at a step boundary. -/
def adaptFlip (s : Mach) : Mach :=
  let s := { s with ldr := { s.ldr with flipSteps := s.ldr.flipSteps + 1 } }
  match s.ldr.cand with
  | none => s
  | some l =>
    if flipReady s then
      let s := if forwards s then (sendBulk bulkTurn [0] s).2 else s
      let nxt := 1 - s.ldr.curBuf
      let s := hbmPut true (slotBase s.ldr.slot + adaptOffset s.ldr.inUse + nxt * adaptBytes s.ldr.inUse) l s
      incObj Obj.MDL_ADAPT_GENERATION { s with
        ldr := { s.ldr with
          curBuf := nxt
          cand := none
          candAck := false
          revert := false
          flipTold := false
          flipSteps := 0 } }
    else s

/-! ### The boundary (R175 to R177, R222, R223) -/

/-- The logical cart that physical cart `k` of a coach carried. -/
def logicalCart (k : Nat) (x : Coach) : Nat := if k = 32 then x.spareFor else k

/-- R175: one failed cart at the boundary: the spare cart takes its place, or the coach runs one fewer. -/
def cartEntry (c k : Nat) (s : Mach) : Mach :=
  let x := coach c s
  let src := 0x6000 + c * 64 + k
  let l := logicalCart k x
  let s := if k < 32 ∧ spareFree x then incObj Obj.SPR_ENTRIES (setCoach c { x with spareFor := k } s) else s
  let s := countEv 261 (log 0x0302 src l s)
  pulse 24 src 0 s

/-- R175, R176: the entries of one coach; a coach short of 16 carts or without its core is removed. -/
def coachEntry (c : Nat) (s : Mach) : Mach :=
  let x := coach c s
  if x.due = [] ∧ ¬ x.dueGone then s
  else
    let s := each x.due (cartEntry c) s
    let x := coach c s
    setCoach c { x with due := [], dueGone := false, removed := x.removed || x.dueGone || decide (workingCarts x < 16) } s

/-- Resources change at this boundary. -/
def entriesDue (s : Mach) : Bool := s.eng.coaches.any fun p => decide (p.2.due ≠ []) || p.2.dueGone

/-- R222: the partner's part of the condition. -/
def switchAcked (s : Mach) : Bool := s.ldr.acked || decide (s.role = .solo) || decide (s.role = .none)

/-- R222, R223: the switch of an ARMED container. -/
def switchModel (s : Mach) : Mach :=
  let c := s.ldr.inc
  let same := decide (s.ldr.inUse ≠ [] ∧ mdlDigest s.ldr.inUse = mdlDigest c)
  let s := adaptReset { s with
    ldr := { s.ldr with
      runA := c
      runB := c
      inc := s.ldr.runA
      inUse := c
      slot := 3 - s.ldr.slot
      loaded := true
      fits := true
      barred := false
      unfit := false
      switchTold := false
      acked := false
      ackObj := none }
    eng := { s.eng with
      tick := none
      held := none
      copying := true
      nextAt := none
      warm := 0
      active := 0 } }
  let s := placeModel c (noteLoaded c s)
  let s := if same then s else
    { s with lr := { s.lr with chans := s.lr.chans.map fun p =>
        if 256 ≤ p.1 then (p.1, { p.2 with floor := p.2.count }) else p } }
  limitCorr (countEv 262 (incObj Obj.MDL_SWITCH_COUNT (setLoad 0 s)))

/-- R222 on a STANDBY module whose own check fails: the container runs nowhere here. -/
def switchUnfit (s : Mach) : Mach :=
  let s := switchModel s
  { s with ldr := { s.ldr with fits := false, barred := true } }

/-- R177, R222: an ARMED container at a boundary, checked before a re-bin of the same boundary, with the width before it.
A STANDBY module switches with the ACTIVE module; one whose own check failed, or fails here, runs the reserve model. -/
def switchCheck (width0 : Nat) (s : Mach) : Mach :=
  let r := { resources (obj Obj.ENG_TICK_US s) s with wCode := width0 }
  let f := certFail s.ldr.inc r
  if loadState s ≠ 4 then s
  else if s.role = .standby then
    (if s.ldr.switchTold = false then s else if f.isNone && !s.ldr.unfit then switchModel s else switchUnfit s)
  else if s.eng.restores ≠ [] ∨ switchAcked s = false then s
  else
    match f with
    | none =>
      let s := if forwards s then (sendBulk bulkTurn [1] s).2 else s
      switchModel (noteCheckAt r s.ldr.inc s)
    | some f => setLoad 5 (reportRefusal f (noteCheckAt r s.ldr.inc s))

/-- MODEL_IMAGE_COPY_COMPLETE (R223): the tick grid restarts. -/
def cmdModelImageCopyComplete (s : Mach) : Mach :=
  if s.eng.copying then { s with eng := { s.eng with copying := false, nextAt := some s.now } } else s

/-- R166, R175: after a suspension or a new tick length the grid starts at the boundary. -/
def gridRestart (s : Mach) : Mach :=
  if s.eng.copying then s
  else
    let s := cutTick s
    { s with eng := { s.eng with nextAt := some s.now } }

/-- The engine's part of a step boundary: spare entries, the switch, the checks after a re-bin or a change of tick or
MAINT interval, the model due, the adaptation flip. `tick0`, `maint0` and `width0` are the figures before it. -/
def engineBoundary (tick0 maint0 width0 : Nat) (s : Mach) : Mach :=
  if engRuns s = false then s
  else
    let due := entriesDue s
    let s := each (List.range 64) coachEntry s
    let s := if due then countCarts s else s
    let wasHeld := s.eng.suspended
    let s := { s with eng := { s.eng with suspended := false } }
    let armed := decide (loadState s = 4)
    let pairs0 := coachPairs s
    let s := switchCheck width0 s
    let tick := decide (obj Obj.ENG_TICK_US s ≠ tick0)
    let s := if due || tick || decide (obj Obj.TT_MAINT_INTERVAL s ≠ maint0) || decide (checkWidth s ≠ width0)
        || (armed && decide (loadState s = 0)) || s.eng.restored then recheck s else s
    let s := if s.eng.restored ∧ s.ldr.loaded then placeModel s.ldr.inUse (adaptReset s) else s
    let s := { s with eng := { s.eng with restored := false } }
    let s := if pairs0 = coachPairs s then s else placeImages false s
    let s := chooseModel s
    let s := if armed && decide (loadState s = 0) then { s with ldr := { s.ldr with cand := none } } else adaptFlip s
    if wasHeld || tick then gridRestart s else s

/-- The wrap as the engine records it: the instant, N and d; a tick that spans a swap or re-bin loses its rows. -/
def engineWrap (moved swapped : Bool) (s : Mach) : Mach :=
  { s with eng := { s.eng with
      wraps := (s.trk.wrapT, s.trk.n, s.trk.d) :: s.eng.wraps.take 63
      stepAgg := (s.eng.aggSum, s.eng.aggN) :: s.eng.stepAgg.take 9
      aggSum := 0
      aggN := 0
      tick := s.eng.tick.map fun t => { t with moved := t.moved || moved }
      held := s.eng.held.map fun t => { t with moved := t.moved || moved }
      changed := s.eng.changed && !swapped
      own := s.eng.own && !swapped } }

end Sys2Proof.Machine
end

