-- ==== Sys2Proof/Machine/Access.lean ====
section
/-! DEFINITION. What an object admits (chapter 13, R347 to R349, R362, R376): looking an index up, and the checks of a
write in the order of Table 13.5, with every chapter's own state conditions. -/

namespace Sys2Proof.Machine

/-- R347: the row an index and subindex name, with instance and subindex position; otherwise NO_OBJECT or NO_SUBINDEX. -/
def lookup (idx sub : Nat) : Except Nat (ObjDef × Nat × Nat) :=
  match objTable.find? fun d => d.covers idx sub with
  | some d => .ok (d, idx - d.index, sub - d.sub)
  | none => .error (if objTable.any fun d => decide (d.index ≤ idx ∧ idx < d.index + d.insts) then 0x02 else 0x01)

/-- Index and subindex of a key. -/
def keyIdx (key : Nat) : Nat := key / 256
/-- The subindex of a key. -/
def keySub (key : Nat) : Nat := key % 256

/-- The value in force at a key. -/
def keyGet (key : Nat) (s : Mach) : Nat :=
  match lookup (keyIdx key) (keySub key) with
  | .ok (d, i, j) => oGet d i j s
  | .error _ => 0

/-- The value in force at a key set. -/
def keySet (key v : Nat) (s : Mach) : Mach :=
  match lookup (keyIdx key) (keySub key) with
  | .ok (d, i, j) => oSet d i j v s
  | .error _ => s

/-- COMMISSION or STOP. -/
def quietState (s : Mach) : Bool := decide (s.mode = .commission ∨ s.mode = .stop)
/-- RUN or DRAIN. -/
def loopOpen (s : Mach) : Bool := decide (s.mode = .run ∨ s.mode = .drain)

/-- R389: the objects that SAFE serves. -/
def servedInSafe (idx : Nat) : Bool :=
  decide ((0x1000 ≤ idx ∧ idx ≤ 0x1012) ∨ idx = 0x1120 ∨ (0x1200 ≤ idx ∧ idx ≤ 0x1211) ∨ idx = 0x2800 ∨ idx = 0x2850
    ∨ idx = 0x3090)

/-- Chapter 11: the only objects a STANDBY module lets a manager write. -/
def standbyWrites (idx : Nat) : Bool := decide (idx = 0x2706 ∨ idx = 0x2707 ∨ idx = 0x2709)

/-- The consist entries are planned somewhere. -/
def anyPlanned (s : Mach) : Bool := s.fdr.cst.any fun p => cstPlanned p.2

/-- R21, R286: MOD_STATE_REQUEST `v` is refused in this state. -/
def requestBad (v : Nat) (s : Mach) : Bool :=
  if v = 1 then decide (s.mode ≠ .stop) || decide (obj Obj.GRID_CAP_W s = 0) || !anyPlanned s
  else if v = 2 then !(decide (s.mode = .run ∨ s.mode = .start) || (decide (s.mode = .trip) && !c3Set s))
  else if v = 3 then decide (s.mode ≠ .stop)
  else false

/-- The fields of a consist entry that only COMMISSION and STOP may change: all writable ones but OVERRIDE. -/
def cstFixed (e : Nat) : Nat := e % 2 ^ 248 / 2 ^ 50 * 4 + e / 2 ^ 254

/-- The entries of 32 bytes that a write covers: number and word. -/
def entriesOf (off : Nat) (data : List Byte) : List (Nat × Nat) :=
  (List.range (data.length / 32)).map fun k => (off / 32 + k, beNat ((data.drop (32 * k)).take 32))

/-- R282: the write changes more than OVERRIDE. -/
def cstChanges (off : Nat) (data : List Byte) (s : Mach) : Bool :=
  (entriesOf off data).any fun q => decide (cstFixed q.2 ≠ cstFixed (cst q.1 s))

/-- R312: a planned switchover may be asked for. -/
def switchoverOk (s : Mach) : Bool :=
  decide (s.role = .active) && decide (s.mode = .run) && decide (obj Obj.PTN_PARTNER_ROLE s = 2) && s.ptn.claimAt.isNone

/-- Place of a written key in the list of key slots: trays' slots first, then the managers'. -/
def keySlotIx (idx slot : Nat) : Nat := idx * 2 + slot

/-- The valid bits beside a key object. -/
def keyBits (idx : Nat) (s : Mach) : Nat := keyGet (idx * 256 + 3) s

/-- R365: the module hears its partner in RESYNC, or is STANDBY, and so grants no token. -/
def grantsToken (s : Mach) : Bool := !(decide (s.role = .standby) || (decide (s.role = .resync) && decide (s.ptn.unheard < 3)))

/-- Table 13.5, order 4: the write is refused with STATE for the module's state, its role or the object's own
conditions. -/
def stateBad (idx sub off : Nat) (data : List Byte) (s : Mach) : Bool :=
  let v := beNat data
  let isKey := decide ((0x2140 ≤ idx ∧ idx < 0x2180) ∨ idx = 0x1130 ∨ idx = 0x1131) && decide (sub = 1 ∨ sub = 2)
  if s.mode = .safe ∧ servedInSafe idx = false then true
  else if s.role = .standby ∧ standbyWrites idx = false then true
  else if idx = 0x1120 then !grantsToken s
  else if idx = 0x1011 then requestBad v s
  else if isKey then (keyBits idx s).testBit (sub - 1)
  else if idx = 0x2102 ∨ idx = 0x2103 then !quietState s
  else if idx = 0x210C ∨ idx = 0x2642 then !loopOpen s
  else if idx = 0x2301 then decide (s.cnv.st ≠ .off)
  else if idx = 0x2303 ∧ sub ≤ 2 then decide (s.cnv.st ≠ .off)
  else if (idx = 0x2501 ∨ idx = 0x2602) ∧ sub ≤ 4 then decide (s.cnv.st ≠ .off)
  else if idx = 0x2330 ∧ (sub = 1 ∨ sub = 2) then !quietState s
  else if idx = 0x2330 ∧ sub = 5 then (bitsBelow v 25).any fun c => !(card c s).removed
  else if idx = 0x2450 ∨ idx = 0x2451 then !quietState s
  else if idx = 0x2540 then decide (s.mode ≠ .commission)
  else if idx = 0x2601 ∧ sub = 3 then decide (s.mode ≠ .run) || rideThrough s || decide (s.grd.st = .transfer)
  else if (idx = 0x2620 ∧ sub ≤ 3) ∨ idx = 0x2621 then !quietState s
  else if idx = 0x2651 then (bitsBelow v 64).any fun t => decide ((feeder t s).st ≠ .opened)
  else if idx = 0x2707 then decide (s.role ≠ .resync)
  else if idx = 0x2709 then !switchoverOk s
  else if idx = 0x2802 then decide (s.role ≠ .active)
  else if idx = 0x2840 ∧ sub = 3 then s.fc.staticN
  else if idx = 0x2851 ∨ idx = 0x2F10 then decide (s.mode ≠ .commission)
  else if idx = 0x1219 then decide (s.mode ≠ .commission)
  else if idx = 0x3010 ∨ (idx = 0x2022 ∧ sub ≤ 2) then decide (obj Obj.TT_WRITER s = 0) || decide (s.tt.shadow = .committed)
  else if idx = 0x3080 then !quietState s && cstChanges off data s
  else false

/-! ### Length, reserved bits and range -/

/-- R376: the record size of a window, 1 where it has no fixed records. -/
def recSize (idx : Nat) : Nat :=
  if idx = 0x3010 ∨ idx = 0x3011 ∨ idx = 0x3040 ∨ idx = 0x3050 ∨ idx = 0x3082 ∨ idx = 0x3092 then 16
  else if idx = 0x3020 then 4
  else if idx = 0x3030 ∨ idx = 0x3080 ∨ idx = 0x3081 ∨ idx = 0x3090 ∨ idx = 0x3091 then 32
  else if idx = 0x3071 then 192
  else 1

/-- R119, R282: windows whose writes cover whole records. -/
def wholeRecords (idx : Nat) : Bool := decide (idx = 0x3030 ∨ idx = 0x3080)

/-- Table 13.5, order 5. -/
def lengthBad (d : ObjDef) (idx : Nat) (data : List Byte) : Bool :=
  match d.ty with
  | .domain => decide (1024 < data.length) || (wholeRecords idx && decide (data.length % recSize idx ≠ 0))
  | .str => decide (d.size < data.length)
  | _ => decide (data.length ≠ d.size)

/-- R119: the reserved bits of a requester record, and SIDING_STATE 0b11. -/
def reqReserved (w : Nat) : Bool :=
  decide (w / 2 ^ 232 % 8 ≠ 0 ∨ w / 2 ^ 94 % 4 = 3 ∨ w / 2 ^ 92 % 4 ≠ 0 ∨ w % 2 ^ 23 ≠ 0)

/-- R9, R282: the reserved bits of a consist entry. -/
def cstReserved (w : Nat) : Bool := decide (w / 2 ^ 248 % 8 ≠ 0 ∨ w % 2 ^ 50 ≠ 0)

/-- A subindex of bits 54 to 62 (R322). -/
def faultReserved (idx sub : Nat) : Bool :=
  decide (0x2810 ≤ idx ∧ idx ≤ 0x2812) && fltReserved (sub - 1)

/-- A write covers a byte of a header or record, with its value. -/
def coversByte (off : Nat) (data : List Byte) (ok : Nat → Nat → Bool) : Bool :=
  (data.zip (List.range data.length)).any fun q => ok (off + q.2) q.1.toNat

/-- R9, R37: the reserved bits [49:40] and [23:16] of a timetable row; byte 0 of a row holds bits [7:0]. -/
def rowReserved (at_ b : Nat) : Bool :=
  decide (at_ % 16 = 2 ∧ b ≠ 0) || decide (at_ % 16 = 5 ∧ b ≠ 0) || decide (at_ % 16 = 6 ∧ b % 4 ≠ 0)

/-- R9: the reserved bits [175:16] of an OCV table header (Table 9.4). -/
def ocvReserved (at_ b : Nat) : Bool := decide (10 ≤ at_ % 4096 ∧ at_ % 4096 < 30 ∧ b ≠ 0)

/-- Table 9.4: SERIES or T_STEP out of range in a header that a write covers. -/
def ocvRange (off : Nat) (data : List Byte) : Bool :=
  coversByte off data (fun i b => decide (i % 4096 = 9 ∧ (b = 0 ∨ 20 < b)))
    || [2, 4098].any fun i => decide (off ≤ i ∧ i + 2 ≤ off + data.length) &&
      (let n := beNat ((data.drop (i - off)).take 2); decide (n = 0 ∨ 1024 < n))

/-- Table 13.5, order 6. -/
def reservedBad (d : ObjDef) (idx sub off : Nat) (data : List Byte) (s : Mach) : Bool :=
  faultReserved idx sub ||
  (if idx = 0x3030 then (entriesOf off data).any fun q => reqReserved q.2
  else if idx = 0x3080 then (entriesOf off data).any fun q => cstReserved q.2
  else if idx = 0x3010 then coversByte off data rowReserved
  else if idx = 0x3070 then coversByte off data ocvReserved
  else if idx = 0x2830 ∧ sub = 4 then beNat data == 1 && decide (obj Obj.INJ_MASK s / 2 ^ 54 % 2 ^ 9 ≠ 0)
  else match d.range with
    | .bits m => decide (without (beNat data) m ≠ 0)
    | _ => false)

/-- Table 12.7: the sources that exist. -/
def sourceOk (n : Nat) : Bool :=
  decide (n ≤ 75 ∨ (128 ≤ n ∧ n ≤ 134) ∨ (192 ≤ n ∧ n ≤ 198) ∨ (256 ≤ n ∧ n ≤ 262) ∨ (320 ≤ n ∧ n ≤ 324)
    ∨ (384 ≤ n ∧ n ≤ 389) ∨ (448 ≤ n ∧ n ≤ 454))

/-- An object of signed type. -/
def signedTy : ObjTy → Bool
  | .i8 | .i16 | .i32 | .i64 => true
  | _ => false

/-- The value lies in the object's range. -/
def inRange (d : ObjDef) (v : Nat) : Bool :=
  let x : Int := if signedTy d.ty then toSigned (objBits d) v else v
  (match d.ty with | .bool => decide (v ≤ 1) | _ => true) &&
  match d.range with
  | .any => true
  | .bits _ => true
  | .btw lo hi => decide (lo ≤ x ∧ x ≤ hi)
  | .oneOf l => l.contains v
  | .mult lo hi st => decide (lo ≤ v ∧ v ≤ hi ∧ v % st = 0)
  | .sources => sourceOk v
  | .mac => decide (v < 2 ^ 48) && v.testBit 40

/-- R322: the least class that bit `n` may be given. -/
def classFloor (n : Nat) : Nat := let d := Obj.FLT_CLASS.default 0 n; if d = 1 then 0 else d

/-- Table 13.5, order 7: the value or offset is out of range. -/
def rangeBad (d : ObjDef) (idx sub off : Nat) (data : List Byte) (s : Mach) : Bool :=
  let v := beNat data
  match d.ty with
  | .domain => decide (d.size < off + data.length) || decide (off % recSize idx ≠ 0)
      || (decide (idx = 0x3070) && ocvRange off data)
      || (decide (idx = 0x2102 ∧ off = 0) && decide ((data.headD 0xFF).toNat ≠ 0xFF))
      || (decide ((idx = 0x1100 ∨ idx = 0x1101) ∧ sub = 3 ∧ off = 0) && decide ((data.headD 0).toNat = 0xFF))
  | _ => !inRange d v
      || (decide (idx = 0x2810) && decide (v < classFloor (sub - 1) ∨ (sub = 64 ∧ v ≠ 0)))
      || (decide (idx = 0x2601 ∧ sub = 1) && !monitored (v - 1) s)
      || (decide (idx = 0x2601 ∧ sub = 3) && (decide (s.grd.inService = some (v - 1)) || !selectable (v - 1) s))
      || (decide (idx = 0x2830 ∧ sub = 4 ∧ v = 1) && (obj Obj.INJ_MASK s).testBit 63)

/-- Table 13.5, orders 1, 2 and 4 to 7 of a write: the row it names, or the first code that fails. The token is checked
between them by the caller's `tokenOk`. -/
def writeChecks (tokenOk : Bool) (idx sub off : Nat) (data : List Byte) (s : Mach) : Except Nat (ObjDef × Nat × Nat) :=
  match lookup idx sub with
  | .error c => .error c
  | .ok (d, i, j) =>
    if idx = 0x3011 then .error 0x08
    else if d.acc = .ro then .error 0x03
    else if !tokenOk then .error 0x04
    else if stateBad idx sub off data s then .error 0x09
    else if lengthBad d idx data then .error 0x06
    else if reservedBad d idx sub off data s then .error 0x0A
    else if rangeBad d idx sub off data s then .error 0x05
    else .ok (d, i, j)

end Sys2Proof.Machine
end

