-- ==== Sys2Proof/Machine/Commit.lean ====
section
/-! DEFINITION. Staging, COMMIT and effect points (R367 to R375), persistence (R350) and the commits forwarded to the
partner (R371). Values of RW objects travel as commits of one object with the group number 6. -/

namespace Sys2Proof.Machine

/-! ### Values -/

/-- The object a value belongs to. -/
def valObj : ObjVal → Nat × Nat
  | .scalar key _ => (keyIdx key, keySub key)
  | .bytes idx sub _ _ => (idx, sub)
  | .req _ _ _ => (0x3030, 0)
  | .cst _ _ => (0x3080, 0)

/-- Two values fill the same place. -/
def samePlace : ObjVal → ObjVal → Bool
  | .scalar a _, .scalar b _ => decide (a = b)
  | .bytes i j o l, .bytes a b p m => decide (i = a ∧ j = b ∧ o = p ∧ l.length = m.length)
  | .req a _ _, .req b _ _ => decide (a = b)
  | .cst a _, .cst b _ => decide (a = b)
  | _, _ => false

/-- R369: a value staged over an earlier one in the same place. -/
def stageVal (g : Nat) (v : ObjVal) (l : List (Nat × ObjVal)) : List (Nat × ObjVal) :=
  l.filter (fun p => !samePlace p.2 v) ++ [(g, v)]

/-- R369: how many values the staging holds; a window counts as one. -/
def stagedCount (s : Mach) : Nat :=
  let win := (s.mg.staged.filterMap fun p => match p.2 with
    | .scalar _ _ => none
    | v => some (valObj v)).eraseDups
  (s.mg.staged.filter fun p => match p.2 with | .scalar _ _ => true | _ => false).length + win.length

/-- STG_STAGED: the groups with staged values. -/
def stagedMask (s : Mach) : Nat := s.mg.staged.foldl (fun a p => setBit a p.1) 0

/-- STG_PENDING: the groups whose commit has not taken effect. -/
def pendMask (s : Mach) : Nat := s.mg.pend.foldl (fun a p => a ||| p.mask % 64) 0

/-- R363: NOTIFY of STG_PENDING where it changed. -/
def pendTouch (before : Nat) (s : Mach) : Mach := if pendMask s = before then s else touch 4 s

/-- R374, R367: staged values of the named groups are discarded. -/
def discardGroups (mask : Nat) (s : Mach) : Mach :=
  { s with mg := { s.mg with staged := s.mg.staged.filter fun p => !mask.testBit p.1 } }

/-! ### The coding of a forwarded commit -/

/-- One value with its group. -/
def encVal (p : Nat × ObjVal) : List Byte :=
  toBytes 1 p.1 ++ match p.2 with
    | .scalar key v => toBytes 1 0 ++ toBytes 3 key ++ toBytes 8 v
    | .bytes idx sub off l => toBytes 1 1 ++ toBytes 2 idx ++ toBytes 1 sub ++ toBytes 8 off ++ toBytes 4 l.length ++ l
    | .req rid cls burst => toBytes 1 2 ++ toBytes 2 rid ++ toBytes 1 cls ++ toBytes 3 burst
    | .cst t e => toBytes 1 3 ++ toBytes 1 t ++ toBytes 32 e

/-- Bytes `[o, o + n)` as a number. -/
def byteNum (l : List Byte) (o n : Nat) : Nat := beNat ((l.drop o).take n)

/-- The values in a byte string. -/
def decVals : Nat → List Byte → List (Nat × ObjVal)
  | 0, _ => []
  | fuel + 1, l =>
    if l.length < 2 then []
    else
      let g := byteNum l 0 1
      let k := byteNum l 1 1
      if k = 0 then (g, .scalar (byteNum l 2 3) (byteNum l 5 8)) :: decVals fuel (l.drop 13)
      else if k = 1 then
        let n := byteNum l 13 4
        (g, .bytes (byteNum l 2 2) (byteNum l 4 1) (byteNum l 5 8) ((l.drop 17).take n)) :: decVals fuel (l.drop (17 + n))
      else if k = 2 then (g, .req (byteNum l 2 2) (byteNum l 4 1) (byteNum l 5 3)) :: decVals fuel (l.drop 8)
      else if k = 3 then (g, .cst (byteNum l 2 1) (byteNum l 3 32)) :: decVals fuel (l.drop 35)
      else []

/-- A commit as BULK: mask, manager and values. -/
def encCommit (mask mgr : Nat) (vals : List (Nat × ObjVal)) : List Byte :=
  toBytes 1 mask ++ toBytes 1 mgr ++ vals.flatMap encVal

/-! ### Sessions that close (R354, R357, R378) -/

/-- Session `k` closes: record SESSION_CLOSED with its cause. -/
def closeSession (k cause : Nat) (s : Mach) : Mach :=
  let x := session k s
  if x.st = 0 then s
  else
    let s := setSession k {} s
    if x.st = 2 then log 0x0705 (0xC000 + x.mgr - 1) (k + cause * 256) s else s

/-- Every session that a condition names closes. -/
def closeSessions (which : Session → Bool) (cause : Nat) (s : Mach) : Mach :=
  each (List.range 8) (fun k s => if which (session k s) then closeSession k cause s else s) s

/-- The byte count of an address that is not all zeros. -/
def nonZero (l : List Byte) : Bool := l.any fun b => decide (b ≠ 0)

/-! ### Values taking effect -/

/-- R350: the value persists. -/
def persists : ObjVal → Bool
  | .scalar key _ => match lookup (keyIdx key) (keySub key) with
    | .ok (d, _, _) => d.persist
    | .error _ => false
  | .bytes idx sub _ _ => match lookup idx sub with
    | .ok (d, _, _) => d.persist
    | .error _ => false
  | _ => true

/-- R350: persistent values are queued for MRAM as one transaction. -/
def queueNv (mgr : Nat) (vals : List ObjVal) (s : Mach) : Mach :=
  let l := vals.filter persists
  if l = [] then s else { s with mg := { s.mg with nvQueue := s.mg.nvQueue ++ [⟨l, mgr, s.now, false⟩] } }

/-- What follows a scalar's new value. -/
def afterScalar (key old : Nat) (s : Mach) : Mach :=
  let idx := keyIdx key
  let sub := keySub key
  let v := keyGet key s
  if idx = 0x2610 then takeCap s
  else if idx = 0x2434 then lrSplit s
  else if 0x2510 ≤ idx ∧ idx ≤ 0x2514 ∧ sub = 1 then oSet Obj.EST_R0_UOHM (idx - 0x2510) 0 v s
  else if idx = 0x2330 ∧ (sub = 1 ∨ sub = 2) then assignCards s
  else if idx = 0x2620 ∧ sub ≤ 2 then recap 5 s
  else if idx = 0x2621 ∨ (idx = 0x2620 ∧ sub = 5) then refreshCanRect 0 (refreshFeed 1 (refreshFeed 0 (recap 5 s)))
  else if idx = 0x2860 then
    clearCounter (sub - 1) s
  else if idx = 0x1130 ∨ idx = 0x1131 then
    let m := idx - 0x1130 + 1
    closeSessions (fun x => decide (x.mgr = m ∧ x.port < 2 ∧ x.keySlot < 2) && old.testBit x.keySlot && !v.testBit x.keySlot) 5 s
  else if (idx = 0x1100 ∨ idx = 0x1101) ∧ sub = 7 ∧ v = 0 then
    let p := idx - 0x1100
    if s.mg.linkUp.testBit p then
      { s with mg := { s.mg with linkUp := clrBit s.mg.linkUp p, linkAt := sput 0 s.mg.linkAt p s.now } }
    else s
  else s

/-- R42, R43: a header value lies outside the register file, in the shadow page. -/
def headerKey (key : Nat) : Bool :=
  decide (key = Obj.TT_SHADOW_BIN_COUNT.key 0 0 ∨ key = Obj.TT_SHADOW_BIN_WIDTH.key 0 0)

/-- The shadow page is written; a change is one since the last swap (R170). -/
def writeShadow (p : Page) (s : Mach) : Mach :=
  let ch := decide (p ≠ shadowPage s)
  let s := setShadow p s
  { s with eng := { s.eng with changed := s.eng.changed || ch } }

/-- A header value written into the shadow page. -/
def setHeader (key v : Nat) (s : Mach) : Mach :=
  let p := shadowPage s
  writeShadow (if key = Obj.TT_SHADOW_BIN_COUNT.key 0 0 then { p with count := v } else { p with width := v }) s

/-- Table 12.3: the bits that watch the shelf, whose clearing is forwarded (R324). -/
def shelfBits : Nat := 0x38FFF3

/-- A scalar's value takes effect; a write to FLT_STATUS clears, one to FLT_PARTNER_CLEAR clears on the STANDBY module
(R324). -/
def applyScalar (key v : Nat) (s : Mach) : Mach :=
  if key = Obj.FLT_STATUS.key 0 0 then
    clearStatus (if s.role = .standby then without (v &&& shelfBits) s.fc.lines else v) s
  else if key = Obj.FLT_PARTNER_CLEAR.key 0 0 then
    if s.role = .standby then clearStatus (without v s.fc.lines) s else s
  else if headerKey key then setHeader key v s
  else afterScalar key (keyGet key s) (keySet key v s)

/-- A consist entry takes effect: STATE is kept (R282), CONSIST_MISMATCH, FAULT_N and OVERRIDE follow (R284, R331). -/
def applyCst (t e : Nat) (s : Mach) : Mach :=
  let s := setCst t (cstWithState e (cstState (cst t s))) s
  overrideCommitted t (refreshFaultN (refreshMismatch (0x3000 + t) s))

/-- A value takes effect. -/
def applyVal (v : ObjVal) (s : Mach) : Mach :=
  match v with
  | .scalar key x => applyScalar key x s
  | .bytes idx sub off l =>
    if (idx = 0x1100 ∨ idx = 0x1101) ∧ sub = 3 then
      let was := domBytes idx sub 0 16 s
      let s := domPut idx sub off l s
      if nonZero was ∧ domBytes idx sub 0 16 s ≠ was then
        closeSessions (fun x => decide (x.port = idx - 0x1100 ∧ x.local_ = was)) 4 s
      else s
    else if idx = 0x3070 then
      -- TABLE of an OCV header is read-only (R8)
      domPut idx sub off ((l.zip (List.range l.length)).map fun q =>
        if (off + q.2) % 4096 = 1 then domByte idx sub (off + q.2) s else q.1) s
    else domPut idx sub off l s
  | .req rid cls burst => setRequester rid { requester rid s with cls := cls, burst := burst } s
  | .cst t e => applyCst t e s

/-- A consist entry. -/
def isCst : ObjVal → Bool
  | .cst _ _ => true
  | _ => false

/-- Values take effect together; a STANDBY module leaves COMMISSION with the consist that its partner committed; a change that is not charge flow leaves every report where it was (R246), and the
persistent ones are written to MRAM. -/
def applyVals (mgr : Nat) (vals : List ObjVal) (s : Mach) : Mach :=
  if vals = [] then s
  else
    let s := queueNv mgr vals (keepReports (each vals applyVal) s)
    if s.role = .standby ∧ s.mode = .commission ∧ vals.any isCst then setMode .stop s else s

/-! ### Validation (R370) -/

/-- What a scalar would hold once `vals` took effect. -/
def wouldBe (vals : List ObjVal) (key : Nat) (s : Mach) : Nat :=
  match vals.findSome? fun v => match v with
    | .scalar k x => if k = key then some x else none
    | _ => none with
  | some x => x
  | none => if key = Obj.TT_SHADOW_BIN_COUNT.key 0 0 then (shadowPage s).count
    else if key = Obj.TT_SHADOW_BIN_WIDTH.key 0 0 then (shadowPage s).width
    else keyGet key s

/-- A failed check: code, index, subindex. -/
abbrev Fail := Nat × Nat × Nat

/-- A check: the failure it reports where its condition is bad. -/
def failIf (bad : Bool) (code idx sub : Nat) : Option Fail := if bad then some (code, idx, sub) else none

/-- The first failure of a list. -/
def firstFail (l : List (Option Fail)) : Option Fail := l.findSome? id

/-- A value checked as though it were written now. -/
def valFail (v : ObjVal) (s : Mach) : Option Fail :=
  let o := valObj v
  let check := fun (off : Nat) (data : List Byte) => match writeChecks true o.1 o.2 off data s with
    | .ok _ => none
    | .error c => some (c, o.1, o.2)
  match v with
  | .scalar _ x => match lookup o.1 o.2 with
    | .ok (d, _, _) => check 0 (toBytes d.size x)
    | .error c => some (c, o.1, o.2)
  | .bytes _ _ off l => check off l
  | .req _ _ _ => failIf (stateBad 0x3030 0 0 [] s) 0x09 0x3030 0
  | .cst t e => failIf (stateBad 0x3080 0 (32 * t) (toBytes 32 e) s) 0x09 0x3080 0

/-- `CNV_*` pairs of the regulator group (chapter 5). -/
def regulatorFail (vals : List ObjVal) (s : Mach) : Option Fail :=
  let v := fun (d : ObjDef) => wouldBe vals (d.key 0 0) s
  firstFail [
    failIf (decide (v Obj.CNV_PH_PEAK_W < v Obj.CNV_PH_CONT_W)) 0x05 0x2320 1,
    failIf (decide (v Obj.CNV_PH_PEAK_W < v Obj.CNV_ALLFIRE_PH_W)) 0x05 0x2322 3,
    failIf (decide (v Obj.CNV_RESTORE_LOAD_PCT ≤ v Obj.CNV_SHED_LOAD_PCT)) 0x05 0x2323 1]

/-- R327: a mask of the fault group names a C3 bit or bit 63. -/
def maskFail (vals : List ObjVal) (s : Mach) : Option Fail :=
  let cls := fun (n : Nat) => wouldBe vals (Obj.FLT_CLASS.key 0 n) s
  let c3 := (List.range 54).foldl (fun a n => if cls n = 3 then setBit a n else a) (2 ^ 63)
  (List.range 54).findSome? fun n =>
    failIf (decide (wouldBe vals (Obj.FLT_DEP_MASK.key 0 n) s &&& c3 ≠ 0)) 0x05 0x2811 (n + 1)

/-- The fault group's checks. -/
def faultFail (vals : List ObjVal) (s : Mach) : Option Fail :=
  let v := fun (d : ObjDef) => wouldBe vals (d.key 0 0) s
  let i := fun (d : ObjDef) => toSigned 8 (v d)
  firstFail [
    failIf (decide (v Obj.CNV_BUS_SET_MV ≤ v Obj.FLT_BUS_UV_MV ∨ v Obj.FLT_BUS_OV_MV ≤ v Obj.CNV_BUS_SET_MV)) 0x05 0x2820 1,
    failIf (decide (i Obj.FLT_THERMAL_TRIP_C ≤ i Obj.FLT_THERMAL_WARN_C)) 0x05 0x2822 1,
    maskFail vals s]

/-- R75, R354: a valid bit of a slot whose key has not been written since manufacture. -/
def unwritten (idx bits : Nat) (s : Mach) : Bool :=
  [0, 1].any fun b => bits.testBit b && decide (sget 0 s.mg.keyed (keySlotIx idx b) = 0)

/-- The arbiter group's checks. -/
def arbiterFail (vals : List ObjVal) (s : Mach) : Option Fail :=
  let i := fun (d : ObjDef) => toSigned 32 (wouldBe vals (d.key 0 0) s)
  firstFail (
    failIf (decide (i Obj.ARB_C_MAX_W < i Obj.ARB_C_MIN_W)) 0x05 0x2222 1 ::
    (List.range 64).map fun t =>
      failIf (unwritten (0x2140 + t) (wouldBe vals (Obj.TRAY_KEY_VALID.key t 0) s) s) 0x09 (0x2140 + t) 3)

/-- Table 9.11's pairs; `BNK_PRECHARGE_MV` is one of them. -/
def bankFail (vals : List ObjVal) (s : Mach) : Option Fail :=
  let v := fun (d : ObjDef) => wouldBe vals (d.key 0 0) s
  firstFail [
    failIf (decide (v Obj.BNK_FAST_HI_MV ≤ v Obj.BNK_FAST_LO_MV)) 0x05 0x2502 1,
    failIf (decide (v Obj.BNK_DEEP_HI_MV ≤ v Obj.BNK_DEEP_LO_MV)) 0x05 0x2502 3,
    failIf (decide (v Obj.BNK_FAST_TRIP_MV ≤ v Obj.BNK_FAST_HI_MV)) 0x05 0x2502 2,
    failIf (decide (240 * v Obj.BNK_CELL_TRIP_HI_UV ≤ 1000 * v Obj.BNK_DEEP_HI_MV)) 0x05 0x2502 4,
    failIf (decide (1000 * v Obj.BNK_DEEP_LO_MV ≤ 240 * v Obj.BNK_CELL_TRIP_LO_UV)) 0x05 0x2502 3,
    failIf (decide (v Obj.BNK_PRECHARGE_MV < v Obj.BNK_FAST_LO_MV)) 0x05 0x2505 1]

/-- R242: the 2,112 bytes of table `u` once `vals` took effect. -/
def ocvImage (u : Nat) (vals : List ObjVal) (s : Mach) : List Byte :=
  domBytes 0x3070 0 (4096 * u) 2112 (each (vals.filter fun v => match v with
    | .bytes idx _ _ _ => decide (idx = 0x3070)
    | _ => false) applyVal s)

/-- R242: a table's entries rise strictly with j in every column, its CHECK is right and its FORMAT major is 1. -/
def ocvGood (l : List Byte) : Bool :=
  let e := fun (j k : Nat) => byteNum l (32 + (65 * k + j) * 4) 4
  decide (byteNum l 0 1 / 16 = 1) && decide (byteNum l 30 2 = crc16 (l.take 30 ++ l.drop 32)) && !ocvRange 0 (l.take 32)
    && (List.range 8).all fun k => (List.range 64).all fun j => decide (e j k < e (j + 1) k)

/-- The tables that staged bytes touch are good. -/
def ocvFail (vals : List ObjVal) (s : Mach) : Option Fail :=
  let touched := fun (u : Nat) => vals.any fun v => match v with
    | .bytes idx _ off l => decide (idx = 0x3070 ∧ off < 4096 * u + 2112 ∧ 4096 * u < off + l.length)
    | _ => false
  firstFail ([0, 1].map fun u => failIf (touched u && !ocvGood (ocvImage u vals s)) 0x05 0x3070 0)

/-- The timetable group's checks but for the page and the certificate. -/
def timetableFail (vals : List ObjVal) (s : Mach) : Option Fail :=
  let v := fun (d : ObjDef) => wouldBe vals (d.key 0 0) s
  firstFail [
    failIf (decide (v Obj.TRK_PERIOD_MAX_MS < v Obj.TRK_PERIOD_MIN_MS)) 0x05 0x200F 1,
    bankFail vals s,
    ocvFail vals s]

/-- The consist once `vals` took effect. -/
def consistAfter (vals : List ObjVal) (s : Mach) : List Nat :=
  (List.range 64).map fun t => (vals.findSome? fun v => match v with
    | .cst k e => if k = t then some e else none
    | _ => none).getD (cst t s)

/-- The valid key slots of manager `m` once `vals` took effect. -/
def slotsAfter (m : Nat) (vals : List ObjVal) (s : Mach) : Nat := wouldBe vals (Obj.MGMT_PSK_VALID.key m 0) s

/-- R282, R356: the consist group's checks. -/
def consistFail (vals : List ObjVal) (s : Mach) : Option Fail :=
  let l := consistAfter vals s
  let ramp := fun (x : Nat) => decide (x = 0 ∨ 500 < x)
  let bad := l.any fun e => ramp (cstOnRamp e) || ramp (cstOffRamp e) || decide (10000 < cstOnDelay e ∨ 10000 < cstOffDelay e)
    || (cstPriv e && !cstPlanned e)
  firstFail [
    failIf (decide (s.mode = .commission ∧ (slotsAfter 0 vals s = 0 ∨ slotsAfter 1 vals s = 0))) 0x09 0x3080 0,
    failIf (decide (8 < (l.filter cstPriv).length) || bad) 0x05 0x3080 0]

/-- R354 and Table 13.10: the management group's checks. -/
def mgmtFail (vals : List ObjVal) (s : Mach) : Option Fail :=
  firstFail [
    failIf (decide (s.mode ≠ .commission) && decide (slotsAfter 0 vals s = 0)) 0x05 0x1130 3,
    failIf (decide (s.mode ≠ .commission) && decide (slotsAfter 1 vals s = 0)) 0x05 0x1131 3,
    failIf (unwritten 0x1130 (slotsAfter 0 vals s) s) 0x09 0x1130 3,
    failIf (unwritten 0x1131 (slotsAfter 1 vals s) s) 0x09 0x1131 3,
    failIf (decide (wouldBe vals (Obj.MGMT_ENABLE.key 0 0) s = 0 ∧ wouldBe vals (Obj.MGMT_ENABLE.key 1 0) s = 0
      ∧ wouldBe vals (Obj.MGMT_LOOPBACK_AS.key 0 0) s = 0)) 0x05 0x1100 7]

/-- R183: a new tick length that the running model does not fit. -/
def tickFail (vals : List ObjVal) (s : Mach) : Option Fail :=
  let t := wouldBe vals (Obj.ENG_TICK_US.key 0 0) s
  failIf (decide (t ≠ obj Obj.ENG_TICK_US s) && !tickAllowed t s) 0x0D 0x2401 1

/-- R370: every check of a COMMIT of `mask` but the page's. -/
def commitFail (mask : Nat) (staged : List (Nat × ObjVal)) (s : Mach) : Option Fail :=
  let vals := (staged.filter fun p => mask.testBit p.1).map fun p => p.2
  let when := fun (g : Nat) (f : Option Fail) => if mask.testBit g ∧ (staged.any fun p => decide (p.1 = g)) then f else none
  firstFail [vals.findSome? fun v => valFail v s,
    when 0 (regulatorFail vals s), when 1 (faultFail vals s), when 2 (arbiterFail vals s),
    when 3 (timetableFail vals s), (if mask.testBit 4 then consistFail vals s else none), when 5 (mgmtFail vals s),
    when 3 (tickFail vals s)]

/-- R370: the page belongs to this COMMIT. -/
def pageNamed (mask : Nat) (s : Mach) : Bool :=
  mask.testBit 3 && decide (obj Obj.TT_WRITER s = 1) && decide (s.tt.shadow = .opened)

/-! ### Acceptance and effect (R371, R372) -/

/-- The marker of a commit that carries the shadow page. -/
def pageVal : ObjVal := .scalar (Obj.TT_SHADOW_WINDOW.key 0 0) 0

/-- A page as BULK: header, then every row below its bin count. -/
def pageBytes (p : Page) : List Byte :=
  toBytes 4 p.count ++ toBytes 1 p.width ++ toBytes 4 p.seq ++
    (List.range p.count).flatMap fun b => (toBytes 16 (sget rowReset p.rows b)).reverse

/-- A commit or a write to an RW object (mask 64) accepted: forwarded by an ACTIVE module, pending until its effect
point. -/
def acceptVals (mask mgr : Nat) (vals : List (Nat × ObjVal)) (s : Mach) : Mach :=
  let before := pendMask s
  let q := if feedsWrites s then sendBulk bulkCommit (encCommit mask mgr vals) s else (0, s)
  let s := q.2
  let p : Pending :=
    { mask := mask, vals := vals, mgr := mgr, at_ := s.now, acked := !forwards s, solo := !forwards s
      late := decide (s.trk.n ≤ s.trk.bin + 1), bulk := q.1, rw := decide (mask = 64) }
  pendTouch before { s with mg := { s.mg with pend := s.mg.pend ++ [p] } }

/-- The commit may take effect: acknowledged, or applied by this module alone. -/
def pendReady (p : Pending) : Bool := p.acked || p.solo

/-- The groups of `mask` in a pending commit take effect. -/
def takeGroups (mask : Nat) (keep : ObjVal → Bool) (p : Pending) (s : Mach) : Mach :=
  applyVals p.mgr ((p.vals.filter fun q => mask.testBit q.1 && keep q.2).map fun q => q.2) s

/-- A pending commit without the groups of `mask`. -/
def restGroups (mask : Nat) (p : Pending) : Pending :=
  { p with mask := without p.mask mask, vals := p.vals.filter fun q => !mask.testBit q.1 }

/-- Every value. -/
def anyVal (_ : ObjVal) : Bool := true

/-- The groups of the mask 0x73 take effect at a frame epoch: REGULATOR, FAULT, CONSIST, MGMT and writes to RW objects
(Table 13.6, R375). -/
def epochMask : Nat := 0x73

/-- R371: effects at the epoch that begins now, of what was ready before it. -/
def epochEffects (s : Mach) : Mach :=
  let ready := fun (p : Pending) => pendReady p && decide (p.at_ < s.now)
  let due := s.mg.pend.filter ready
  if due.all fun p => decide (p.mask &&& epochMask = 0) then s
  else
    let before := pendMask s
    let s := { s with mg := { s.mg with
      pend := (s.mg.pend.map fun p => if ready p then restGroups epochMask p else p).filter fun p => decide (p.mask ≠ 0) } }
    pendTouch before (each due (takeGroups epochMask anyVal) s)

/-- R47, R372: the page of a pending TIMETABLE group has not swapped in yet. -/
def pageWaits (p : Pending) (s : Mach) : Bool :=
  p.vals.any (fun q => decide (q.2 = pageVal)) && decide (s.tt.shadow = .committed)

/-- Which step-boundary groups of a pending commit take effect now. -/
def stepMask (p : Pending) (s : Mach) : Nat :=
  if !pendReady p || p.late || decide (s.now ≤ p.at_) then 0 else if pageWaits p s then 4 else 12

/-- A value that takes effect after the counters' snapshot (R342). -/
def counterVal : ObjVal → Bool
  | .scalar key _ => decide (keyIdx key = 0x2860)
  | _ => false

/-- R371, R372: ARBITER and TIMETABLE groups at a step boundary; new counter sources are answered for after the
snapshot. -/
def stepEffects (s : Mach) : Mach × List ObjVal :=
  let l := s.mg.pend.map fun p => (p, stepMask p s)
  let due := l.filter fun q => decide (q.1.mask &&& q.2 ≠ 0)
  let before := pendMask s
  let s := { s with mg := { s.mg with
    pend := (l.map fun q => { restGroups q.2 q.1 with late := false }).filter fun p => decide (p.mask ≠ 0) } }
  let s := if due = [] then s else setObj Obj.STG_EFFECT_STEP s.trk.step s
  (pendTouch before (each due (fun q s => takeGroups q.2 (fun v => !counterVal v) q.1 s) s),
    due.flatMap fun q => (q.1.vals.filter fun x => q.2.testBit x.1 && counterVal x.2).map fun x => x.2)

/-- COMMIT_ACK_TIMEOUT (R371): no acknowledgement in 100 ms. -/
def cmdCommitAckTimeout (s : Mach) : Mach :=
  let late := fun (p : Pending) => !pendReady p && decide (p.at_ + 100000000 ≤ s.now)
  let l := s.mg.pend.filter late
  let s := { s with mg := { s.mg with pend := s.mg.pend.map fun p => if late p then { p with solo := true } else p } }
  each l (fun p s => pulse 42 (0xC000 + p.mgr - 1) 1 (sendResync 0 3 s)) s

/-! ### Persistence (R350) -/

/-- A value written into one MRAM copy. -/
def nvPut (l : List ObjVal) (v : ObjVal) : List ObjVal := l.filter (fun x => !samePlace x v) ++ [v]

/-- What one copy holds after a transaction's write: its values; without them where only the other copy took it, since
this one then fails its check; unchanged where neither did. -/
def nvAfter (vals : List ObjVal) (ok other : Bool) (l : List ObjVal) : List ObjVal :=
  if ok then vals.foldl nvPut l
  else if other then l.filter fun x => !vals.any (samePlace x)
  else l

/-- MRAM blocks left in device A (0) or B (1). -/
def blocksLeft (dev : Nat) (s : Mach) : Nat := if dev = 0 then s.life.blocksA else s.life.blocksB

/-- Used MRAM spare blocks of the worse device, %. -/
def mramUsed (s : Mach) : Nat := (819 - min s.life.blocksA s.life.blocksB) * 100 / 819

/-- The values that monitor `n` (0 to 4) reports: subindex positions and values. -/
def ageValues (n v : Nat) (s : Mach) : List (Nat × Nat) :=
  if n = 0 then [(0, v)]
  else if n = 1 then [(1, v % 65536), (2, v / 65536)]
  else if n = 2 then [(3, mramUsed s)]
  else if n = 3 then [(4, v)]
  else [(5, v)]

/-- Table 12.5: the unit that monitor `n` watches: a pseudo-channel, a lane, or the module. -/
def ageUnit (n u : Nat) : Nat := if n = 3 then 0xA000 + u else if n = 4 then 0x7000 + u else 0

/-- AGEING_MONITOR (R403) for pseudo-channel or lane `u`: the eye margin crosses downward, the others upward; a crossing
is recorded again once per 30 days. -/
def cmdAgeingMonitor (n v u : Nat) (s : Mach) : Mach :=
  let l := ageValues n v s
  let s := each l (fun q s => oSet Obj.AGE_PATH_PPM_TO_AGE_EYE_MV 0 q.1 q.2 s) s
  let lim := oGet Obj.AGE_LIMIT_1_TO_AGE_LIMIT_5 0 n s
  let exceeds := l.any fun q => if n = 4 then decide (q.2 < lim) else decide (lim < q.2)
  let last := sget 0 s.life.ageAt n
  let due := decide (last = 0) || decide (last + 30 * 86400 * 1000000000 ≤ s.now + 1)
  if !exceeds then { s with life := { s.life with ageAt := sput 0 s.life.ageAt n 0 } }
  else if due then log 0x080A (ageUnit n u) (n + 1) { s with life := { s.life with ageAt := sput 0 s.life.ageAt n (s.now + 1) } }
  else s

/-- R402: a block of a device is replaced by a spare one, with its record; the third monitor of R403 follows. -/
def spareBlock (dev block : Nat) (s : Mach) : Mach :=
  let s := log 0x080B 0 (dev * 2 ^ 24 + block) (incObj Obj.SPR_ENTRIES { s with life := { s.life with
    blocksA := if dev = 0 then s.life.blocksA - 1 else s.life.blocksA
    blocksB := if dev = 0 then s.life.blocksB else s.life.blocksB - 1 } })
  cmdAgeingMonitor 2 0 0 s

/-- R402: a write to MRAM device `dev` that passed its verification or not: a failed one ends in a spare block, whose
number is free, while one is left; otherwise NVM latches. -/
def mramWrite (dev : Nat) (ok : Bool) (s : Mach) : Bool × Mach :=
  if ok then (true, s)
  else if 0 < blocksLeft dev s then
    let q := draw 24 s
    (true, spareBlock dev q.1 q.2)
  else (false, pulse 40 0 0 s)

/-- PERSISTENT_WRITE_COMPLETE (R350, R377, R402): the oldest transaction is in the copies that took it; `okA` and `okB`
say that the write passed its verification in each MRAM. -/
def cmdPersistentWriteComplete (okA okB : Bool) (s : Mach) : Mach :=
  match s.mg.nvQueue with
  | [] => s
  | t :: r =>
    let after := fun (ok other : Bool) (l : List ObjVal) =>
      if t.gone then (if ok || other then l.filter fun x => !t.vals.any (samePlace x) else l) else nvAfter t.vals ok other l
    let a := mramWrite 0 okA s
    let b := mramWrite 1 okB a.2
    let s := b.2
    let s := { s with mg := { s.mg with
      nvQueue := r
      nvA := after a.1 b.1 s.mg.nvA
      nvB := after b.1 a.1 s.mg.nvB } }
    if a.1 || b.1 then s else pulse 42 (0xC000 + t.mgr - 1) 2 s

end Sys2Proof.Machine
end

