-- ==== Sys2Proof/Machine/Snapshot.lean ====
section
/-! DEFINITION. What one module sends another as a whole: estimator state (R257), the configuration stream and the
snapshot of resynchronisation (R315). The manual names the contents; the coding as 16-byte numbers is the model's. -/

namespace Sys2Proof.Machine

/-! ### Coding values as lists of numbers -/

/-- A coding of `α`: its numbers, and the value read from the front of a list with what is left of it. -/
structure Cod (α : Type) where
  enc : α → List Int
  dec : List Int → α × List Int

/-- A natural number. -/
def cNat : Cod Nat := ⟨fun n => [n], fun l => ((l.headD 0).toNat, l.drop 1)⟩
/-- A truth value. -/
def cBool : Cod Bool := ⟨fun b => [b2n b], fun l => (decide (l.headD 0 = 1), l.drop 1)⟩
/-- A pair. -/
def cPair {α β : Type} (a : Cod α) (b : Cod β) : Cod (α × β) :=
  ⟨fun p => a.enc p.1 ++ b.enc p.2, fun l =>
    let x := a.dec l
    let y := b.dec x.2
    ((x.1, y.1), y.2)⟩
/-- `n` values in a row. -/
def decMany {α : Type} (a : Cod α) : Nat → List Int → List α × List Int
  | 0, l => ([], l)
  | n + 1, l =>
    let x := a.dec l
    let y := decMany a n x.2
    (x.1 :: y.1, y.2)
/-- A list, its length first. -/
def cList {α : Type} (a : Cod α) : Cod (List α) :=
  ⟨fun l => (l.length : Int) :: l.flatMap a.enc, fun l => decMany a (min (l.headD 0).toNat l.length) (l.drop 1)⟩
/-- A record of `n` numbers. -/
def cRec {α : Type} (n : Nat) (enc : α → List Int) (dec : (Nat → Int) → α) : Cod α :=
  ⟨enc, fun l => (dec (fun k => l.getD k 0), l.drop n)⟩
/-- A sparse map whose unlisted keys read as `d`; what is read is put into canonical form. -/
def cMap {α : Type} [DecidableEq α] (d : α) (a : Cod α) : Cod (SMap α) :=
  let c := cList (cPair cNat a)
  ⟨c.enc, fun l => let x := c.dec l; (x.1.foldl (fun m p => sput d m p.1 p.2) [], x.2)⟩
/-- A byte. -/
def cByte : Cod Byte := cRec 1 (fun b => [(b.toNat : Int)]) fun g => BitVec.ofNat 8 (g 0).toNat

/-- A number that may be absent: -1 where it is. -/
def optInt (x : Option Nat) : Int := match x with | some n => n | none => -1
/-- The inverse of `optInt`. -/
def intOpt (x : Int) : Option Nat := if x < 0 then none else some x.toNat
/-- A truth value from a number. -/
def intB (x : Int) : Bool := decide (x = 1)

/-! ### Records -/

/-- An estimation unit. -/
def cUnit : Cod Unit :=
  cRec 27 (fun x => [b2n x.started, x.qc, x.qv, x.sigma, x.sigmaR, x.v1, x.v2, x.i, x.dt, x.lastAt, x.sumT, x.sumV, x.sumO,
      x.sumQ, x.run, x.vPrev, b2n x.pending, x.restAt, optInt x.fullAt, optInt x.emptyAt,
      optInt (x.lastFull.map b2n), b2n x.declared, optInt x.quietAt, x.j, x.jAt, x.temp, optInt x.declAt])
    fun g =>
    { started := intB (g 0)
      qc := g 1
      qv := g 2
      sigma := (g 3).toNat
      sigmaR := (g 4).toNat
      v1 := g 5
      v2 := g 6
      i := g 7
      dt := (g 8).toNat
      lastAt := (g 9).toNat
      sumT := g 10
      sumV := g 11
      sumO := g 12
      sumQ := g 13
      run := (g 14).toNat
      vPrev := g 15
      pending := intB (g 16)
      restAt := (g 17).toNat
      fullAt := intOpt (g 18)
      emptyAt := intOpt (g 19)
      lastFull := (intOpt (g 20)).map fun n => decide (n = 1)
      declared := intB (g 21)
      quietAt := intOpt (g 22)
      j := g 23
      jAt := (g 24).toNat
      temp := g 25
      declAt := intOpt (g 26) }

/-- A tracker state from its code. -/
def trkOf (n : Nat) : TrkState :=
  if n = 0 then .search else if n = 1 then .track else if n = 2 then .locked else if n = 3 then .holdover else .aperiodic
/-- 0x2000.00: the code of a tracker state. -/
def trkCode : TrkState → Nat
  | .search => 0 | .track => 1 | .locked => 2 | .holdover => 3 | .aperiodic => 4

/-- The tracker, but for events that wait for a partner of their own. -/
def cTracker : Cod Tracker :=
  cRec 23 (fun t => [trkCode t.st, t.step, t.n, t.wCode, t.d, optInt t.lenNext, t.bin, t.binT, t.nextT, t.wrapT,
      b2n t.stretch, t.period, t.err, t.missed, t.lastEvt.getD (-1), optInt t.spacing, t.enteredAt, b2n t.hit,
      optInt t.capClose, b2n t.toAper, t.stepsLocked, b2n t.lockedAll + 2 * b2n t.lockSeen, t.offset])
    fun g =>
    { st := trkOf (g 0).toNat
      step := (g 1).toNat
      n := (g 2).toNat
      wCode := (g 3).toNat
      d := (g 4).toNat
      lenNext := intOpt (g 5)
      bin := (g 6).toNat
      binT := (g 7).toNat
      nextT := (g 8).toNat
      wrapT := (g 9).toNat
      stretch := intB (g 10)
      period := (g 11).toNat
      err := g 12
      missed := (g 13).toNat
      lastEvt := (if g 14 < 0 then none else some (g 14))
      spacing := intOpt (g 15)
      enteredAt := (g 16).toNat
      hit := intB (g 17)
      capClose := intOpt (g 18)
      toAper := intB (g 19)
      stepsLocked := (g 20).toNat
      lockedAll := (g 21).toNat.testBit 0
      lockSeen := (g 21).toNat.testBit 1
      offset := g 22 }

/-- The code of a slot's state. -/
def slotCode : SlotState → Nat
  | .waiting => 0 | .live => 1 | .parked => 2 | .revoked => 3 | .held => 4
/-- A slot's state from its code. -/
def slotStOf (n : Nat) : SlotState :=
  if n = 0 then .waiting else if n = 1 then .live else if n = 2 then .parked else if n = 3 then .revoked else .held

/-- A queue slot. -/
def cSlot : Cod Slot :=
  cRec 24 (fun x => [x.seq, x.step, x.dp, x.eff, x.dur, x.key, x.arrival, optInt x.lateBin, b2n x.early, slotCode x.st,
      b2n x.task, b2n x.siding, b2n x.ready, x.order, x.bin, x.span, x.span0, optInt x.endBin, x.revBin, x.revOrder, x.used,
      x.usedJ, x.since, x.port + 8 * b2n x.displaced])
    fun g =>
    { seq := (g 0).toNat
      step := (g 1).toNat
      dp := (g 2).toNat
      eff := (g 3).toNat
      dur := (g 4).toNat
      key := (g 5).toNat
      arrival := (g 6).toNat
      port := (g 23).toNat % 8
      group := none
      lateBin := intOpt (g 7)
      early := intB (g 8)
      st := slotStOf (g 9).toNat
      task := intB (g 10)
      siding := intB (g 11)
      displaced := intB (g 23 / 8)
      ready := intB (g 12)
      order := (g 13).toNat
      bin := (g 14).toNat
      span := (g 15).toNat
      span0 := (g 16).toNat
      endBin := intOpt (g 17)
      revBin := (g 18).toNat
      revOrder := (g 19).toNat
      used := (g 20).toNat
      usedJ := (g 21).toNat
      since := (g 22).toNat }

/-- A requester's record but for its slots. -/
def cReqHead : Cod Requester :=
  cRec 10 (fun r => [r.cls, r.burst, optInt r.floor, optInt r.floorUp, r.power, r.grants, r.parks, r.longest, r.revokes,
      optInt r.lastSeq])
    fun g =>
    { cls := (g 0).toNat
      burst := (g 1).toNat
      floor := intOpt (g 2)
      floorUp := intOpt (g 3)
      power := (g 4).toNat
      grants := (g 5).toNat
      parks := (g 6).toNat
      longest := (g 7).toNat
      revokes := (g 8).toNat
      lastSeq := intOpt (g 9) }

/-- A requester's record. -/
def cReq : Cod Requester :=
  let p := cPair cReqHead (cList cSlot)
  ⟨fun r => p.enc (r, r.slots), fun l =>
    let x := p.dec l
    ({ x.1.1 with slots := x.1.2 }, x.2)⟩

/-- Table 5.9: the state code of a phase. -/
def phCode : PhState → Nat
  | .spare => 0 | .working => 1 | .diode => 2 | .warmShed => 3 | .coldShed => 4 | .faulted => 5
/-- A phase's state from its code. -/
def phOf (n : Nat) : PhState :=
  if n = 0 then .spare else if n = 1 then .working else if n = 2 then .diode else if n = 3 then .warmShed
  else if n = 4 then .coldShed else .faulted

/-- A phase. -/
def cPhase : Cod Phase :=
  cRec 14 (fun x => [phCode x.st, b2n x.deep, x.raw, x.cur, x.gain, x.offs, x.credit, x.sheds, x.faults, x.iPrev, x.trim,
      x.dFrames, x.wFrames, x.wEntry])
    fun g =>
    { st := phOf (g 0).toNat
      deep := intB (g 1)
      raw := g 2
      cur := g 3
      gain := (g 4).toNat
      offs := g 5
      credit := (g 6).toNat
      sheds := (g 7).toNat
      faults := (g 8).toNat
      iPrev := g 9
      trim := g 10
      dFrames := (g 11).toNat
      wFrames := (g 12).toNat
      wEntry := (g 13).toNat }

/-- A bank's compensator. -/
def cBankReg : Cod BankReg :=
  cRec 12 (fun x => x.e ++ x.u ++ [x.p, x.lim, x.ff, x.credit, x.dwell, x.shedAt])
    fun g =>
    { e := [g 0, g 1, g 2]
      u := [g 3, g 4, g 5]
      p := g 6
      lim := (g 7).toNat
      ff := g 8
      credit := (g 9).toNat
      dwell := (g 10).toNat
      shedAt := (g 11).toNat }

/-- The code of a feeder's state in its uplink (Table 10.9). -/
def fdrCode : FdrState → Nat
  | .opened => 0 | .ramping => 1 | .closed => 2 | .tripped => 3

/-- A feeder as commanded and reported. -/
def cFeeder : Cod Feeder :=
  cRec 16 (fun x => [fdrCode x.st, x.cmd, x.ramp, x.curr, b2n x.seated, x.seatedAt, b2n x.used, b2n x.overrode, x.identity,
      b2n x.ocHold, b2n x.reading, x.tries, b2n x.wantClose, x.closeAt, optInt x.deadline, optInt x.openAt])
    fun g =>
    { st := (let n := (g 0).toNat; if n = 0 then .opened else if n = 1 then .ramping else if n = 2 then .closed else .tripped)
      cmd := (g 1).toNat
      ramp := (g 2).toNat
      curr := (g 3).toNat
      seated := intB (g 4)
      seatedAt := (g 5).toNat
      used := intB (g 6)
      overrode := intB (g 7)
      identity := (g 8).toNat
      ocHold := intB (g 9)
      reading := intB (g 10)
      tries := (g 11).toNat
      wantClose := intB (g 12)
      closeAt := (g 13).toNat
      deadline := intOpt (g 14)
      openAt := intOpt (g 15) }

/-- The feeders of a snapshot; what this module's own links report of them stays. -/
def takeFeeders (m : SMap Feeder) (s : Mach) : Mach :=
  each (List.range 64) (fun t s =>
    let x := feeder t s
    setFeeder t { sget {} m t with
      badRun := x.badRun
      lastUp := x.lastUp
      linkBad := x.linkBad
      slotBad := x.slotBad
      goodAt := x.goodAt } s) s

/-- A rectifier as commanded and reported. -/
def cRect : Cod Rect :=
  cRec 8 (fun x => [x.frame, x.lastAt, b2n x.seen, x.mode, x.modeAt, b2n x.echoed, b2n x.healthy, b2n x.failed])
    fun g =>
    { frame := (g 0).toNat
      lastAt := (g 1).toNat
      seen := intB (g 2)
      mode := (g 3).toNat
      modeAt := (g 4).toNat
      echoed := intB (g 5)
      healthy := intB (g 6)
      failed := intB (g 7) }

/-- A feed. -/
def cFeed : Cod Feed :=
  cRec 7 (fun x => [x.env, x.amps, optInt x.aboveAt, b2n x.present, b2n x.lost, x.lostAt, x.mode])
    fun g =>
    { env := (g 0).toNat
      amps := (g 1).toNat
      aboveAt := intOpt (g 2)
      present := intB (g 3)
      lost := intB (g 4)
      lostAt := (g 5).toNat
      mode := (g 6).toNat }

/-- The code of a feed state in 0x2600. -/
def feedCode : FeedState → Nat
  | .none => 0 | .feed1 => 1 | .feed2 => 2 | .transfer => 3 | .rideThrough => 4
/-- A feed state from its code. -/
def feedStOf (n : Nat) : FeedState :=
  if n = 0 then .none else if n = 1 then .feed1 else if n = 2 then .feed2 else if n = 3 then .transfer else .rideThrough

/-- The converter's state from its code in 0x2300. -/
def cnvOf (n : Nat) : CnvState := if n = 0 then .off else if n = 1 then .track else if n = 2 then .regulate else .safe
/-- 0x2300: the code of the converter's state. -/
def cnvCode : CnvState → Nat
  | .off => 0 | .track => 1 | .regulate => 2 | .safe => 3
/-- 0x2500: the code of the banks' state. -/
def bnkCode : BnkState → Nat
  | .off => 0 | .precharge => 1 | .ready => 2 | .failed => 3
/-- The banks' state from its code. -/
def bnkOf (n : Nat) : BnkState := if n = 0 then .off else if n = 1 then .precharge else if n = 2 then .ready else .failed

/-- The places of the start and stop sequences, by code. -/
def seqPlaces : List SeqPlace :=
  [.idle, .discovery, .verify, .feed, .rectOn, .busRamp, .precharge, .privileged, .ordinary, .stopOrdinary, .stopPrivileged,
   .stopRamp, .stopOff]

/-! ### Parts of the module -/

/-- A part of the module: its numbers, and the module with the part read from the front of a list. -/
structure Part where
  enc : Mach → List Int
  dec : Mach → List Int → Mach × List Int

/-- A part with a coding. -/
def part {α : Type} (c : Cod α) (get : Mach → α) (set : α → Mach → Mach) : Part :=
  ⟨fun s => c.enc (get s), fun s l => let x := c.dec l; (set x.1 s, x.2)⟩

/-- Parts one after another. -/
def partsEnc (l : List Part) (s : Mach) : List Int := l.flatMap fun p => p.enc s
/-- Parts read one after another. -/
def partsDec : List Part → List Int → Mach → Mach
  | [], _, s => s
  | p :: r, l, s => let x := p.dec s l; partsDec r x.2 x.1

/-- A number as 16 bytes. -/
def intBytes (l : List Int) : List Byte := l.flatMap fun x => toBytes 16 (ofSigned 128 x)
/-- The numbers of a byte string, at most `n`. -/
def intsOf : Nat → List Byte → List Int
  | 0, _ => []
  | n + 1, l => if l = [] then [] else toSigned 128 (beNat (l.take 16)) :: intsOf n (l.drop 16)

/-- Calibrated values: R0 of the units, loop resistances and gains (R254). -/
def calParts : List Part := [
  part (cList cNat) (fun s => (List.range 5).map fun u => oGet Obj.EST_R0_UOHM u 0 s)
    (fun l s => each (List.range 5) (fun u s => oSet Obj.EST_R0_UOHM u 0 (l.getD u 0) s) s),
  part (cList cNat) (fun s => (List.range 2).map fun x => oGet Obj.CNV_LOOP_RES_UOHM x 0 s)
    (fun l s => each (List.range 2) (fun x s => oSet Obj.CNV_LOOP_RES_UOHM x 0 (l.getD x 0) s) s),
  part (cList cNat) (fun s => (List.range 100).map fun p => (phase p s).gain)
    (fun l s => each (List.range 100) (fun p s => setPhase p { phase p s with gain := l.getD p 0x4000 } s) s)]

/-- Estimator state (R257): units, request timers and the deep bank's residual, calibrated values. -/
def estParts : List Part := [
  part (cMap {} cUnit) (fun s => s.bnk.units) (fun m s => { s with bnk := { s.bnk with units := m } }),
  part cNat (fun s => s.bnk.reqBits) (fun n s => { s with bnk := { s.bnk with reqBits := n } }),
  part (cMap 0 cNat) (fun s => s.bnk.reqAt) (fun m s => { s with bnk := { s.bnk with reqAt := m } }),
  part cNat (fun s => s.bnk.overdue) (fun n s => { s with bnk := { s.bnk with overdue := n } }),
  part (cPair cNat cNat) (fun s => s.bnk.e) (fun p s => { s with bnk := { s.bnk with e := p } }),
  part (cRec 2 (fun p => [p.1, p.2]) fun g => (g 0, g 1)) (fun s => (s.bnk.deepJ, (s.bnk.deepJAt : Int)))
    (fun p s => { s with bnk := { s.bnk with deepJ := p.1, deepJAt := p.2.toNat } })] ++ calParts

/-- R257: the complete estimator state. -/
def estBytes (s : Mach) : List Byte := intBytes (partsEnc estParts s)

/-- R257: the STANDBY module replaces its estimator state. -/
def takeEst (l : List Byte) (s : Mach) : Mach := partsDec estParts (intsOf l.length l) s

/-- The adaptation buffer in use: its place in HBM and length. -/
def adaptAt (s : Mach) : Nat × Nat :=
  let n := adaptBytes s.ldr.inUse
  (s.ldr.slot * 2 ^ 36 + adaptOffset s.ldr.inUse + s.ldr.curBuf * n, n)

/-- R315: the snapshot: tracker; requester table, queues and siding; regulator; estimator; signature table; the engine's
recurrent state and current adaptation buffer; and the commands in force of shelf and converter. -/
def snapParts : List Part := [
  part cTracker (fun s => s.trk) (fun t s => { s with trk := t }),
  part (cMap {} cReq) (fun s => s.arb.reqs) (fun m s => { s with arb := { s.arb with reqs := m } }),
  part (cList (cPair cNat cNat)) (fun s => s.arb.ingress) (fun l s => { s with arb := { s.arb with ingress := l } }),
  part (cList (cPair cNat cNat)) (fun s => s.arb.tasks) (fun l s => { s with arb := { s.arb with tasks := l } }),
  part (cMap 0 cNat) (fun s => s.arb.pointer) (fun m s => { s with arb := { s.arb with pointer := m } }),
  part (cRec 3 (fun p => p) fun g => [g 0, g 1, g 2]) (fun s => [(s.arb.order : Int), (s.arb.stopped : Int), s.arb.corr])
    (fun l s => { s with arb := { s.arb with
      order := (l.getD 0 0).toNat
      stopped := (l.getD 1 0).toNat
      corr := l.getD 2 0 } }),
  part (cPair cBankReg cBankReg) (fun s => s.cnv.banks) (fun b s => { s with cnv := { s.cnv with banks := b } }),
  part (cMap {} cPhase) (fun s => s.cnv.phases) (fun m s => { s with cnv := { s.cnv with phases := m } }),
  part (cRec 2 (fun p => p) fun g => [g 0, g 1]) (fun s => [(cnvCode s.cnv.st : Int), s.cnv.refUv])
    (fun l s => { s with cnv := { s.cnv with st := cnvOf (l.getD 0 0).toNat, refUv := l.getD 1 0 } }),
  part cNat (fun s => bnkCode s.bnk.st) (fun n s => { s with bnk := { s.bnk with st := bnkOf n } })] ++ estParts ++ [
  part (cMap sigUnknown cNat) (fun s => s.sig.tab) (fun m s => { s with sig := { s.sig with tab := m } }),
  part (cList cByte) (fun s => s.eng.state) (fun l s => { s with eng := { s.eng with state := l } }),
  part (cPair cNat (cList cNat))
    (fun s => (s.ldr.curBuf, sgetRun 0 ((s.eng.hbm.map fun p => (p.1, p.2.toNat))) (adaptAt s).1 (adaptAt s).2))
    (fun p s =>
      let s : Mach := { s with ldr := { s.ldr with curBuf := p.1 } }
      { s with eng := { s.eng with hbm := sputRun 0 s.eng.hbm (adaptAt s).1 (p.2.map fun n => BitVec.ofNat 8 n) } }),
  part (cMap {} cFeeder) (fun s => s.fdr.feeders) takeFeeders,
  part (cMap {} cRect) (fun s => s.grd.rects) (fun m s => { s with grd := { s.grd with rects := m } }),
  part (cPair cFeed cFeed) (fun s => s.grd.feeds) (fun p s => { s with grd := { s.grd with feeds := p } }),
  part (cRec 8 (fun p => p) fun g => (List.range 8).map g)
    (fun s => [(feedCode s.grd.st : Int), optInt s.grd.inService, optInt s.grd.incoming, (s.grd.capW : Int),
      (s.grd.capForce : Int), s.grd.tLast, (s.grd.tAt : Int), (s.grd.busRef : Int)])
    (fun l s => { s with grd := { s.grd with
      st := feedStOf (l.getD 0 0).toNat
      inService := intOpt (l.getD 1 0)
      incoming := intOpt (l.getD 2 0)
      capW := (l.getD 3 0).toNat
      capForce := (l.getD 4 0).toNat
      tLast := l.getD 5 0
      tAt := (l.getD 6 0).toNat
      busRef := (l.getD 7 0).toNat } }),
  -- where the start or stop sequence stands (Table 11.1: the module takes its partner's operating state)
  part (cRec 8 (fun p => p) fun g => (List.range 8).map g)
    (fun s => [(seqPlaces.idxOf s.fdr.seq : Int), (s.fdr.seqAt : Int), (s.fdr.stopAt : Int), (s.bnk.preAt : Int),
      optInt s.grd.rampAt, (s.grd.rampFrom : Int), (b2n s.grd.rampDown : Int), optInt s.grd.tx])
    (fun l s => { s with
      fdr := { s.fdr with
        seq := seqPlaces.getD (l.getD 0 0).toNat .idle
        seqAt := (l.getD 1 0).toNat
        stopAt := (l.getD 2 0).toNat }
      bnk := { s.bnk with preAt := (l.getD 3 0).toNat }
      grd := { s.grd with
        rampAt := intOpt (l.getD 4 0)
        rampFrom := (l.getD 5 0).toNat
        rampDown := intB (l.getD 6 0)
        tx := intOpt (l.getD 7 0) } }),
  part (cRec 2 (fun p => p) fun g => [g 0, g 1]) (fun s => [(b2n s.tt.synth : Int), (s.tt.mean : Int)])
    (fun l s => { s with tt := { s.tt with synth := intB (l.getD 0 0), mean := (l.getD 1 0).toNat } })]

/-- R315: the snapshot as bytes. -/
def snapBytes (s : Mach) : List Byte := intBytes (partsEnc snapParts s)
/-- R315: a snapshot taken in. -/
def takeSnap (l : List Byte) (s : Mach) : Mach := partsDec snapParts (intsOf l.length l) s

/-! ### The configuration stream (R315) -/

/-- Every persistent scalar that a manager may write, by key: the partner's configuration. -/
def configKeys : List Nat :=
  (objTable.filter fun d => d.persist && decide (d.acc ≠ .ro ∧ d.ty ≠ .domain ∧ d.ty ≠ .str)).flatMap fun d =>
    (List.range d.insts).flatMap fun i => (List.range d.subs).map fun j => d.key i j

/-- A page. -/
def cPage : Cod Page :=
  let p := cPair (cMap rowReset cNat) (cPair cNat (cPair cNat cNat))
  ⟨fun x => p.enc (x.rows, x.count, x.width, x.seq), fun l =>
    let y := p.dec l
    ({ rows := y.1.1, count := y.1.2.1, width := y.1.2.2.1, seq := y.1.2.2.2 }, y.2)⟩

/-- The byte store that a list of keys and bytes spells, in canonical form. -/
def domOf (l : List (Nat × Byte)) : SMap Byte :=
  l.foldl (fun m p => sput (domDefault (p.1 / 2 ^ 40) (p.1 / 2 ^ 32 % 256) (p.1 % 2 ^ 32)) m p.1 p.2) []

/-- Persisted objects, windows with keys and OCV tables, the consist, requester classes, both pages and the RUNNING
container. -/
def configParts : List Part := [
  part (cList cNat) (fun s => configKeys.map fun k => keyGet k s)
    (fun l s => (configKeys.zip l).foldl (fun s q => keySet q.1 q.2 s) s),
  part (cList (cPair cNat cByte)) (fun s => s.mg.dom) (fun l s => { s with mg := { s.mg with dom := domOf l } }),
  part (cMap 0 cNat) (fun s => s.mg.keyed) (fun m s => { s with mg := { s.mg with keyed := m } }),
  part (cMap cstDefault cNat) (fun s => s.fdr.cst) (fun m s => { s with fdr := { s.fdr with cst := m } }),
  part (cList (cPair cNat (cPair cNat cNat)))
    (fun s => s.arb.reqs.map fun p => (p.1, p.2.cls, p.2.burst))
    (fun l s => each l (fun q s => setRequester q.1 { requester q.1 s with cls := q.2.1, burst := q.2.2 } s) s),
  part (cPair cPage cPage) (fun s => s.tt.pages) (fun p s => { s with tt := { s.tt with pages := p } }),
  part cBool (fun s => s.tt.liveB) (fun b s => { s with tt := { s.tt with liveB := b } }),
  part (cList cByte) (fun s => s.ldr.runA) (fun l s => { s with ldr := { s.ldr with runA := l, runB := l } })]

/-- The configuration stream as bytes. -/
def configBytes (s : Mach) : List Byte := intBytes (partsEnc configParts s)
/-- The configuration stream taken in: persistent values are as the partner's from now on. -/
def takeConfig (l : List Byte) (s : Mach) : Mach := partsDec configParts (intsOf l.length l) s

end Sys2Proof.Machine
end

