-- ==== Sys2Proof/Machine/Boundary.lean ====
section
/-! DEFINITION. The step boundary (R49, Table 2.5) with everything that takes effect there, the end of a bin (R40, R104),
the capture window (R28, R30), phase events and the commands of the tracker and the timetable. -/

namespace Sys2Proof.Machine

/-! ### Spares that enter at a boundary (R302, R321, R391) -/

/-- R321: lane 9 takes the place of the lowest failed fabric lane. -/
def laneSubstitute (s : Mach) : Mach :=
  match bitsBelow s.life.lanesDown 8 with
  | [] => s
  | l :: _ =>
    if s.life.lane9 ≠ 0 then s
    else pulse 53 (0x7000 + l) 0 (incObj Obj.SPR_ENTRIES { s with life := { s.life with
        lane9 := 1
        lane9For := some l
        lane9Lock := false } })

/-- R302: Coupler traffic moves to lane 9. -/
def laneMove (s : Mach) : Mach :=
  if !s.ptn.laneDue then s
  else
    let s := { s with ptn := { s.ptn with laneDue := false } }
    if s.life.lane9 ≠ 0 then s
    else pulse 53 0x7008 0 (setObj Obj.PTN_LANE 9 (incObj Obj.SPR_ENTRIES { s with life := { s.life with
        lane9 := 2
        lane9For := none
        lane9Lock := false } }))

/-- R391: the lowest-numbered spare pair resumes a failed pair's tasks. -/
def resumePair (failed : Nat) (s : Mach) : Mach :=
  match bitsBelow s.life.pairsSpare 14 with
  | [] => s
  | k :: _ => log 0x0808 (0xB000 + k) failed (incObj Obj.SPR_ENTRIES { s with life := { s.life with
      pairsSpare := clrBit s.life.pairsSpare k
      pairsWork := setBit s.life.pairsWork k } })

/-- R391: every suspended task set resumes, in pair order (Table 14.11). -/
def resumePairs (s : Mach) : Mach :=
  let l := sortBy (fun a b => decide (a ≤ b)) (s.life.pairWait.map fun q => q.1)
  let n := popBelow s.life.pairsSpare 14
  each (l.take n) resumePair { s with life := { s.life with
    pairWait := s.life.pairWait.filter fun q => !(l.take n).contains q.1 } }

/-! ### The arbiter's part (R49, R50, R83, R120) -/

/-- The VOID STEP_END of a request of the ended step, with BIN N - 1. -/
def endRequest (n0 rid : Nat) (x : Slot) (s : Mach) : Mach :=
  let s := answer 0xC 8 rid x (n0 - 1) 0 none (noteWait rid x s)
  if x.st = .waiting then groupLess x.group s else s

/-- A requester's record after the boundary: only REQUESTs of the new step stay (R50), a higher floor applies (R83). -/
def requesterNext (r : Requester) (clear : Bool) : Requester :=
  let r := { r with
    slots := (r.slots.filter fun x => x.early).map fun x => { x with early := false }
    floor := match r.floorUp with
      | some f => some f
      | none => r.floor
    floorUp := none }
  if clear then { r with grants := 0, parks := 0, longest := 0, revokes := 0 } else r

/-- An early REQUEST of another number than the new step's, or that came too long before the wrap, has a stale step
(R27, R50, R67). -/
def staleEarly (rid : Nat) (x : Slot) (s : Mach) : Mach :=
  if x.step = s.trk.step ∧ s.trk.wrapT ≤ x.arrival + obj Obj.TRK_EARLY_WINDOW_NS s then s
  else
    let s := incObj Obj.TKT_STEP_VOID (answer 0xC 9 rid { x with step := s.trk.step } s.trk.bin 0 (some (ownTicket x)) s)
    dropSlot rid x.seq s

/-- The arbiter at a wrap: `n0` is the bin count of the ended step. -/
def arbiterWrap (n0 : Nat) (s : Mach) : Mach :=
  let s := each s.arb.reqs (fun p s =>
    each (p.2.slots.filter fun x => !x.early && decide (x.st ≠ .live)) (endRequest n0 p.1) s) s
  let early : List (Nat × Nat) := s.arb.reqs.flatMap fun p => (p.2.slots.filter fun x => x.early).map fun x => (p.1, x.seq)
  let clear := s.arb.clearCtr
  let s : Mach := { s with
    arb := { s.arb with
      reqs := pruneReqs (s.arb.reqs.map fun p => (p.1, requesterNext p.2 clear))
      ingress := s.arb.ingress.filter fun p => early.contains p
      tasks := []
      falls := []
      changes := []
      tails := []
      prior := none
      stopped := 0
      clearCtr := false }
    cnv := { s.cnv with ff := [] }
    tk := { s.tk with trays := s.tk.trays.map fun p => (p.1, { p.2 with holdStep := none, holdEnd := 0 }) } }
  let s := { s with tk := { s.tk with trays := s.tk.trays.filter fun p => decide (p.2 ≠ ({} : TrayTk)) } }
  each early (fun p s => match slotOf p.1 p.2 s with
    | some x => staleEarly p.1 x s
    | none => s) s

/-! ### The boundary -/

/-- R343: the snapshot of every enabled counter; the events of the wrap's own cycle belong to the new step. -/
def snapCounters (step0 : Nat) (s : Mach) : Mach :=
  let en := obj Obj.CTR_SNAP_ENABLE s
  let l := bitsBelow en 64
  let here := cycleCounts s
  { s with ctr := { s.ctr with
      snap := l.foldl (fun m c => sput 0 m c (sget 0 s.ctr.inStep c - sget 0 here c)) s.ctr.snap
      snapStep := l.foldl (fun m c => sput 0 m c step0) s.ctr.snapStep
      inStep := here } }

/-- R312: the ACTIVE module cuts its order at the wrap. -/
def switchCut (s : Mach) : Mach :=
  if s.ptn.switchDue && decide (s.role = .active) then
    let s := drainFresh s
    sendCell 0x0E 0 (toBytes 4 s.ptn.open_.no ++ toBytes 4 s.ptn.open_.records)
      { s with ptn := { s.ptn with switchDue := false, switchAt := some s.cnv.k } }
  else s

/-- A correction that takes effect with the bin that begins now; a fall is answered (R112). -/
def takeCorr (s : Mach) : Mach :=
  match s.arb.corrNext with
  | none => s
  | some c => withSupply 1 (fun s => { s with arb := { s.arb with corr := c, corrNext := none } }) s

/-- R315: a snapshot leaves; the epochs from here on are forwarded. -/
def snapSend (s : Mach) : Mach :=
  (sendBulk bulkResync (BitVec.ofNat 8 1 :: snapBytes s) { s with ptn := { s.ptn with
    snapDue := false
    feeding := true
    open_ := { no := s.cnv.k, start := s.now, lastAt := s.now } } }).2

/-- R315: a snapshot that is due, after the configuration was acknowledged, leaves at the wrap. -/
def snapCut (s : Mach) : Mach := if s.ptn.snapDue && s.ptn.configured then snapSend s else s

/-- R257: at every step boundary the ACTIVE module forwards its estimator state. -/
def forwardEst (s : Mach) : Mach := if feeds s then (sendBulk bulkEstimator (estBytes s) s).2 else s

/-- The rest of the boundary, once tracker, arbiter and page have turned: staged groups, spares, the engine, counters,
the estimator and the grid. -/
def boundaryEffects (step0 tick0 maint0 width0 : Nat) (locked0 rebin swapped : Bool) (s : Mach) : Mach :=
  let p := stepEffects s
  let s := spareEntry p.1
  let s := laneSubstitute (laneMove (resumePairs s))
  let s := engineWrap (rebin || swapped) swapped (engineBoundary tick0 maint0 width0 s)
  let s := snapCounters step0 s
  let s := applyVals 1 p.2 s
  let s := each (List.range 5) (quasiRest locked0) s
  rideThroughEnd (applyCal (noteLinkAnew s))

/-- R49: the boundary, with the tracker of the step that begins. `unlock` says that the tracker unlocks (R32). -/
def boundary (t' : Tracker) (rebin unlock : Bool) (s : Mach) : Mach :=
  let t := s.trk
  let tick0 := obj Obj.ENG_TICK_US s
  let maint0 := obj Obj.TT_MAINT_INTERVAL s
  let width0 := checkWidth s
  let learned := sigLearns s
  let s := if t.bin + 1 = t.n then sigBinEnd t.bin s else { s with sig := { s.sig with samp := [] } }
  let s := if learned then incObj Obj.SIG_STEPS_LEARNED s else s
  let s : Mach := { s with
    trk := t'
    eng := { s.eng with lastW := if t.st = .locked then some t.wCode else s.eng.lastW }
    ptn := { s.ptn with open_ := { s.ptn.open_ with wrap := some t'.wrapT, rebin := rebin } } }
  let s := arbiterWrap t.n s
  let live0 := s.tt.liveB
  let s := pageAtWrap t.n t.wCode rebin s
  let s := boundaryEffects t.step tick0 maint0 width0 t.lockedAll rebin (decide (s.tt.liveB ≠ live0)) s
  let s := switchCut s
  let s := if rebin then sigForget (countEv 194 s) else s
  let s := if unlock then unlocked s else s
  let s := countEv 192 s
  -- DRAIN ends at the next step boundary (R21)
  let s := if s.mode = .drain then enterStop s else s
  snapCut (forwardEst (restBin (row 0 s) (takeCorr s)))

/-- The tracker's commands act in RUN and DRAIN on a module that places wraps (R33). -/
def tracking (s : Mach) : Bool :=
  decide (s.mode = .run ∨ s.mode = .drain) && loops s && decide (s.role ≠ .standby)

/-- STEP_BOUNDARY (R29, R30): the last bin has ended. -/
def cmdStepBoundary (s : Mach) : Mach :=
  if !tracking s || decide (s.trk.bin + 1 ≠ s.trk.n) || decide (s.now * 2 ^ 14 < s.trk.nextT) || s.trk.stretch then s
  else match naturalWrap s with
    | some (t, rebin, unlock) => boundary t rebin unlock s
    | none => { s with trk := { s.trk with stretch := true } }

/-! ### Bins (R40, R99, R104, R112) -/

/-- Grants whose end bin begins are over; their slots empty (R107). -/
def endGrants (s : Mach) : Mach :=
  let b := s.trk.bin
  each s.arb.reqs (fun p s =>
    each (p.2.slots.filter fun x => decide (x.st = .live) && decide ((slotRange x s.trk.n).2 ≤ b))
      (fun x s => dropSlot p.1 x.seq s) s) s

/-- The bin after the bin in progress begins at `at_` (2⁻¹⁴ ns). -/
def nextBin (s : Mach) : Mach :=
  { s with trk := { s.trk with bin := s.trk.bin + 1, binT := s.trk.nextT, nextT := s.trk.nextT + s.trk.d } }

/-- The bin in progress of a step that any role executes ends, and the next begins. -/
def binEnd (s : Mach) : Mach :=
  let b := s.trk.bin
  let s := excursionRun b (sigBinEnd b s)
  let s := takeCorr (nextBin s)
  let s := excursionAct (endGrants s)
  markReady (restBin (row s.trk.bin s) (noteOver s.trk.bin s))

/-- BIN_END (R40). -/
def cmdBinEnd (s : Mach) : Mach :=
  if decide (s.mode = .run ∨ s.mode = .drain) && loops s && decide (s.trk.bin + 1 < s.trk.n)
    && decide (s.trk.nextT ≤ s.now * 2 ^ 14) then binEnd s
  else s

/-! ### Events and the capture window (R24 to R31) -/

/-- A phase event with its time and, from a MARKER, its step number. -/
def phaseEvent (e : Int) (k : Option Nat) (s : Mach) : Mach :=
  let r := acceptEvent e k s
  match r.2 with
  | some (t, rebin) => boundary t rebin false s
  | none => { s with trk := r.1 }

/-- LOAD_EVENT (R25, R26): the latest rack aggregate sample crosses upward. -/
def cmdLoadEvent (s : Mach) : Mach :=
  match s.grd.agg with
  | [] => s
  | (at_, x) :: _ =>
    if !tracking s || decide (obj Obj.TRK_SOURCE s = 0) || !crossed x s then s
    else
      let raw : Int := at_
      let s : Mach := countEv 198 { s with trk := { s.trk with armed := false } }
      let e := raw - s.trk.offset
      let s : Mach := { s with trk := pairCross raw s }
      match holdLoad e s with
      | some t => { s with trk := t }
      | none => phaseEvent e none s

/-- The window of the wrap just placed closes with no event (R28). -/
def windowMissed (s : Mach) : Mach :=
  let t := s.trk
  let m := t.missed + 1
  if t.st = .locked then
    unlocked { s with trk := { t with
      st := .holdover
      missed := 1
      capClose := none
      lockedAll := false
      enteredAt := s.now } }
  else { s with trk := { t with
    missed := m
    capClose := none
    toAper := decide (obj Obj.TRK_HOLDOVER_MAX s < m) } }

/-- R26, R28, R30: the window of TRACK closes: the load event held in it is the step's event, and without one SEARCH
begins. -/
def trackClose (s : Mach) : Mach :=
  match s.trk.held.bind fun e => (acceptEvent e none s).2 with
  | some (t, rebin) => boundary t rebin false s
  | none => boundary (pseudoStep (s.now * 2 ^ 14) .search s.now s.trk) false false s

/-- CAPTURE_WINDOW_CLOSE (R28, R30). -/
def cmdCaptureWindowClose (s : Mach) : Mach :=
  if !tracking s then s
  else
    let t := s.trk
    match t.st with
    | .track =>
      if t.period ≠ 0 ∧ t.stretch ∧ predicted s + captureNs s ≤ s.now then trackClose s else s
    | .search => s
    | .aperiodic => s
    | _ =>
      match t.capClose with
      | none => s
      | some c =>
        if s.now < c then s
        else match t.heldLast with
          | some e => { s with trk := lockUpdate e true s }
          | none => windowMissed s

/-! ### Commit of a page (R46, R170, R370) -/

/-- The page is committed and, on an ACTIVE module, forwarded. -/
def pageAccepted (s : Mach) : Mach :=
  let s := acceptPage s
  let s := if feedsWrites s then (sendBulk bulkPage (pageBytes (shadowPage s)) s).2 else s
  { s with tt := { s.tt with acked := !forwards s } }

/-- The engine's page has been validated (R46, R170). -/
def enginePage (s : Mach) : Mach :=
  let s : Mach := { s with tt := { s.tt with valid := none } }
  match validatePage s with
  | some (c, r) => refusePage c r s
  | none => countEv 258 (incObj Obj.ENG_COMMITS { pageAccepted s with eng := { s.eng with own := true } })

end Sys2Proof.Machine
end

