-- ==== Sys2Proof/Machine/Tickets.lean ====
section
/-! DEFINITION. The Ticket protocol (chapter 3): ingress bundles and their tickets, the arbiter's decision commands, and
egress. A cycle of the arbiter is 1 ns. -/

namespace Sys2Proof.Machine

/-! ### Tags (R73) -/

/-- The 32-byte key of a tray's slot. -/
def trayKey (t k : Nat) (s : Mach) : List Byte := domBytes (0x2140 + t) (1 + k) 0 32 s

/-- TKT_SHELF_ID as 8 bytes. -/
def shelfBytes (s : Mach) : List Byte := toBytes 8 (obj Obj.TKT_SHELF_ID s)

/-- The tag of a ticket whose first 24 bytes are `l`. -/
def ticketTag (t k : Nat) (l : List Byte) (s : Mach) : Nat :=
  beNat ((kmac128 (trayKey t k s) (shelfBytes s ++ l.take 24) 32 "VARAIR-TICKET").take 8)

/-- The tag of an answer whose first 12 bytes are `l`. -/
def answerTag (t k : Nat) (l : List Byte) (s : Mach) : Nat :=
  beNat ((kmac128 (trayKey t k s) (shelfBytes s ++ l.take 12) 32 "VARAIR-ANSWER").take 4)

/-! ### A ticket's fields (Tables 3.3 and 3.4) -/

/-- Bits `[hi:lo]` of a ticket. -/
def tf (w hi lo : Nat) : Nat := w / 2 ^ lo % 2 ^ (hi - lo + 1)
/-- KIND. -/
def tkKind (w : Nat) : Nat := tf w 255 252
/-- KEY_SLOT. -/
def tkSlot (w : Nat) : Nat := tf w 251 251
/-- REQUESTER_ID. -/
def tkRid (w : Nat) : Nat := tf w 246 232
/-- STEP. -/
def tkStep (w : Nat) : Nat := tf w 231 216
/-- SEQ. -/
def tkSeq (w : Nat) : Nat := tf w 215 200

/-- Reserved bits of a ticket's kind are set. -/
def tkReserved (w : Nat) : Bool :=
  let k := tkKind w
  decide (tf w 250 247 ≠ 0) ||
    (if k = 1 then decide (tf w 147 64 ≠ 0)
     else if k = 2 then decide (tf w 165 64 ≠ 0)
     else if k = 3 then decide (tf w 199 64 ≠ 0)
     else decide (tf w 167 64 ≠ 0))

/-! ### What each kind does (R64, R70 to R72, R83, R89) -/

/-- A VOID for a REQUEST that takes no slot (R435). -/
def voidAtOnce (w reason : Nat) (g : Option Nat) (s : Mach) : Mach :=
  let step := if reason = 9 then s.trk.step else tkStep w
  let a : Answer := ⟨0xC, reason, tkRid w, tkSeq w, step, s.trk.bin, 0, signSlot (tkRid w / 512) (tkSlot w) s, s.now, some s.now⟩
  let s := countEv 71 s
  let s := if reason = 9 then incObj Obj.TKT_STEP_VOID s else s
  addAnswer a g s

/-- R50, R70: a REQUEST of the next step is held: at most the early window before the predicted wrap in LOCKED and
HOLDOVER; elsewhere the wrap itself decides. The next step's number may be an adopted one (R27). -/
def earlyAdmitted (w : Nat) (s : Mach) : Bool :=
  decide (tkStep w = nextStepNo s.trk)
    && (decide (s.trk.st ≠ .locked ∧ s.trk.st ≠ .holdover)
      || decide (predicted s ≤ s.now + obj Obj.TRK_EARLY_WINDOW_NS s))

/-- R62: a REQUEST joins the ingress order; those of frames that complete in one cycle stand in the order of their
lanes. -/
def joinIngress (lane rid seq : Nat) (s : Mach) : Mach :=
  let later := fun (p : Nat × Nat) => (slotOf p.1 p.2 s).any fun y => decide (y.arrival = s.now ∧ lane < y.port)
  { s with arb := { s.arb with ingress := insertBy (fun _ p => later p) (rid, seq) s.arb.ingress } }

/-- A REQUEST: VOID at once (R435), or a slot and a place in the ingress order. -/
def requestTicket (lane w : Nat) (resv : Bool) (g : Option Nat) (s : Mach) : Mach :=
  let rid := tkRid w
  let r := requester rid s
  let now := decide (tkStep w = s.trk.step)
  let early := !now && earlyAdmitted w s
  if resv then voidAtOnce w 0xD g s
  else if !now && !early then voidAtOnce w 9 g s
  else if 4 ≤ r.slots.length then voidAtOnce w 0xC g s
  else
    let eff := tf w 183 166
    let late := now && decide (eff < s.trk.n) && decide (binStartQ eff s < s.now * 2 ^ 14)
    let x : Slot :=
      { seq := tkSeq w
        step := tkStep w
        dp := tf w 199 184
        eff := eff
        dur := tf w 165 148
        key := tkSlot w
        arrival := s.now
        port := lane
        group := g
        lateBin := if late then some s.trk.bin else none
        early := early
        st := .waiting
        task := false
        siding := false
        displaced := false
        ready := false
        order := 0
        bin := 0
        span := 0
        span0 := 0
        endBin := none
        revBin := 0
        revOrder := 0
        used := 0
        usedJ := 0
        since := 0 }
    let s := if late then incObj Obj.TKT_LATE_EFFECTIVE (countEv 75 s) else s
    joinIngress lane rid (tkSeq w) (setRequester rid { r with slots := r.slots ++ [x] } s)

/-- A RELEASE of a LIVE grant (R107, Table 3.9). -/
def releaseLive (rid : Nat) (x : Slot) (stop : Nat) (s : Mach) : Mach :=
  let hi := (slotRange x s.trk.n).2
  if stop ≤ s.trk.bin then
    markReady (dropFf rid x (dropSlot rid x.seq (noteG false (max s.trk.bin x.bin) hi (-(x.dp : Int)) s)))
  else if stop < hi then
    let s := endFf rid x (.endBin stop) (noteG false (max stop x.bin) hi (-(x.dp : Int)) s)
    let s := putSlot rid { x with endBin := some stop } s
    if stop ≤ s.trk.bin + 1 then markReady s else s
  else s

/-- A RELEASE of its bundle's group (R70, R89): one of another step, or of an unknown REF_SEQ, is discarded and counted;
one of a request that is not LIVE is answered VOID WITHDRAWN, and the REQUEST's own group waits for no more. -/
def releaseTicket (w : Nat) (g : Option Nat) (s : Mach) : Mach :=
  let rid := tkRid w
  match (if tkStep w = s.trk.step then slotOf rid (tf w 199 184) s else none) with
  | none => groupLess g (incObj Obj.TKT_RELEASE_UNKNOWN s)
  | some x =>
    if x.st = .live then groupLess g (releaseLive rid x (tf w 183 166) s)
    else
      let s := voidSlot rid x 0xB s.trk.bin (some ⟨tkSlot w, s.now, g⟩) s
      if x.st = .waiting then groupLess x.group s else s

/-- A REPORT (R64, R83): a lower floor applies now, a higher one from the next boundary. -/
def reportTicket (w : Nat) (s : Mach) : Mach :=
  let rid := tkRid w
  let r := requester rid s
  let f := tf w 183 168
  let r := { r with power := tf w 199 184 }
  if f < floorOf rid s then setRequester rid { r with floor := some f, floorUp := none } s
  else setRequester rid { r with floorUp := if f = floorOf rid s then none else some f
                                 floor := if f = floorOf rid s then some f else r.floor } s

/-- A MARKER (R24, R26, R27): the quorum's completion is a MARKER event. -/
def markerTicketIn (w : Nat) (s : Mach) : Mach :=
  if obj Obj.TRK_SOURCE s = 1 ∨ ¬ tracking s then s
  else
    let r := markerTicket (tkStep w) (tkRid w) s
    let s : Mach := { s with trk := r.1 }
    match r.2 with
    | none => s
    | some e =>
      let s : Mach := countEv 197 { s with trk := pairMarker e s }
      phaseEvent e (some (tkStep w)) s

/-- An accepted ticket acts (R71); one that awaits no answer leaves its bundle's group. -/
def ticketActs (lane w : Nat) (resv : Bool) (g : Option Nat) (s : Mach) : Mach :=
  let rid := tkRid w
  let s := setRequester rid { requester rid s with lastSeq := some (tkSeq w) } s
  let s := orderTicket lane rid (tkSeq w) (incObj Obj.TKT_RX_TICKETS (countEv 64 s))
  let s := if feeds s then { s with ptn := { s.ptn with seen := toBytes 32 w :: s.ptn.seen.take 32767 } } else s
  match tkKind w with
  | 1 => requestTicket lane w resv g s
  | 2 => releaseTicket w g s
  | 3 => groupLess g (markerTicketIn w s)
  | _ => groupLess g (reportTicket w s)

/-! ### Ingress (R61, R71, R74, R90) -/

/-- R74: a ticket of the bundle of tray `t` is genuine. -/
def ticketGenuine (t : Nat) (l : List Byte) (s : Mach) : Bool :=
  let w := beNat l
  decide (tkRid w / 512 = t) && (keyValid t s).testBit (tkSlot w)
    && decide (ticketTag t (tkSlot w) l s = w % 2 ^ 64)

/-- R74: a discarded ticket is counted and latches TICKET_AUTH. -/
def authFail (t : Nat) (s : Mach) : Mach :=
  let x := tray t s
  let s := setTray t { x with authFail := (x.authFail + 1) % 2 ^ 32 } s
  pulse 17 (0x3000 + t) 0 (countEv 66 (incObj Obj.TKT_AUTH_FAIL s))

/-- R71: the SEQ is ahead of the last one accepted. -/
def seqAhead (w : Nat) (s : Mach) : Bool :=
  match (requester (tkRid w) s).lastSeq with
  | none => true
  | some l => let d := (tkSeq w + 65536 - l) % 65536; decide (1 ≤ d ∧ d ≤ 32767)

/-- A ticket of no defined kind, or one other than a REQUEST with a reserved field set, is discarded (R64, R89). -/
def ticketVoid (w : Nat) (resv : Bool) : Bool :=
  decide (tkKind w = 0 ∨ 4 < tkKind w) || (resv && decide (tkKind w ≠ 1))

/-- One ticket of a bundle of tray `t` and minor version `minor` from fabric lane `lane`, in its answer group. -/
def ticketIn (lane t minor : Nat) (g : Option Nat) (l : List Byte) (s : Mach) : Mach :=
  let w := beNat l
  let resv := tkReserved w && decide (minor = 0)
  if !ticketGenuine t l s then groupLess g (authFail t s)
  else if ticketVoid w resv then groupLess g s
  else if !seqAhead w s then groupLess g (incObj Obj.TKT_SEQ_DISCARD s)
  else ticketActs lane w resv g s

/-- A record that waits for its ticket takes it. -/
def fillWait (rid low : Nat) (bytes : List Byte) : List LoopInput → Option (List LoopInput)
  | [] => none
  | .wait c r l since f :: rest =>
    if r = rid ∧ l = low then some (.ticket c bytes :: rest)
    else (fillWait rid low bytes rest).map fun q => .wait c r l since f :: q
  | x :: rest => (fillWait rid low bytes rest).map fun q => x :: q

/-- The first forwarded epoch with such a record takes it. -/
def fillEpochs (rid low : Nat) (bytes : List Byte) : List Epoch → Option (List Epoch)
  | [] => none
  | e :: rest => match fillWait rid low bytes e.items with
    | some l => some ({ e with items := l } :: rest)
    | none => (fillEpochs rid low bytes rest).map fun q => e :: q

/-- R301: a ticket for a record that came before it; false where no record waits. -/
def fillRecord (rid low : Nat) (bytes : List Byte) (s : Mach) : Mach × Bool :=
  match fillEpochs rid low bytes s.ptn.epochs with
  | some l => ({ s with ptn := { s.ptn with epochs := l } }, true)
  | none => match fillWait rid low bytes s.ptn.items with
    | some l => ({ s with ptn := { s.ptn with items := l } }, true)
    | none => (s, false)

/-- A module that follows, or that has cut its order in a switchover, keeps tickets instead of answering them. -/
def keepsTickets (s : Mach) : Bool :=
  decide (s.role = .standby) || (s.ptn.switchAt.isSome && s.ptn.claimAt.isNone)

/-- A STANDBY module keeps a genuine ticket of bundle `g` for the record that will name it (R301). -/
def ticketKept (t minor g : Nat) (l : List Byte) (s : Mach) : Mach :=
  let w := beNat l
  if !ticketGenuine t l s then authFail t s
  else if ticketVoid w (tkReserved w && decide (minor = 0)) then s
  else
    let b := BitVec.ofNat 8 minor :: l
    let r := fillRecord (tkRid w) (tkSeq w % 256) b s
    let s := r.1
    { s with ptn := { s.ptn with
      tickets := if r.2 then s.ptn.tickets else s.ptn.tickets ++ [(s.now, tkRid w, tkSeq w, b)]
      own := s.ptn.own ++ [(s.now, .ticket g b)] } }

/-- The 32-byte tickets of a payload. -/
def ticketsOf : Nat → List Byte → List (List Byte)
  | 0, _ => []
  | n + 1, l => l.take 32 :: ticketsOf n (l.drop 32)

/-- The frame of a bundle, without its FCS (R56): its two MAC addresses, and what follows from its tag or Ethertype on. It
gives the source address as R58 learns it, whether the UDP checksum holds,
and the bundle; none for a frame of any other kind. 802.1Q tags are skipped. -/
def bundleOf (macs frame : List Byte) (s : Mach) : Option (List Byte × Bool × List Byte) :=
  let tagged := decide (beNat (frame.take 2) = 0x8100)
  let l := frame.drop (if tagged then 4 else 0)
  let kind := beNat (l.take 2)
  let p := l.drop 2
  if obj Obj.TKT_ENCAP s = 0 then
    if kind = obj Obj.TKT_ETHERTYPE s then some (macs.drop 6, true, p) else none
  else
    let u := p.drop 40
    let n := beNat ((u.drop 4).take 2)
    if kind = 0x86DD ∧ (p.headD 0).toNat / 16 = 6 ∧ (p.getD 6 0).toNat = 17 ∧ 8 ≤ u.length
        ∧ beNat ((u.drop 2).take 2) = obj Obj.TKT_UDP_PORT s then
      some ((p.drop 8).take 16 ++ u.take 2, udpSumOk (p.drop 8) u n, (u.take n).drop 8)
    else none

/-- R61: why a bundle is discarded: `some true` for its major version alone, `some false` for any other reason. A bundle
shorter than its header, and one whose COUNT is 0 or above Table 3.1, disagree in COUNT and payload length (DESIGN
CHOICE, log entry 129). -/
def bundleBad (payload : List Byte) (fcsOk : Bool) (s : Mach) : Option Bool :=
  let h := beNat (payload.take 16)
  let count := tf h 105 96
  let t := tf h 111 106
  let cap := if obj Obj.TKT_ENCAP s = 0 then 280 else 279
  if !fcsOk || decide (payload.length < 16) || decide (crc16 (payload.take 14) ≠ h % 65536) then some false
  else if tf h 127 124 ≠ 1 then some true
  else if tf h 119 112 ≠ 1 ∨ count = 0 ∨ cap < count ∨ payload.length ≠ 16 + 32 * count then some false
  else if (obj Obj.TKT_TRAY_ENABLE s).testBit t = false ∨ missing t s then some false
  else none

/-- The tickets of an accepted bundle, with one open answers bundle for their answers (R68). -/
def bundleTickets (lane t minor : Nat) (l : List (List Byte)) (s : Mach) : Mach :=
  let g := s.tk.group
  let s : Mach := { s with tk := { s.tk with group := g + 1 } }
  if keepsTickets s then each l (ticketKept t minor g) s
  else
    let s : Mach := { s with tk := { s.tk with open_ := s.tk.open_ ++ [⟨t, 2, some g, l.length + 1, s.now, []⟩] } }
    flushOrder false 64 (groupLess (some g) (each l (ticketIn lane t minor (some g)) s))

/-- An accepted bundle (R22, R23, R58): it is taken in RUN and DRAIN by a module that executes the loop. -/
def bundleIn (lane : Nat) (src payload : List Byte) (s : Mach) : Mach :=
  if !arbRuns s || !loops s then s
  else
    let h := beNat (payload.take 16)
    let t := tf h 111 106
    let s := countEv 65 (incObj Obj.TKT_RX_BUNDLES s)
    let s := setTray t { tray t s with addr := src, port := lane } s
    bundleTickets lane t (tf h 123 120) (ticketsOf (tf h 105 96) (payload.drop 16)) s

/-- INGRESS_BUNDLE (R56, R61, R90): a bundle is checked, and counted where it fails, in every state after BOOT. -/
def cmdIngressBundle (lane : Nat) (macs frame : List Byte) (fcsOk : Bool) (s : Mach) : Mach :=
  if s.mode = .boot then s
  else match bundleOf macs frame s with
    | none => s
    | some (src, sumOk, payload) => match bundleBad payload (fcsOk && sumOk) s with
      | some true => incObj Obj.TKT_VERSION_DISCARD s
      | some false => incObj Obj.TKT_BUNDLE_DISCARD s
      | none => bundleIn lane src payload s

/-! ### Decisions (R101 to R113) -/

/-- The arbiter decides here: RUN or DRAIN, on a module that does not follow another's order. -/
def arbOpen (s : Mach) : Bool := arbRuns s && loops s && decide (s.role ≠ .standby)

/-- R103: the lane has decided its one item of this cycle. -/
def laneActed (lane : Nat) (s : Mach) : Bool := decide (s.arb.actedAt = s.now) && s.arb.acted.testBit lane

/-- The lane decides its one item of this cycle now. -/
def laneActs (lane : Nat) (s : Mach) : Mach :=
  { s with arb := { s.arb with
    actedAt := s.now
    acted := setBit (if s.arb.actedAt = s.now then s.arb.acted else 0) lane } }

/-- One lane decides its ingress head where R103 chooses it. -/
def laneDecides (lane : Nat) (s : Mach) : Mach :=
  if laneActed lane s then s
  else match headFirst lane s with
    | some h => decideRequest h.1 h.2 (laneActs lane s)
    | none => s

/-- One lane offers its siding where R103 chooses that. -/
def laneOffers (lane : Nat) (s : Mach) : Mach :=
  if laneActed lane s then s
  else match offerFirst lane s with
    | some q => offer lane q.1 q.2 (laneActs lane s)
    | none => s

/-- The revocation unit takes its oldest fall task. -/
def unitFall (s : Mach) : Mach :=
  match s.arb.falls with
  | [] => s
  | t :: r => fallTask t { s with arb := { s.arb with falls := r } }

/-- The oldest preemption task, once the cycle of its hand-over is past, so that the tasks of that cycle stand in lane
order. -/
def nextTask (s : Mach) : Option (Nat × Nat) :=
  match s.arb.tasks with
  | q :: _ => if (slotOf q.1 q.2 s).all fun x => decide (x.since < s.now) then some q else none
  | [] => none

/-- The revocation unit takes its oldest preemption task, once no fall task waits (R108). -/
def unitPreempt (s : Mach) : Mach :=
  match s.arb.falls, nextTask s with
  | [], some q => preempt q.1 q.2 s
  | _, _ => s

/-- REQUEST_DECISION (R101, R103). -/
def cmdRequestDecision (lane : Nat) (s : Mach) : Mach := if arbOpen s then laneDecides lane s else s
/-- SIDING_OFFER (R103, R104). -/
def cmdSidingOffer (lane : Nat) (s : Mach) : Mach := if arbOpen s then laneOffers lane s else s
/-- PREEMPTION_TASK (R108, R109). -/
def cmdPreemptionTask (s : Mach) : Mach := if arbOpen s then unitPreempt s else s
/-- FALL_TASK (R108, R112). -/
def cmdFallTask (s : Mach) : Mach := if arbOpen s then unitFall s else s

/-- One cycle of every part of the arbiter, as a STANDBY module runs it. -/
def arbiterCycle (s : Mach) : Mach :=
  unitPreempt (unitFall (each (List.range 8) (fun l s => laneOffers l (laneDecides l s)) s))

/-- Work is left for the arbiter. -/
def arbiterBusy (s : Mach) : Bool :=
  decide (s.arb.tasks ≠ [] ∨ s.arb.falls ≠ [])
    || (List.range 8).any fun l => (ingressHead l s).isSome || (bestOffer l s).isSome

/-! ### Egress (R68, R69, R88) -/

/-- EGRESS_HOLD_EXPIRY (R68). -/
def cmdEgressHoldExpiry (t prio : Nat) (s : Mach) : Mach :=
  let mine := fun (b : OpenBundle) => decide (b.tray = t ∧ b.prio = prio ∧ b.group = none)
  match s.tk.open_.find? mine with
  | none => s
  | some b =>
    if s.now < b.first + obj Obj.TKT_EGRESS_HOLD_NS s then s
    else closeBundle b { s with tk := { s.tk with open_ := s.tk.open_.filter fun b => !mine b } }

/-- The next bundle of a port: the lowest priority number, then the order of decision. -/
def nextReady (port : Nat) (s : Mach) : Option ReadyBundle :=
  let l := s.tk.ready.filter fun b => decide (b.port = port)
  let key := fun (b : ReadyBundle) => b.prio * 2 ^ 64 + b.order
  (sortBy (fun a b => decide (key a ≤ key b)) l).head?

/-- Table 3.2: the header of an egress bundle; BIN_DURATION truncates d to its unit (DESIGN CHOICE, log entry 129). -/
def bundleHeader (b : ReadyBundle) (s : Mach) : List Byte :=
  let w := 0x10 <<< 120 ||| (if b.prio = 0 then 3 else 2) <<< 112 ||| b.tray <<< 106 ||| b.answers.length <<< 96
    ||| (tray b.tray s).seq % 65536 <<< 80 ||| (s.trk.step % 65536) <<< 64 ||| (s.trk.bin % 2 ^ 18) <<< 46
    ||| (s.trk.d / 2 ^ 7 % 2 ^ 24) <<< 22 ||| b2n s.slotB <<< 21
  toBytes 16 (w ||| crc16 ((toBytes 16 w).take 14))

/-- An answer with its tag (R65, R73). -/
def signedAnswer (t : Nat) (s : Mach) (a : Answer) : List Byte :=
  let l := toBytes 16 (ansWord a)
  l.take 12 ++ toBytes 4 (answerTag t a.key l s)

/-- R88: the time of an answer that the rule measures. -/
def measureAnswer (a : Answer) (s : Mach) : Mach :=
  match a.arrival with
  | none => s
  | some t =>
    let ns := s.now - t
    let s := setObj Obj.TKT_MAX_ANSWER_NS (max ns (obj Obj.TKT_MAX_ANSWER_NS s)) s
    if 6000 < ns then pulse 16 0 0 (countEv 74 (incObj Obj.TKT_LATE_ANSWER s)) else s

/-- A bundle has left: counters, the check of R86, the answers' times. -/
def bundleLeft (b : ReadyBundle) (s : Mach) : Mach :=
  let x := tray b.tray s
  let due := if b.prio = 0 then [s.now + obj Obj.TKT_BRAKE_CHECK_US s * 1000] else []
  let s := setTray b.tray { x with seq := (x.seq + 1) % 65536, checks := x.checks ++ due } s
  let s := if b.prio = 0 then incObj Obj.TKT_BRAKE_SENT (countEv 73 s) else s
  each b.answers measureAnswer s

/-- R56: a bundle leaves in the encapsulation of TKT_ENCAP, tagged with priority code point 7 where TKT_VLAN is set. -/
def encapsulated (port t : Nat) (l : List Byte) (s : Mach) : Sent :=
  let v := obj Obj.TKT_VLAN s
  let udp := decide (obj Obj.TKT_ENCAP s = 1)
  .bundle port (if v = 0 then 0 else 7 * 2 ^ 13 + v) (if udp then 0x86DD else obj Obj.TKT_ETHERTYPE s)
    (if udp then obj Obj.TKT_UDP_PORT s else 0) (tray t s).addr l

/-- EGRESS_SEND (R69): nothing goes to a tray without a valid key slot (R73). -/
def cmdEgressSend (port : Nat) (s : Mach) : Mach :=
  match nextReady port s with
  | none => s
  | some b =>
    if !outputs s then s
    else
      let s : Mach := { s with tk := { s.tk with ready := s.tk.ready.filter fun c => decide (c.order ≠ b.order) } }
      if keyValid b.tray s = 0 then s
      else
        let l := bundleHeader b s ++ b.answers.flatMap (signedAnswer b.tray s)
        bundleLeft b (send (encapsulated port b.tray l s) s)

/-! ### BRAKE (R85, R86) -/

/-- TKT_BRAKE_REQUEST (R85): BRAKE with reason MANAGER to each tray named. -/
def brakeRequested (v : Nat) (s : Mach) : Mach :=
  each (bitsBelow v 64) (fun t s => brake t 7 s) (orderExt 4 none s)

/-- BRAKE_CHECK (R86): the oldest check that is still to come. -/
def cmdBrakeCheck (t : Nat) (s : Mach) : Mach :=
  let x := tray t s
  match x.checks with
  | [] => s
  | c :: r =>
    if s.now < c then s
    else
      let s := setTray t { x with checks := r } s
      let p := feederPower t s
      if keyValid t s ≠ 0 ∧ trayFloor t s + obj Obj.TKT_BRAKE_MARGIN_W s < p then
        let s := setTray t { tray t s with noncomp := (x.noncomp + 1) % 2 ^ 32 } s
        log 0x0500 (0x3000 + t) p (incObj Obj.TKT_BRAKE_NONCOMPLIANT s)
      else s

end Sys2Proof.Machine
end

