-- ==== Sys2Proof/Machine/Frame.lean ====
section
/-! DEFINITION. The PWM frame (chapter 5): the compute point with everything that falls on it, the phases' own
transitions, card uplinks, and what each frame tells the partner (R300, R303). -/

namespace Sys2Proof.Machine

/-! ### Phases (R137, R143, R144) -/

/-- The row of the bin in which a frame that begins at `f0` (eighth ns) begins: past the predicted wrap, that of bin 0 as
the wrap will leave it (R15, R47); a step whose end waits for an event stays in bin N - 1 (R30). -/
def frameRowAt (f0 : Nat) (s : Mach) : Nat :=
  let here := row (binAt8 f0 s) s
  if s.trk.stretch ∨ f0 * 2 ^ 11 < binStartQ s.trk.n s ∨ ¬ (s.mode = .run ∨ s.mode = .drain) then here
  else match naturalWrap s with
    | some (t, rebin, _) => row 0 (pageAtWrap s.trk.n s.trk.wCode rebin { s with trk := t })
    | none => here

/-- The row of the bin in which the frame computed next begins. -/
def frameRow (s : Mach) : Nat := frameRowAt (max s.cnv.frameAt (s.now * 8)) s

/-- PHASE_SHED (R143): the highest-numbered WORKING phase of a bank, at most one per bank in a frame. -/
def phaseShed (deep : Bool) (s : Mach) : Mach :=
  let x := bankReg deep s
  match (phasesIn deep .working s).getLast? with
  | none => s
  | some p =>
    if s.cnv.st = .regulate ∧ obj Obj.CNV_SHED_DWELL s ≤ x.dwell ∧ nNeed deep s < nWork deep s ∧ rowShed (frameRow s)
        ∧ x.shedAt ≠ s.cnv.k then
      let y := phase p s
      let s := setPhase p { y with
        st := .warmShed
        sheds := min (y.sheds + 1) 0xFFFF
        wEntry := s.cnv.k
        wFrames := 0
        idleAt := none } s
      countEv 131 (setBankReg deep { bankReg deep s with shedAt := s.cnv.k } s)
    else s

/-- WARM_HOLD_EXPIRY (R143). -/
def warmHold (p : Nat) (s : Mach) : Mach :=
  let x := phase p s
  if x.st = .warmShed ∧ obj Obj.CNV_WARM_HOLD s ≤ x.wFrames then
    setPhase p { x with st := .coldShed, idleAt := none, wFrames := 0 } s
  else s

/-- COLD_WAKE_EXPIRY (R144): the phase is WARM_SHED; its IDLE command makes it WORKING at the next frame. -/
def coldWake (p : Nat) (s : Mach) : Mach :=
  let x := phase p s
  match x.st, x.idleAt with
  | .coldShed, some a =>
    if s.now < a + obj Obj.CNV_COLD_WAKE_US s * 1000 then s
    else countEv 131 (setPhase p { x with
      st := .warmShed
      sheds := min (x.sheds + 1) 0xFFFF
      wEntry := s.cnv.k
      wFrames := 0 } s)
  | _, _ => s

/-- OVERLOAD_CREDIT_EXHAUSTED (R135): with no credit left, the limit in force falls to the continuous one. -/
def creditGone (deep : Bool) (s : Mach) : Mach :=
  let x := bankReg deep s
  if x.credit = 0 then setBankReg deep { x with lim := min x.lim (bankLimit deep s) } s else s

/-! ### Supply terms and cards at the compute point (R94, R147) -/

/-- s_fast and s_deep computed anew; a fall is answered, a rise makes siding entries ready (R94, R104, R112). -/
def refreshSupply (s : Mach) : Mach :=
  withSupply 1 (fun s => { s with arb := { s.arb with sFast := bankSupply false s, sDeep := bankSupply true s } }) s

/-- R147: the cards whose removal is due leave. -/
def removeDue (s : Mach) : Mach :=
  each (List.range 25) (fun c s => match (card c s).doomed with
    | some bits => if (card c s).removed then setCard c { card c s with doomed := none } s else removeCard c bits s
    | none => s) s

/-- R152: while the converter is SAFE the cards receive TRIP. -/
def downlinks (s : Mach) : Mach :=
  if s.ptn.gate then s
  else each (List.range 25) (fun c s => send (.card c (cardFrame c (decide (s.cnv.st = .safe)) s)) s) s

/-- R311: for the frames after confirmation, a phase that never follows its command is treated as faulted. -/
def followCheck (s : Mach) : Mach :=
  if s.ptn.follow = 0 then s
  else
    let tol := obj Obj.PTN_FOLLOW_TOL_MA s
    let off := fun (p : Nat) => let x := phase p s
      decide (x.st = .working) && decide (tol < (measMa p s - x.iPrev).natAbs)
    let astray := (List.range 100).foldl (fun m p => if off p then sput 0 m p (sget 0 s.ptn.astray p + 1) else m) ([] : SMap Nat)
    let s : Mach := { s with ptn := { s.ptn with follow := s.ptn.follow - 1, astray := astray } }
    if s.ptn.follow ≠ 0 then s
    else
      let n := obj Obj.PTN_FOLLOW_FRAMES s
      each (List.range 100) (fun p s =>
        if sget 0 s.ptn.astray p = n then
          setCard (p / 4) { card (p / 4) s with doomed := some ((card (p / 4) s).doomed.getD 0 ||| 2 ^ (p % 4)) } s
        else s) s

/-! ### What the partner hears (R300, R303, R305) -/

/-- R305: DUTY_DIGEST of the latest compute point. -/
def dutyDigest (s : Mach) : Nat :=
  crc32 ((List.range 100).flatMap fun p =>
    let h := (s.cnv.highs.find? fun q => decide (q.1 = p)).map fun q => q.2.2
    toBytes 4 (phCode (phase p s).st <<< 29 ||| h.getD 0 % 2 ^ 18))

/-- R305: GRANT_DIGEST of the epoch. -/
def grantDigest (s : Mach) : Nat := crc32 s.ptn.open_.answers

/-- Table 11.5: the EPOCH_END payload. -/
def epochPayload (s : Mach) : List Byte :=
  let e := s.ptn.open_
  let w := (e.no % 2 ^ 32) <<< 832 ||| (e.records % 2 ^ 32) <<< 800 ||| grantDigest s <<< 768 ||| dutyDigest s <<< 736
    ||| ofSigned 32 (e.corr.getD 0) <<< 704 ||| b2n e.corr.isSome <<< 703 ||| b2n e.wrap.isSome <<< 702
    ||| b2n e.rebin <<< 701 ||| b2n e.fire <<< 700 ||| trkCode s.trk.st <<< 697
    ||| ((e.wrap.getD e.start - e.start) % 2 ^ 32) <<< 665 ||| (s.trk.n % 2 ^ 19) <<< 646 ||| (s.trk.wCode % 8) <<< 643
    ||| (s.trk.step % 65536) <<< 627 ||| (s.trk.d % 2 ^ 32) <<< 595 ||| (e.gridOff % 2 ^ 32) <<< 563
  toBytes 108 w

/-- R301: the ACTIVE module closes its epoch; a module that follows closes none. -/
def closeEpoch (s : Mach) : Mach :=
  if s.role = .standby ∨ s.role = .resync then s else
  let s := if feeds s then sendCell 7 1 (epochPayload s) (flushOrder true 4096 s) else s
  { s with ptn := { s.ptn with open_ := { no := s.cnv.k, start := s.now, lastAt := s.now } } }

/-- HEARTBEAT's payload: role, operating state, CNV_FRAME and FLT_STATUS, in the order of Table 11.3. -/
def heartbeatPayload (s : Mach) : List Byte :=
  toBytes 1 (roleCode s.role) ++ toBytes 1 (modeCode s.mode) ++ toBytes 4 s.cnv.k ++ toBytes 8 s.fc.status

/-- R295, R412: the module sends heartbeats. -/
def beats (s : Mach) : Bool := decide (s.mode ≠ .trip ∧ s.mode ≠ .safe ∧ s.mode ≠ .boot) && s.life.warnAt.isNone

/-- R303: both heartbeats of a frame. -/
def heartbeats (s : Mach) : Mach :=
  if !beats s then s
  else
    let s := sendCell 2 0 (heartbeatPayload s) s
    send .hbW { s with ptn := { s.ptn with polarity := !s.ptn.polarity } }

/-- R303, R433: a path is judged in this role: with a partner, or once the partner has been heard on it. Path W is not
judged before a role is held, nor in RESYNC. -/
def pathJudged (wire : Bool) (s : Mach) : Bool :=
  match s.role with
  | .active => true
  | .standby => true
  | .solo => s.ptn.heard.testBit (b2n wire)
  | .resync => !wire && s.ptn.heard.testBit 0
  | .none => false

/-- R303: a frame ends: each path had its heartbeat, or was lost for the frame. -/
def heartbeatFrame (s : Mach) : Mach :=
  let p := s.ptn
  let jL := pathJudged false s
  let jW := pathJudged true s
  let s := if p.gotL ∨ ¬ jL then s else countEv 448 s
  let s := if p.gotW ∨ ¬ jW then s else countEv 449 s
  let s := { s with ptn := { s.ptn with
    missL := if p.gotL ∨ ¬ jL then 0 else p.missL + 1
    missW := if p.gotW ∨ ¬ jW then 0 else p.missW + 1
    unheard := if p.gotL ∨ p.gotW then 0 else p.unheard + 1
    gotL := false
    gotW := false } }
  let s := if p.gotL then setLine 30 false 0 0 s else s
  if p.gotW then setLine 31 false 0 0 s else s

/-! ### The compute point -/

/-- The start of the frame that is computed next; a STANDBY module's all-fire frames are those of the epochs it executes. -/
def nextFrameAt (s : Mach) : Nat :=
  if s.cnv.fire.active ∧ s.role ≠ .standby ∧ s.cnv.frameAt < s.cnv.fire.ends then s.cnv.fire.ends else s.cnv.frameAt + frameLen s

/-- The frame that is computed next will be replaced by a held all-fire frame (R138). -/
def replaced (s : Mach) : Bool :=
  decide (s.role ≠ .standby) && s.cnv.fire.held && decide (s.cnv.st = .regulate) && decide (s.cnv.fire.sepEnd = nextFrameAt s)

/-- The compute point of the next frame has come (R123, R131): 1 µs before the frame begins. -/
def computeDue (s : Mach) : Bool := decide (nextFrameAt s ≤ s.now * 8 + 8000)

/-- DIODE_EXIT acts at a compute point (R137). -/
def cmdDiodeExit (p : Nat) (s : Mach) : Mach := if computeDue s then diodeExit p s else s

/-- What the loop computes at a compute point: card removals, duties, supply, deficit, endurance and the stop of the
bus ramp. -/
def frameLoop (s : Mach) : Mach :=
  let s := removeDue s
  let s := if s.cnv.st = .track ∨ s.cnv.st = .regulate then regulate s.cnv.frameAt (frameRowAt s.cnv.frameAt s) s
    else restFrame s
  let s := followCheck (pruneFf s.cnv.frameAt s)
  trackOffCheck (moveBusRef (rtStopCheck (deficitCheck (refreshSupply s))))

/-- R123: the frame that begins at `f0` is counted. -/
def frameCounted (f0 : Nat) (s : Mach) : Mach :=
  let k := (s.cnv.k + 1) % 2 ^ 32
  let s : Mach := { s with cnv := { s.cnv with frameAt := f0, k := k, downNo := k % 65536 } }
  countEv 128 (setObj Obj.CNV_FRAME k s)

/-- R123: the frame takes the period in force once the writes that wait for it have taken effect. -/
def framePeriod (s : Mach) : Mach := { s with cnv := { s.cnv with period := obj Obj.CNV_PWM_PERIOD s } }

/-- R313: while the module drives phases, its output path is exercised. -/
def pathUsed (s : Mach) : Mach :=
  if drives s ∧ (s.cnv.st = .track ∨ s.cnv.st = .regulate) then
    { s with ptn := { s.ptn with ageBase := 0, drove := opSeconds s } }
  else s

/-- PWM_COMPUTE_POINT (R123, R131 to R145, R301): 1 µs before the frame begins; a STANDBY module computes duties when
it executes the epoch. -/
def cmdPwmComputePoint (s : Mach) : Mach :=
  let f0 := nextFrameAt s
  if s.mode = .boot ∨ ¬ computeDue s ∨ replaced s then s
  else
    let s := framePeriod (epochEffects (frameCounted f0 s))
    let s := if s.role = .standby ∨ s.role = .resync then busValue s else frameLoop s
    heartbeatFrame (closeEpoch (heartbeats (downlinks (pathUsed s))))

/-- ALL_FIRE_END (R138, R140): the frame grid restarts at the end of the all-fire frame. -/
def cmdAllFireEnd (s : Mach) : Mach :=
  let f := s.cnv.fire
  if ¬ f.active ∨ s.now * 8 < f.ends then s
  else
    let s := fireResume s
    { s with
      cnv := { s.cnv with
        frameAt := f.ends
        fire := { s.cnv.fire with active := false, sepEnd := f.ends + frameLen s } }
      ptn := { s.ptn with open_ := { s.ptn.open_ with gridOff := f.ends / 8 - s.ptn.open_.start } } }

/-- ALL_FIRE_HELD_START (R138). -/
def cmdAllFireHeldStart (s : Mach) : Mach :=
  let f := s.cnv.fire
  if f.held ∧ ¬ f.active ∧ f.sepEnd ≤ s.now * 8 ∧ s.cnv.st = .regulate then fireStart f.sepEnd s else s

/-- CARD_DOWNLINK_REPEAT (R307): midway between frames at a PWM period above 10 µs. -/
def cmdCardDownlinkRepeat (c : Nat) (s : Mach) : Mach :=
  if s.mode ≠ .boot ∧ 16000 < s.cnv.period ∧ s.cnv.frameAt + frameLen s / 2 ≤ s.now * 8 ∧ ¬ s.ptn.gate then
    send (.card c (cardFrame c (decide (s.cnv.st = .safe)) s)) s
  else s

/-! ### Card uplinks (R129, R147, R149, R153) -/

/-- R153: a reported sample of a phase that qualifies for its offset, or one that breaks the run. -/
def offsetSample (x : Phase) (raw : Int) (meas exit : Int) : Phase :=
  if x.st = .warmShed ∨ (x.st = .diode ∧ meas < exit) then
    if 256 ≤ x.offN then x else { x with offSum := x.offSum + raw, offN := x.offN + 1 }
  else { x with offSum := 0, offN := 0 }

/-- The current of phase `i` of a card in an uplink. -/
def upCurrent (f i : Nat) : Int := toSigned 16 (f / 2 ^ (32 + 16 * i) % 65536)

/-- What a good uplink reports about a card's phases. -/
def uplinkPhases (c f : Nat) (s : Mach) : Mach :=
  each (List.range 4) (fun i s =>
    let p := 4 * c + i
    let x := phase p s
    let raw := upCurrent f i
    let cur := corrected x raw
    let y := offsetSample x raw (cur * 5) (obj Obj.CNV_BRAKE_EXIT_MA s)
    setPhase p { y with raw := raw, cur := cur } s) s

/-- A good uplink frame of card `c` (Table 5.3). -/
def uplinkGood (c f : Nat) (s : Mach) : Mach :=
  let x := card c s
  let bits := f / 2 ^ 115 % 16
  let slotOk := decide (f / 2 ^ 27 % 32 = c)
  let s := setCard c { x with
    fitted := slotOk
    ready := f.testBit 121
    selCap := f.testBit 120
    selState := f.testBit 119
    sampleNo := f / 2 ^ 96 % 256
    sampleAt := s.now - 1000
    holder := f / 2 ^ 122 % 4
    faultBits := bits
    temp := f / 2 ^ 104 % 256
    badRun := 0
    wrongSlot := !slotOk
    linkBad := false
    lastUp := s.now
    doomed := if x.removed then none else if bits ≠ 0 then some bits else if slotOk then x.doomed else some 0x10 } s
  let s := refreshCardLink c s
  let s := if slotOk then uplinkPhases c f s else s
  if bits = 0 ∧ slotOk then readmitCard c s else s

/-- R147: a fitted card's link is lost. A card that has never reported is not fitted and is not removed (DESIGN CHOICE, log
entry 130). -/
def cardLost (c : Nat) (s : Mach) : Mach :=
  let x := card c s
  if x.fitted then
    refreshCardLink c (setCard c { x with
      linkBad := true
      fitted := false
      doomed := if x.removed then none else some 0x10 } s)
  else s

/-- CARD_UPLINK (R129): a frame of another version or with a wrong CHECK is bad. -/
def cardUplink (c f : Nat) (s : Mach) : Mach :=
  let good := decide (f / 2 ^ 124 = 1) && decide (f % 65536 = crc16 ((toBytes 16 f).take 14))
  if good then uplinkGood c f s
  else
    let x := card c s
    let s := setCard c { x with badRun := min 3 (x.badRun + 1) } s
    if 2 ≤ x.badRun then cardLost c s else s

/-- CARD_LINK_LOSS (R147): three consecutive uplink frames are missing or bad. -/
def cmdCardLinkLoss (c : Nat) (s : Mach) : Mach :=
  let x := card c s
  if 3 ≤ x.badRun ∨ x.lastUp + 30000 ≤ s.now then cardLost c s else s

/-! ### Writes -/

/-- CNV_CARD_READMIT (R149): refused with STATE unless every named card is FAULTED. -/
def cardReadmitBad (v : Nat) (s : Mach) : Bool := (bitsBelow v 25).any fun c => !(card c s).removed

/-- CNV_CARD_READMIT: the named cards are to become SPARE. -/
def cardReadmit (v : Nat) (s : Mach) : Mach :=
  each (bitsBelow v 25) (fun c s => setCard c { card c s with readmit := true } s) s

end Sys2Proof.Machine
end

