-- ==== Sys2Proof/Machine/Faults.lean ====
section
/-! DEFINITION. The Fault Collector's commands (chapter 12): events, windows, injection, FAULT_N, the detectors of R321,
the Guard Log's flush (R337, R340, R402) and the counters; and the front-panel indicators (R432). -/

namespace Sys2Proof.Machine

/-! ### Windows and FAULT_N -/

/-- BLANKING_WINDOW_CLOSE (R326). -/
def cmdBlankingWindowClose (n : Nat) (s : Mach) : Mach := closeWindows n s

/-- INJECTION_WINDOW_CLOSE (R329, R330). -/
def cmdInjectionWindowClose (s : Mach) : Mach :=
  match s.fc.inj with
  | none => s
  | some w => if s.now < w.ends then s else closeInjection s

/-- FAULT_N_PULSE_END (R331, R332): the mode of a consist committed during the pulse follows. -/
def cmdFaultNPulseEnd (s : Mach) : Mach :=
  match s.fc.pulseEnd with
  | none => s
  | some t => if s.now < t then s else refreshFaultN { s with fc := { s.fc with pulseEnd := none } }

/-- R328: the injection window opens and every named bit has its event; a line blanked before ignores it. -/
def injStart (s : Mach) : Mach :=
  let mask := obj Obj.INJ_MASK s
  let dry := decide (obj Obj.INJ_DRY s = 1)
  let us := obj Obj.INJ_WINDOW_US s
  let bits := bitsBelow mask 54
  let free := bits.filter fun n => !blanked n s
  let s := each bits (fun n => log 0x0200 (0xD000 + n) (b2n dry * 2 ^ 31 + us)) s
  let s := incObj Obj.INJ_COUNT (setObj Obj.INJ_OPEN 1 s)
  let s := { s with fc := { s.fc with inj := some ⟨s.now + us * 1000, mask, dry, 0, free ≠ []⟩ } }
  let s := each free (fun n => latchCore n 0 0 3) s
  if free = [] then s else latchCore 63 0 0 3 s

/-! ### Detectors of R321 -/

/-- A die temperature: both thresholds, each with ten samples in a row. -/
def cmdDieThermalSample (c : Nat) (s : Mach) : Mach :=
  let t := toSigned 8 c
  let warn := objI Obj.FLT_THERMAL_WARN_C 8 s
  let trip := objI Obj.FLT_THERMAL_TRIP_C 8 s
  let d := s.det
  let s : Mach := { s with det := { d with
    warnHi := countRun (decide (warn < t)) d.warnHi 10
    warnLo := countRun (decide (t ≤ warn - 5)) d.warnLo 10
    tripHi := countRun (decide (trip < t)) d.tripHi 10
    tripLo := countRun (decide (t ≤ trip - 5)) d.tripLo 10 } }
  let line := fun (n hi lo : Nat) (s : Mach) =>
    if hi = 10 then setLine n true 0 (ofSigned 32 t) s else if lo = 10 then setLine n false 0 0 s else s
  line 39 s.det.tripHi s.det.tripLo (line 38 s.det.warnHi s.det.warnLo s)

/-- CLOCK_LOSS (R321). -/
def cmdClockLoss (s : Mach) : Mach := setLine 37 true 0 0 s
/-- CLOCK_LOCK_REGAINED (R321). -/
def cmdClockLockRegained (s : Mach) : Mach := setLine 37 false 0 0 s

/-- WATCHDOG_EXPIRY (R321): of a working control pair. -/
def cmdWatchdogExpiry (p : Nat) (s : Mach) : Mach :=
  if s.life.pairsWork.testBit p then pulse 36 (0xB000 + p) 0 s else s

/-- FABRIC_LANE_DOWN (R321). -/
def cmdFabricLaneDown (l : Nat) (s : Mach) : Mach :=
  setLine 28 true (0x7000 + l) 0 { s with life := { s.life with lanesDown := setBit s.life.lanesDown l } }

/-- FABRIC_LANE_BLOCK_LOCK (R321): the line falls with the last lane without block lock. -/
def cmdFabricLaneBlockLock (l : Nat) (s : Mach) : Mach :=
  let s := { s with life := { s.life with lanesDown := clrBit s.life.lanesDown l } }
  if s.life.lanesDown = 0 then setLine 28 false 0 0 s else s

/-- LANE9_BLOCK_LOCK (R427). -/
def cmdLane9BlockLock (s : Mach) : Mach := { s with life := { s.life with lane9Lock := true } }

/-- R427: the level of LANE9_SEL: high toward the partner. -/
def lane9Sel (s : Mach) : Bool := decide (s.life.lane9 = 2)

/-! ### Writing the log (R337, R340, R402) -/

/-- The ring of a device has failed already. -/
def ringBad (dev : Nat) (s : Mach) : Bool := if dev = 0 then s.gl.primBad else s.gl.mirrBad

/-- R340: a write to a device fails and no spare block is left: its ring fails. -/
def failRing (dev : Nat) (s : Mach) : Mach :=
  { s with gl := { s.gl with
    primBad := s.gl.primBad || decide (dev = 0)
    mirrBad := s.gl.mirrBad || decide (dev = 1) } }

/-- What follows a failed write of a ring slot: a spare block, or NVM and LOG_MEMORY (R340, R402). -/
def ringAfter (dev block : Nat) (spare : Bool) (s : Mach) : Mach :=
  if spare then spareBlock dev block s else setLine 41 true 0 0 (pulse 40 0 0 s)

/-- R337: dropped records are told as soon as the queue has space. -/
def overflowRecord (s : Mach) : Mach :=
  if s.gl.lost = 0 then s
  else
    let n := s.gl.lost
    log 0x0002 0 n { s with gl := { s.gl with lost := 0 } }

/-- The oldest record is written to both rings; `failA` and `failB` say that the write failed verification there. -/
def flushOne (r : GRec) (failA failB : Bool) (s : Mach) : Mach :=
  let fails := [(0, failA), (1, failB)].filter fun q => q.2 && !ringBad q.1 s
  let l := fails.map fun q => (q.1, decide (0 < blocksLeft q.1 s))
  let s := each l (fun q s => if q.2 then s else failRing q.1 s) s
  let s := countEv 453 (ringWrite r s)
  each l (fun q s => ringAfter q.1 (r.no % 131072 / 128) q.2 s) s

/-- GUARD_LOG_FLUSH (R337, R340, R402). -/
def cmdGuardLogFlush (failA failB : Bool) (s : Mach) : Mach :=
  match s.gl.queue with
  | [] => s
  | r :: rest => flushOne r failA failB (overflowRecord { s with gl := { s.gl with queue := rest } })

/-- R412: every queued record is written. -/
def flushAll : Nat → Mach → Mach
  | 0, s => s
  | n + 1, s => flushAll n (cmdGuardLogFlush false false s)

/-- GL_CLEAR (R341), with the manager that wrote it. -/
def glClear (mgr : Nat) (s : Mach) : Mach :=
  log 0x0001 (0xC000 + mgr - 1) 0 { s with gl := { s.gl with queue := [], newest := none, prim := [], mirr := [] } }

/-- CTR_CLEAR (R342): STEP_COUNT at the next wrap counts only later events (Table 12.10). -/
def ctrClear (v : Nat) (s : Mach) : Mach :=
  each (bitsBelow v 64) clearCounter s

/-! ### Front-panel indicators (R432, Table 15.11) -/

/-- A lamp: dark, steady or blinking at a rate in Hz, with its colour (0 green, 1 amber, 2 red, 3 blue). -/
inductive Lamp where
  | off
  | steady (colour : Nat)
  | blink (colour hz : Nat)
  deriving DecidableEq, Repr

/-- PWR: green while both AUX inputs are within range, amber while one is. -/
def lampPwr (s : Mach) : Lamp :=
  let a := s.fc.lines.testBit 2
  let b := s.fc.lines.testBit 3
  if a && b then .off else if a || b then .steady 1 else .steady 0

/-- STATE. -/
def lampState (s : Mach) : Lamp :=
  match s.mode with
  | .run => .steady 0
  | .start => .blink 0 1
  | .drain => .blink 0 1
  | .stop => .blink 0 1
  | .boot => .steady 1
  | .commission => .steady 1
  | .safe => .blink 1 1
  | .trip => .steady 2

/-- ROLE. -/
def lampRole (s : Mach) : Lamp :=
  match s.role with
  | .active => .steady 3
  | .solo => .blink 3 1
  | .resync => .blink 3 4
  | .standby => .off
  | .none => .off

/-- FAULT: lit while FAULT_N is low. -/
def lampFault (s : Mach) : Lamp := if faultNLow s then .steady 1 else .off

end Sys2Proof.Machine
end

