-- ==== Sys2Proof/Machine/Image.lean ====
section
/-! DEFINITION. Images of firmware and customer applications (R383 to R385): their header, sections and checks. -/

namespace Sys2Proof.Machine

/-- The partitions of a managed NAND device (R382). -/
inductive NandPartition where
  | header | firmware | customer | model | appData
  deriving DecidableEq, Repr

/-- Table 14.2: a partition's size in MiB. -/
def NandPartition.mib : NandPartition → Nat
  | .header => 4
  | .firmware => 1024
  | .customer => 64
  | .model => 6144
  | .appData => 956

/-- Where each partition begins, in MiB: in the order of Table 14.2. -/
def NandPartition.base : NandPartition → Nat
  | .header => 0
  | .firmware => 4
  | .customer => 1028
  | .model => 1092
  | .appData => 7236

/-- KIND of an image. -/
def imgKind (c : List Byte) : Nat := nfld (mdlHeader c) 471 464
/-- KEY_INDEX. -/
def imgKeyIndex (c : List Byte) : Nat := nfld (mdlHeader c) 407 400
/-- The SIGNATURE section's public key. -/
def imgPublic (c : List Byte) : List Byte := (firstOf 1 c).take 68
/-- The SIGNATURE section's signature. -/
def imgSignature (c : List Byte) : List Byte := (firstOf 1 c).drop 68
/-- The byte of the KEY_REVOKE section, where there is one. -/
def imgRevoke (c : List Byte) : Option Nat := (firstOf 7 c).head?.map fun b => b.toNat

/-- RELEASE of a slot's image. -/
def slotRelease (x : ImgSlot) : Nat :=
  if x.factory then Config.factoryRelease.1.toNat else nfld (mdlHeader x.bytes) 463 448
/-- BUILD. -/
def slotBuild (x : ImgSlot) : Nat :=
  if x.factory then Config.factoryRelease.2.toNat else nfld (mdlHeader x.bytes) 447 432
/-- SVN. -/
def slotSvn (x : ImgSlot) : Nat := if x.factory then Config.factorySvn.toNat else nfld (mdlHeader x.bytes) 431 424
/-- UPGRADE_FROM. -/
def slotUpgrade (x : ImgSlot) : Nat :=
  if x.factory then Config.factoryUpgrade.1.toNat else nfld (mdlHeader x.bytes) 423 408
/-- KEY_INDEX of a slot's image. -/
def slotKey (x : ImgSlot) : Nat := if x.factory then Config.factoryUpgrade.2.toNat else imgKeyIndex x.bytes
/-- DIGEST as 32 bytes. -/
def slotDigest (x : ImgSlot) : List Byte := if x.factory then Config.factoryDigest.1 else toBytes 32 (mdlDigest x.bytes)
/-- The digest of the GUEST section. -/
def slotGuest (x : ImgSlot) : List Byte := if x.factory then Config.factoryDigest.2 else shake256 (firstOf 4 x.bytes) 32

/-- R383, R384: marker, format, KIND, lengths, section table and the sections a KIND has. -/
def imgFormat (c : List Byte) : Bool :=
  let h := mdlHeader c
  let k := imgKind c
  let one := fun (ty : Nat) => decide (countOf ty c = 1)
  let none := fun (ty : Nat) => decide (countOf ty c = 0)
  decide (64 ≤ c.length) && decide (nfld h 511 480 = 0x56414657) && decide (nfld h 479 476 = 1)
    && decide (k = 1 ∨ k = 2) && decide (nfld h 383 320 = c.length)
    && decide (c.length ≤ if k = 1 then 805306368 else 33554432)
    && decide (2 ≤ nfld h 399 392 ∧ nfld h 399 392 ≤ 16) && sectionsApart c
    && (mdlSections c).all (fun x => decide (x.idx = 0xFF))
    && one 1 && one 4 && decide ((firstOf 1 c).length = 2888) && decide ((firstOf 4 c).length ≤ 25165824)
    && (if k = 1 then one 2 && one 3 && one 5 && one 6 && decide (countOf 7 c ≤ 1) && decide (nfld h 431 424 ≤ 64)
          && decide (countOf 7 c = 0 ∨ (firstOf 7 c).length = 1)
        else none 2 && none 3 && none 5 && none 6 && none 7 && decide (nfld h 423 408 = 0 ∧ imgKeyIndex c = 0))

/-- A reserved field or section type of an image is set. -/
def imgReserved (c : List Byte) : Bool :=
  let h := mdlHeader c
  decide (nfld h 391 384 ≠ 0 ∨ nfld h 319 256 ≠ 0)
    || (mdlSections c).any fun x => decide (x.rsv ≠ 0 ∨ x.type = 0 ∨ 7 < x.type)

/-- R385: item 2 for a firmware package. -/
def keyTrusted (c : List Byte) (s : Mach) : Bool :=
  let k := imgKeyIndex c
  match (if k ≤ 2 then Config.keyHash k else none) with
  | some h => !s.life.revoked.testBit k && decide (shake256 (imgPublic c) 32 = h)
  | none => false

/-- R406: the key for customer images. -/
def customerKey (s : Mach) : List Byte := domBytes 0x1219 0 0 68 s

/-- R385: the first failed check as a reason of Table 14.6, none for an image that passes. -/
def imageFail (c : List Byte) (s : Mach) : Option Nat :=
  let k := imgKind c
  let ck := customerKey s
  if !imgFormat c then some 1
  else if imgReserved c then some 2
  else if k = 1 ∧ keyTrusted c s = false then some 3
  else if k = 2 ∧ nonZero ck = false then some 3
  else if !xmssValid (if k = 1 then imgPublic c else ck) (c.take 64) (imgSignature c) then some 4
  else if !digestOk c then some 5
  else if nfld (mdlHeader c) 431 424 < (if k = 1 then s.life.svn else obj Obj.APP_SVN_FLOOR s) then some 6
  else match imgRevoke c with
    | some v => if k = 1 ∧ v.testBit (imgKeyIndex c) then some 7 else none
    | none => none

/-- R385 for a slot: the image with which the module left the factory is bound to its key slot and SVN only. -/
def slotFail (x : ImgSlot) (s : Mach) : Option Nat :=
  if x.factory then
    if s.life.revoked.testBit (slotKey x) then some 3
    else if slotSvn x < s.life.svn then some 6
    else none
  else imageFail x.bytes s

/-- Table 14.6: the code of a reason. -/
def imgCode (reason : Nat) : Nat :=
  match reason with
  | 0 => 0x00
  | 1 => 0x05
  | 2 => 0x0A
  | 6 => 0x09
  | 7 => 0x05
  | _ => 0x0C

/-- Firmware slot `k`, on managed NAND A or B (R382). -/
def imgSlot (k : Nat) (s : Mach) : ImgSlot := if k = 0 then s.life.img.1 else s.life.img.2
/-- Firmware slot `k` replaced. -/
def setImg (k : Nat) (x : ImgSlot) (s : Mach) : Mach :=
  { s with life := { s.life with img := if k = 0 then (x, s.life.img.2) else (s.life.img.1, x) } }
/-- Customer slot `k`. -/
def cusSlot (k : Nat) (s : Mach) : ImgSlot := if k = 0 then s.life.cus.1 else s.life.cus.2
/-- Customer slot `k` replaced. -/
def setCus (k : Nat) (x : ImgSlot) (s : Mach) : Mach :=
  { s with life := { s.life with cus := if k = 0 then (x, s.life.cus.2) else (s.life.cus.1, x) } }

end Sys2Proof.Machine
end

