-- ==== Sys2Proof/Machine/Life.lean ====
section
/-! DEFINITION. Boot, trust, service life and power (chapters 14 and 15): reset and the ROM's choice (R386 to R390),
control pairs (R391), the guest (R392 to R394), images (R395 to R397), attestation (R398 to R400), ageing (R403) and the
AUX inputs (R409 to R413); and the lapse of the token (R366), which a reset brings. -/

namespace Sys2Proof.Machine

/-! ### The token lapses (R220, R366, R367) -/

/-- 0x120A.00. -/
def updState (s : Mach) : Nat := obj Obj.UPD_STATE s
/-- The image load enters a state. -/
def setUpd (x : Nat) (s : Mach) : Mach := setObj Obj.UPD_STATE x s
/-- The image load is EMPTY. -/
def updEmpty (s : Mach) : Mach := setUpd 0 { s with life := { s.life with upd := {} } }

/-- R220, R395: a lapse ends a load that is not VERIFIED. -/
def updLapse (s : Mach) : Mach :=
  if updState s = 1 ∨ updState s = 2 ∨ s.life.upd.erasing then updEmpty s else s

/-- R365: the partner hears who holds the token. -/
def tellHolder (s : Mach) : Mach :=
  if drives s then (sendBulk bulkCommand (encCommit 64 0 [(6, .scalar (Obj.TOKEN_HOLDER.key 0 0) s.mg.holder)]) s).2 else s

/-- R366, R367: the token lapses with its cause. -/
def tokenLapse (cause : Nat) (s : Mach) : Mach :=
  if s.mg.holder = 0 then s
  else
    let mgr := s.mg.holder
    let n := stagedCount s
    let s := tellHolder { s with mg := { s.mg with holder := 0, staged := [] } }
    let s := setObj Obj.TOKEN_LAST_CAUSE cause (incObj Obj.TOKEN_LAPSES (updLapse (loadLapse (touch 0 s))))
    pulse 43 (0xC000 + mgr - 1) (cause * 2 ^ 24 + n) s

/-! ### Control pairs (R390, R391) -/

/-- CTL_PAIRS_FAILED with a pair's bit. -/
def pairFailed (p : Nat) (s : Mach) : Mach := setObj Obj.CTL_PAIRS_FAILED (setBit (obj Obj.CTL_PAIRS_FAILED s) p) s

/-- CONTROL_PAIR_LOCKSTEP (R391): the pair halts; with no spare left the module enters TRIP whatever the class. In BOOT
the ROM restarts on the next pair, up to pair 13. -/
def cmdControlPairLockstep (p : Nat) (s : Mach) : Mach :=
  if s.mode = .boot then
    (if p = s.life.romPair ∧ p < 13 then { s with life := { s.life with romPair := p + 1 } } else s)
  else if !s.life.pairsWork.testBit p then s
  else
    let spare := decide (s.life.pairWait.length < popBelow s.life.pairsSpare 14)
    let s := pairFailed p { s with life := { s.life with
      pairsWork := clrBit s.life.pairsWork p
      pairWait := s.life.pairWait ++ [(p, s.now)] } }
    let s := pulse 34 (0xB000 + p) 0 s
    if spare then s else c3Action s

/-- PAIR_RESUME (R391): outside RUN and DRAIN; there the step boundary does it. -/
def cmdPairResume (s : Mach) : Mach := if s.mode = .run ∨ s.mode = .drain then s else resumePairs s

/-- R390: the boot self-test: the 12 lowest pairs that pass work, the others are spare. -/
def selfTest (pass : Nat) (s : Mach) : Mach :=
  let l := bitsBelow pass 14
  let mask := fun (x : List Nat) => x.foldl setBit 0
  let bad := without 0x3FFF pass
  let s := setObj Obj.CTL_PAIRS_FAILED bad { s with life := { s.life with
    pairsWork := mask (l.take 12)
    pairsSpare := mask (l.drop 12)
    pairWait := [] } }
  if l.length < 12 then c3Action (pulse 34 (0xB000 + (bitsBelow bad 14).headD 0) 0 s) else s

/-! ### The guest (R392 to R394) -/

/-- R386, R393: a customer slot is refused: BAD, with its record. -/
def rejectCustomer (k reason : Nat) (s : Mach) : Mach :=
  log 0x0801 0 (k * 2 ^ 24 + reason * 2 ^ 16) (setCus k { cusSlot k s with st := 3 } s)

/-- R386 item 1 for the customer slots. -/
def customerTrial (s : Mach) : Mach :=
  let p := s.life.cusPref
  if !s.life.cusTrial then s
  else if 1 ≤ s.life.cusBoots then
    rejectCustomer p 0x08 { s with life := { s.life with cusPref := 1 - p, cusTrial := false, cusBoots := 0 } }
  else { s with life := { s.life with cusBoots := s.life.cusBoots + 1 } }

/-- R386 items 2 and 3 for a customer slot: a failure is marked, recorded and latches NVM. -/
def tryCustomer (k : Nat) (s : Mach) : Bool × Mach :=
  let x := cusSlot k s
  if x.st = 0 ∨ x.st = 3 then (false, s)
  else match imageFail x.bytes s with
    | none => (true, s)
    | some r => (false, pulse 40 0 0 (rejectCustomer k r s))

/-- R393: the customer slot that a guest start takes, in the manner of R386; none where no slot may run. -/
def customerChoice (s : Mach) : Option Nat × Mach :=
  let s := customerTrial s
  let p := s.life.cusPref
  let a := tryCustomer p s
  if a.1 then (some p, a.2)
  else
    let b := tryCustomer (1 - p) a.2
    if b.1 then (some (1 - p), { b.2 with life := { b.2.life with cusPref := 1 - p, cusTrial := false } })
    else (none, b.2)

/-- A start of the guest image `img` (0 the board support package, 1 and 2 the customer slots). -/
def guestStart (img : Nat) (s : Mach) : Mach :=
  { s with life := { s.life with guest := 1, guestImg := img, guestAt := s.now, guestRun := none } }

/-- R392, R393: a loopback handshake shows that the guest runs. -/
def guestReached (s : Mach) : Mach :=
  if s.life.guest = 1 ∨ s.life.guest = 3 then
    { s with life := { s.life with guest := 2, guestFails := 0, guestRun := some s.now } }
  else s

/-- Since when the guest is known to run: its first loopback handshake, or the end of the 60 s of R393. -/
def guestSince (s : Mach) : Nat := s.life.guestRun.getD (s.life.guestAt + 60000000000)

/-- R392: the guest that `APP_IMAGE_SELECT` names starts; without a customer image that may run, the board support
package does. -/
def guestSelect (s : Mach) : Mach :=
  if obj Obj.APP_IMAGE_SELECT s = 0 then guestStart 0 s
  else match customerChoice s with
    | (some k, s) => guestStart (k + 1) s
    | (none, s) => guestStart 0 (log 0x080C 0 1 s)

/-- The guest has reached running: it has opened a loopback handshake, or 60 s have passed without GUEST_START_TIMEOUT. -/
def guestRunning (s : Mach) : Bool :=
  decide (s.life.guest = 2) || (decide (s.life.guest = 1 ∨ s.life.guest = 3) && decide (s.life.guestAt + 60000000000 ≤ s.now))

/-- 0x121A.01. -/
def guestState (s : Mach) : Nat := if guestRunning s then 2 else s.life.guest

/-- A guest in its start falls back (R393). -/
def guestFallback (s : Mach) : Mach :=
  let k := s.life.guestImg
  let other := 2 - k
  if k ≠ 0 ∧ (cusSlot other s).st = 2 then guestStart (other + 1) (log 0x080C 0 0 s)
  else if k ≠ 0 then guestStart 0 (log 0x080C 0 1 s)
  else guestStart 0 s

/-- GUEST_START_TIMEOUT (R393): the third failure in succession falls back. -/
def cmdGuestStartTimeout (s : Mach) : Mach :=
  if (s.life.guest = 1 ∨ s.life.guest = 3) ∧ s.life.guestAt + 60000000000 ≤ s.now then
    let n := s.life.guestFails + 1
    let s := incObj Obj.APP_RESTARTS { s with life := { s.life with guestFails := if n = 3 then 0 else n } }
    if n = 3 then guestFallback s else guestStart s.life.guestImg s
  else s

/-- R394: APP_CORE latches, the guest restarts and its sessions close. -/
def appCore (s : Mach) : Mach :=
  if s.life.guest = 0 then s
  else
    let s := incObj Obj.APP_RESTARTS (closeSessions (fun x => decide (x.port = 2)) 6 (pulse 35 0 0 s))
    let s := guestSelect s
    { s with life := { s.life with guest := 3 } }

/-- GUEST_WATCHDOG_LAPSE (R394): of a running guest. -/
def cmdGuestWatchdogLapse (s : Mach) : Mach := if guestRunning s then appCore s else s

/-- CUSTOMER_IMAGE_CONFIRM (R393). -/
def cmdCustomerImageConfirm (s : Mach) : Mach :=
  match s.life.guestImg with
  | k + 1 =>
    let x := cusSlot k s
    if x.st = 1 ∧ guestRunning s ∧ guestSince s + obj Obj.BOOT_CONFIRM_S s * 1000000000 ≤ s.now then
      let s := setCus k { x with st := 2 } { s with life := { s.life with cusTrial := false, cusBoots := 0 } }
      let s := log 0x0802 0 (k * 2 ^ 24 + 2 * 2 ^ 16 + slotRelease x) s
      let good := ([0, 1].filter fun j => decide ((cusSlot j s).st = 2)).map fun j => slotSvn (cusSlot j s)
      let low := good.foldl min 255
      if obj Obj.APP_SVN_FLOOR s < slotSvn x then setObj Obj.APP_SVN_FLOOR (max (obj Obj.APP_SVN_FLOOR s) low) s else s
    else s
  | 0 => s

/-! ### Reset and the ROM (R21, R350, R386 to R390) -/

/-- The lines of conditions outside the loop that a reset does not end. -/
def physicalLines : Nat := 2 ^ 2 + 2 ^ 3 + 2 ^ 28 + 2 ^ 37 + 2 ^ 38 + 2 ^ 39

/-- Object registers that survive a reset outside the transactions of R350: the persistent ones that only the module
writes. -/
def moduleKept (key : Nat) : Bool :=
  match lookup (keyIdx key) (keySub key) with
  | .ok (d, _, _) => d.persist && decide (d.acc = .ro)
  | .error _ => false

/-- Every transaction on its way reaches both copies. -/
def settleNv (s : Mach) : Mach := s.mg.nvQueue.foldl (fun s _ => cmdPersistentWriteComplete true true s) s

/-- The module at the start of BOOT: what survives a reset, and the fixed parts. -/
def cleared (cause : Nat) (power : Bool) (s : Mach) : Mach :=
  let g := s.gl
  let e := s.eng
  let l := s.life
  let m : Mach := {
    now := s.now
    slotB := s.slotB
    od := s.od.filter fun p => moduleKept p.1
    out := s.out
    free := s.free
    fc := {
      lines := s.fc.lines &&& physicalLines
      edges := s.fc.edges.filter fun p => physicalLines.testBit p.1 }
    det := {
      warnHi := s.det.warnHi
      warnLo := s.det.warnLo
      tripHi := s.det.tripHi
      tripLo := s.det.tripLo }
    gl := { g with
      volat := if power then [] else g.volat
      primBad := false
      mirrBad := false
      volUsed := false
      dropped := 0
      opBase := g.opBase
      upAt := if power then s.now else g.upAt
      cycles := if power then (g.cycles + 1) % 2 ^ 24 else g.cycles }
    cnv := { frameAt := s.now * 8, cal := { lastDone := s.now } }
    bnk := { life := s.bnk.life, lifeMir := s.bnk.lifeMir, lifeAt := if power then g.opBase else opSeconds s }
    mg := {
      linkAt := [(0, s.now), (1, s.now)].filter fun p => decide (p.2 ≠ 0)
      keyed := s.mg.keyed
      nvA := s.mg.nvA
      nvB := s.mg.nvB }
    eng := {
      coaches := e.coaches
      repairs := e.repairs
      pchUsed := e.pchUsed
      pchMap := e.pchMap
      noSpare := e.noSpare && !power
      bgAt := ((List.range 5).map fun a => (a, s.now)).filter fun p => decide (p.2 ≠ 0) }
    ldr := { runA := s.ldr.runA, runB := s.ldr.runB }
    ptn := {
      lastCell := s.now
      discAt := s.now
      gate := !power && l.warnAt.isSome }
    life := { l with
      romDone := false
      activate := none
      confAt := none
      confNs := 0
      confHold := false
      upd := {}
      pairWait := []
      romPair := 0
      keysLost := false
      guest := 0
      guestFails := 0
      guestRun := none
      attTree := none
      warnAt := if power then none else l.warnAt
      stopped := false
      held := false
      lane9 := 0
      lane9For := none
      lane9Lock := true } }
  setObj Obj.BOOT_LAST_CAUSE cause (countCarts m)

/-- Identity objects of the running image. -/
def nameImage (k : Nat) (s : Mach) : Mach :=
  let r := slotRelease (imgSlot k s)
  setObj Obj.ID_FW_MAJOR (r / 256) (setObj Obj.ID_FW_MINOR (r % 256) (setObj Obj.ID_FW_BUILD (slotBuild (imgSlot k s)) s))

/-- R386: a slot is refused: BAD, with its record. -/
def rejectSlot (k reason : Nat) (s : Mach) : Mach :=
  log 0x0801 0 (k * 2 ^ 24 + reason * 2 ^ 16) (setImg k { imgSlot k s with st := 3 } s)

/-- R386 item 1: a TRIAL image that has been booted before is BAD. -/
def trialStep (s : Mach) : Mach :=
  let p := s.life.preferred
  if !s.life.trial then s
  else if 1 ≤ s.life.trialBoots then
    rejectSlot p 0x08 { s with life := { s.life with preferred := 1 - p, trial := false, trialBoots := 0 } }
  else { s with life := { s.life with trialBoots := s.life.trialBoots + 1 } }

/-- A slot is tried: it is neither BAD nor EMPTY and passes; a failure is marked, recorded and latches NVM. -/
def trySlot (k : Nat) (s : Mach) : Bool × Mach :=
  let x := imgSlot k s
  if x.st = 0 ∨ x.st = 3 then (false, s)
  else match slotFail x s with
    | none => (true, s)
    | some r => (false, pulse 40 0 0 (rejectSlot k r s))

/-- The slot runs. -/
def runSlot (k : Nat) (s : Mach) : Mach :=
  let x := imgSlot k s
  let s : Mach := { s with life := { s.life with
    preferred := k
    trial := s.life.trial && decide (s.life.preferred = k)
    running := k
    romDone := true } }
  log 0x0800 0 (k * 2 ^ 24 + slotRelease x * 2 ^ 8 + slotSvn x) (nameImage k s)

/-! #### Persistent values (R350) -/

/-- A persisted value put back. -/
def restoreVal (v : ObjVal) (s : Mach) : Mach :=
  match v with
  | .scalar key x => keySet key x s
  | .bytes idx sub off l => domPut idx sub off l s
  | .req rid cls burst => setRequester rid { requester rid s with cls := cls, burst := burst } s
  | .cst t e => setCst t (cstWithState e 0) s

/-- What BOOT reads: a value of copy A, or of copy B where A has none that passes. -/
def nvRead (lostA lostB : Bool) (s : Mach) : List ObjVal :=
  let a := if lostA then [] else s.mg.nvA
  let b := if lostB then [] else s.mg.nvB
  b.filter (fun x => !a.any (samePlace x)) ++ a

/-- R350: persisted values load; lost in both copies, the objects take their defaults, and NVM and OD_COMMIT latch. -/
def loadNv (lostA lostB : Bool) (s : Mach) : Mach :=
  let s := takeCap (creditStart (assignCards (each (nvRead lostA lostB s) restoreVal s)))
  -- the frame grid runs from here on (R123)
  let s : Mach := { s with
    cnv := { s.cnv with frameAt := s.now * 8 }
    life := { s.life with keysLost := lostA && lostB } }
  let s := noteLoaded (runningContainer s) (refreshFaultN s)
  if lostA && lostB then pulse 42 0 3 (pulse 40 0 0 s) else s

/-- The ROM (R386): the image to run, or SAFE. -/
def romStart (s : Mach) : Mach :=
  let s := trialStep s
  let p := s.life.preferred
  let a := if s.life.fuseBad then (false, s) else trySlot p s
  if a.1 then runSlot p a.2
  else
    let b := if s.life.fuseBad then (false, s) else trySlot (1 - p) a.2
    if b.1 then runSlot (1 - p) b.2
    else
      let s := loadNv false false (c3Action (pulse 44 0 0 b.2))
      { s with life := { s.life with romDone := true } }

/-- A module reset (R21, R366). -/
def restart (cause : Nat) (s : Mach) : Mach :=
  let s := settleNv (tokenLapse 3 s)
  let s := setRole .none (setMode .boot s)
  romStart (cleared cause false s)

/-- MODULE_RESET: SAFE is left with a cause of its own. -/
def moduleReset (s : Mach) : Mach := restart (if s.mode = .safe then 4 else 1) s

/-- POWER_ON_RESET (R411): the ROM starts; record POWER_UP with the release that runs. -/
def cmdPowerOnReset (slotB : Bool) (s : Mach) : Mach :=
  if !s.life.held then s
  else
    let s := romStart { cleared 0 true { s with slotB := slotB } with slotB := slotB }
    log 0x0003 0 (release s) s

/-- XMSS leaves left (R399). -/
def leavesLeft (s : Mach) : Nat :=
  (List.range 4).foldl (fun a k => a + (65536 - max (sget 0 s.life.leafA k) (sget 0 s.life.leafB k))) 0

/-- XMSS_STATE_LOW follows the leaves left (R399). -/
def refreshLeaves (s : Mach) : Mach := setLine 45 (decide (leavesLeft s ≤ obj Obj.ATT_LOW_MARK s)) 0 0 s

/-- R21: the state after BOOT: COMMISSION without a committed consist, otherwise STOP; a reset by ACTIVATE goes on to
START (R397). -/
def leaveBoot (s : Mach) : Mach :=
  let consist := (s.mg.nvA ++ s.mg.nvB).any fun v => match v with
    | .cst _ _ => true
    | _ => false
  let s := setMode (if consist then .stop else .commission) s
  let auto := s.life.autoStart
  let s := { s with life := { s.life with autoStart := false } }
  if auto && !requestBad 1 s then startDiscovery (enterStart s) else s

/-- BOOT_COMPLETE (R350, R387, R390, R392). -/
def cmdBootComplete (lostA lostB : Bool) (pass : Nat) (s : Mach) : Mach :=
  if s.mode ≠ .boot ∨ s.life.held then s
  else
    let s := loadNv lostA lostB (selfTest pass s)
    if s.mode ≠ .boot then s
    else
      let lost := lostA && lostB
      let s := if lost then { s with mg := { s.mg with nvA := [], nvB := [] } } else s
      guestSelect (refreshLeaves (refreshFeed 1 (refreshFeed 0 (leaveBoot s))))

/-! ### Confirmation (R388) -/

/-- Operating time in RUN or STOP since the BOOT or the last C3 event's STOP, ns. -/
def confirmedNs (s : Mach) : Nat :=
  s.life.confNs + (if (s.mode = .run ∨ s.mode = .stop) ∧ ¬ s.life.confHold then s.now - s.life.confAt.getD s.now else 0)

/-- R388 item 2: the keys that the image revokes. -/
def revokeKeys (v : Nat) (s : Mach) : Mach :=
  let used := [0, 1].any fun k => decide ((imgSlot k s).st = 2) && v.testBit (slotKey (imgSlot k s))
  if used then log 0x0805 0 v s
  else
    let fresh := (bitsBelow v 3).filter fun k => !s.life.revoked.testBit k
    each fresh (fun k => log 0x0804 0 k) { s with life := { s.life with revoked := s.life.revoked ||| v % 8 } }

/-- R388 item 3: the fused SVN rises to the lower SVN of the GOOD slots. -/
def advanceSvn (s : Mach) : Mach :=
  let l := ([0, 1].filter fun k => decide ((imgSlot k s).st = 2)).map fun k => slotSvn (imgSlot k s)
  let low := l.foldl min 64
  if l = [] ∨ low ≤ s.life.svn then s else log 0x0803 0 low { s with life := { s.life with svn := low } }

/-- IMAGE_CONFIRM (R388). -/
def cmdImageConfirm (s : Mach) : Mach :=
  let k := s.life.running
  let x := imgSlot k s
  if s.life.trial ∧ s.life.preferred = k ∧ x.st = 1 ∧ obj Obj.BOOT_CONFIRM_S s * 1000000000 ≤ confirmedNs s then
    let s := setImg k { x with st := 2 } { s with life := { s.life with trial := false, trialBoots := 0 } }
    let s := log 0x0802 0 (k * 2 ^ 24 + 2 ^ 16 + slotRelease x) s
    let s := match imgRevoke x.bytes with
      | some v => revokeKeys v s
      | none => s
    advanceSvn s
  else s

/-! ### Loading images (R395) -/

/-- The slot that an image of a KIND is written to: the inactive one; in SAFE the one that is BAD or EMPTY, or slot 1. -/
def updSlot (kind : Nat) (s : Mach) : Nat :=
  if kind = 2 then 1 - s.life.cusPref
  else if s.mode = .safe then
    let bad := fun (k : Nat) => decide ((imgSlot k s).st = 0 ∨ (imgSlot k s).st = 3)
    if bad 0 && !bad 1 then 0 else 1
  else 1 - s.life.running

/-- UPD_BEGIN (R395): one load at a time (Table 14.11). -/
def updBegin (mgr : Nat) (s : Mach) : Nat × Mach :=
  let st := updState s
  if s.life.upd.erasing ∨ (st ≠ 0 ∧ st ≠ 5) then (0x0B, s)
  else if obj Obj.UPD_LENGTH s = 0 then (0x09, s)
  else
    let n := obj Obj.UPD_LENGTH s
    let p := if forwards s then (fun q : Nat × Mach => (some q.1, q.2)) (openBulk bulkImage n s) else (none, s)
    let s := setObj Obj.UPD_PARTNER_STATUS 0 (setObj Obj.UPD_PARTNER_REASON 0 p.2)
    (0, { s with life := { s.life with upd := { len := n, at_ := s.now, erasing := true, bulk := p.1, mgr := mgr } } })

/-- UPD_ERASE_COMPLETE (R395). -/
def cmdUpdEraseComplete (s : Mach) : Mach :=
  if s.life.upd.erasing then setUpd 1 { s with life := { s.life with upd := { s.life.upd with erasing := false } } } else s

/-- R395: the slot of the KIND that the first 64 bytes name becomes EMPTY. -/
def eraseNamed (before : Nat) (s : Mach) : Mach :=
  let l := s.life.upd.bytes
  if 64 ≤ before ∨ l.length < 64 then s
  else
    let k := imgKind l
    let s : Mach := { s with life := { s.life with upd := { s.life.upd with kind := k } } }
    if k = 1 then setImg (updSlot 1 s) {} s else if k = 2 then setCus (updSlot 2 s) {} s else s

/-- UPD_WINDOW_WRITE (R395): ascending offsets from 0, inside the announced length. -/
def updWindow (off : Nat) (data : List Byte) (s : Mach) : Nat × Mach :=
  let u := s.life.upd
  if updState s ≠ 1 then (0x09, s)
  else if off ≠ u.bytes.length ∨ u.len < off + data.length then (0x05, s)
  else
    let s := match u.bulk with
      | some id => if forwards s then putBulk id off data s else s
      | none => s
    (0, eraseNamed off { s with life := { s.life with upd := { u with bytes := u.bytes ++ data } } })

/-- UPD_VERIFY (R395): once the whole image is there. -/
def updVerify (mgr : Nat) (s : Mach) : Nat × Mach :=
  let u := s.life.upd
  if updState s ≠ 1 ∨ u.bytes.length ≠ u.len then (0x09, s)
  else (0, setUpd 2 { s with life := { s.life with upd := { u with at_ := s.now, mgr := mgr } } })

/-- The outcome of a load is reported and recorded (Table 14.6, 0x0806). -/
def updResult (reason : Nat) (s : Mach) : Mach :=
  let u := s.life.upd
  let s := setObj Obj.UPD_REFUSAL_CODE (imgCode reason) (setObj Obj.UPD_REFUSAL_REASON reason s)
  log 0x0806 (0xC000 + u.mgr - 1) (imgCode reason * 2 ^ 24 + reason * 2 ^ 16 + imgKind u.bytes * 2 ^ 8) s

/-- UPD_VERIFY_COMPLETE (R385). -/
def cmdUpdVerifyComplete (s : Mach) : Mach :=
  if updState s ≠ 2 then s
  else match imageFail s.life.upd.bytes s with
    | none => updResult 0 (setUpd 3 s)
    | some r => updResult r (setUpd 5 s)

/-- UPD_CANCEL (R395). -/
def updCancel (s : Mach) : Nat × Mach :=
  if updState s = 0 ∧ ¬ s.life.upd.erasing then (0x09, s) else (0, updEmpty s)

/-! ### Activation (R397) -/

/-- The VERIFIED image becomes its slot's, PREFERRED and TRIAL, and the module resets. -/
def activateNow (s : Mach) : Mach :=
  let u := s.life.upd
  let x : ImgSlot := { st := 1, bytes := u.bytes }
  let s : Mach := if u.kind = 2 then
      let k := updSlot 2 s
      setCus k x { s with life := { s.life with cusPref := k, cusTrial := true, cusBoots := 0 } }
    else
      let k := updSlot 1 s
      setImg k x { s with life := { s.life with preferred := k, trial := true, trialBoots := 0 } }
  restart 2 { s with life := { s.life with autoStart := true } }

/-- R397: the partner holds at the configuration stage running the release of the VERIFIED image. -/
def partnerHolds (s : Mach) : Bool :=
  s.ptn.configured && decide (s.ptn.pRelease = some (nfld (mdlHeader s.life.upd.bytes) 463 448))

/-- ACTIVATE_SELF (R397): its code, and what it does. -/
def activateSelf (mgr : Nat) (s : Mach) : Nat × Mach :=
  let rec_ := fun (s : Mach) => log 0x0807 (0xC000 + mgr - 1) 5 s
  if updState s ≠ 3 then (0x09, s)
  else if s.mode = .commission ∨ s.mode = .stop ∨ s.mode = .trip ∨ s.mode = .safe then (0, activateNow (rec_ s))
  else if switchoverOk s then
    (0, rec_ { s with ptn := { s.ptn with switchDue := true }, life := { s.life with activate := some s.life.upd.kind } })
  else if s.role = .solo ∧ loopOpen s ∧ partnerHolds s then (0, activateNow (rec_ s))
  else (0x09, s)

/-- ACTIVATE_PARTNER (R397): forwarded to a partner that has verified the image. -/
def activatePartner (mgr : Nat) (s : Mach) : Nat × Mach :=
  if s.role = .active ∧ obj Obj.UPD_PARTNER_STATUS s = 1 then
    let s := log 0x0807 (0xC000 + mgr - 1) 4 s
    (0, (sendBulk bulkCommand (encCommit 64 mgr [(6, .scalar (Obj.UPD_CONTROL.key 0 0) 5)]) s).2)
  else (0x09, s)

/-! ### Attestation (R399, R400) -/

/-- The lowest tree with a leaf left, and that leaf. -/
def nextLeaf (s : Mach) : Option (Nat × Nat) :=
  ((List.range 4).map fun k => (k, max (sget 0 s.life.leafA k) (sget 0 s.life.leafB k))).find? fun q => decide (q.2 < 65536)

/-- R399 item 2: the leaf after `leaf` written to both copies: each copy that took it holds it. -/
def writeLeaf (k leaf : Nat) (okA okB : Bool) (s : Mach) : Bool × Mach :=
  let a := mramWrite 0 okA s
  let b := mramWrite 1 okB a.2
  let l := b.2.life
  (a.1 && b.1, { b.2 with life := { l with
    leafA := if a.1 then sput 0 l.leafA k (leaf + 1) else l.leafA
    leafB := if b.1 then sput 0 l.leafB k (leaf + 1) else l.leafB } })

/-- ATT_REQUEST (R399): the next leaf is reserved in both copies before anything is signed; `okA` and `okB` say that the
write passed its verification in each. -/
def attRequest (mgr : Nat) (okA okB : Bool) (s : Mach) : Nat × Mach :=
  let early := match s.life.attAt with
    | some t => decide (s.now < t + obj Obj.ATT_MIN_INTERVAL_S s * 1000000000)
    | none => false
  match nextLeaf s with
  | none => (0x09, setObj Obj.ATT_STATE 3 s)
  | some (k, leaf) =>
    if early || s.life.attTree.isSome then (0x0B, setObj Obj.ATT_STATE (if s.life.attTree.isSome then 1 else 3) s)
    else
      let w := writeLeaf k leaf okA okB s
      let s := w.2
      if !w.1 then (0x09, refreshLeaves (setObj Obj.ATT_STATE 3 s))
      else (0, refreshLeaves (setObj Obj.ATT_STATE 1 { s with life := { s.life with
        attTree := some (k, leaf)
        attMgr := mgr
        attNonce := domBytes 0x1220 0 0 32 s } }))

/-- R398: the seeds of a tree: SHAKE256 of DEVICE_SECRET and its number, one byte, 96 bytes long (DESIGN CHOICE, log
entry 136). -/
def treeSeeds (k : Nat) : List Byte := shake256 (Config.deviceSecret ++ toBytes 1 k) 96

/-- R398: the attestation certificate: its body, the trees' public keys, Luholt's key and signature. -/
def certificate : List Byte :=
  padTo 64 (toBytes 1 0x10 ++ toBytes 8 Config.dieId.toNat ++ padTo 16 Config.serial)
    ++ (List.range 4).flatMap (fun k => padTo 68 (Config.xmssPublic (treeSeeds k)))
    ++ padTo 68 Config.luholtCert.1 ++ padTo 2820 Config.luholtCert.2

/-- An object of a key. -/
def isKeyObj (idx sub : Nat) : Bool :=
  decide ((0x2140 ≤ idx ∧ idx < 0x2180 ∧ (sub = 1 ∨ sub = 2)) ∨ (0x1130 ≤ idx ∧ idx ≤ 0x1131 ∧ (sub = 1 ∨ sub = 2))
    ∨ idx = 0x1219 ∨ idx = 0x2451)

/-- The bytes of a persisted object's value: of a window all of them. -/
def persistedBytes (d : ObjDef) (i j : Nat) (s : Mach) : List Byte :=
  match d.ty with
  | .domain =>
    if d.index = 0x3080 then (List.range 64).flatMap fun t => toBytes 32 (cst t s)
    else if d.index = 0x3030 then
      (List.range 32768).flatMap fun r => toBytes 1 (requester r s).cls ++ toBytes 3 (requester r s).burst
    else domBytes (d.index + i) (d.sub + j) 0 d.size s
  | .str => domBytes (d.index + i) (d.sub + j) 0 d.size s
  | _ => toBytes d.size (oGet d i j s)

/-- Every persisted object but the keys, in index order: key and row. -/
def persistedObjs : List (Nat × ObjDef × Nat × Nat) :=
  let all := (objTable.filter fun d => d.persist || decide (d.index = 0x3030)).flatMap fun d =>
    (List.range d.insts).flatMap fun i => (List.range d.subs).map fun j => (d.key i j, d, i, j)
  sortBy (fun a b => decide (a.1 ≤ b.1)) (all.filter fun q => !isKeyObj (keyIdx q.1) (keySub q.1))

/-- CONFIG_DIGEST of R400. -/
def configDigest (s : Mach) : List Byte := shake256 (persistedObjs.flatMap fun q => persistedBytes q.2.1 q.2.2.1 q.2.2.2 s) 32

/-- TRUST_DIGEST of R400. -/
def trustDigest (s : Mach) : List Byte :=
  shake256 (([0, 1].flatMap fun m => toBytes 1 (oGet Obj.MGMT_PSK_VALID m 0 s))
    ++ ((List.range 64).flatMap fun t => toBytes 1 (oGet Obj.TRAY_KEY_VALID t 0 s))
    ++ customerKey s ++ authorKey s ++ toBytes 1 (obj Obj.MDL_SIGNATURE_REQUIRED s)) 32

/-- The digest of the running guest image. -/
def guestDigest (s : Mach) : List Byte :=
  match s.life.guestImg with
  | 0 => slotGuest (imgSlot s.life.running s)
  | k + 1 => slotGuest (cusSlot k s)

/-- R400: the report body. -/
def reportBody (tree leaf : Nat) (s : Mach) : List Byte :=
  let x := imgSlot s.life.running s
  toBytes 1 0x10 ++ toBytes 1 tree ++ toBytes 2 leaf ++ toBytes 8 Config.dieId.toNat ++ toBytes 2 (slotRelease x)
    ++ toBytes 2 (slotBuild x) ++ toBytes 1 s.life.svn ++ toBytes 1 (modeCode s.mode * 16 + roleCode s.role)
    ++ toBytes 4 (opSeconds s) ++ toBytes 3 s.gl.cycles ++ toBytes 7 0 ++ padTo 32 s.life.attNonce
    ++ padTo 32 (slotDigest x) ++ padTo 32 (guestDigest s)
    ++ toBytes 32 (if s.eng.active = 1 then mdlDigest s.ldr.inUse else 0)
    ++ configDigest s ++ trustDigest s ++ toBytes 32 0

/-- ATT_SIGN_COMPLETE (R400): not while control-pair tasks wait (Table 14.11). -/
def cmdAttSignComplete (s : Mach) : Mach :=
  match s.life.attTree with
  | none => s
  | some (k, leaf) =>
    if tasksWait s then s
    else
      let b := reportBody k leaf s
      let s := domPut 0x1224 0 0 (b ++ padTo 2692 (Config.xmssSign (treeSeeds k) leaf b)) s
      let s := incObj Obj.ATT_SIGNED (setObj Obj.ATT_STATE 2 { s with life := { s.life with attTree := none, attAt := some s.now } })
      log 0x0809 (0xC000 + s.life.attMgr - 1) (k * 2 ^ 24 + leaf) s

/-! ### Power (R409 to R413) -/

/-- AUX_INPUT_FAULT (R410). -/
def cmdAuxInputFault (n : Nat) (s : Mach) : Mach := setLine (2 + n) true 0 0 s
/-- AUX_INPUT_RETURN (R410). -/
def cmdAuxInputReturn (n : Nat) (s : Mach) : Mach := setLine (2 + n) false 0 0 s

/-- AUX_OVERVOLTAGE (R409): the input is disconnected from the bulk. -/
def cmdAuxOvervoltage (n : Nat) (s : Mach) : Mach :=
  { s with life := { s.life with
    auxOff := setBit s.life.auxOff n
    auxOffAt := sput 0 s.life.auxOffAt n s.now } }

/-- AUX_RECONNECT (R409). -/
def cmdAuxReconnect (n : Nat) (s : Mach) : Mach :=
  if sget 0 s.life.auxOffAt n + 100000000 ≤ s.now then
    { s with life := { s.life with auxOff := clrBit s.life.auxOff n, auxOffAt := sput 0 s.life.auxOffAt n 0 } }
  else s

/-- POWER_FAIL_WARNING (R412): drivers and transmitters stop, the log queue and persistent values are written. -/
def cmdPowerFailWarning (s : Mach) : Mach :=
  if s.life.warnAt.isSome then s
  else
    let s := send .linesLow { s with ptn := { s.ptn with gate := true }, life := { s.life with warnAt := some s.now } }
    settleNv (flushAll s.gl.queue.length s)

/-- HOLD_UP_END (R412): the module stops. -/
def cmdHoldUpEnd (s : Mach) : Mach :=
  if s.life.warnAt.isNone ∨ s.life.stopped then s
  else { s with
    gl := { s.gl with opBase := opSeconds s, upAt := s.now }
    life := { s.life with stopped := true } }

/-- POWER_RESTART (R413): the module is at power-up again and waits for its power-on reset. -/
def cmdPowerRestart (s : Mach) : Mach :=
  match s.life.warnAt with
  | none => s
  | some t =>
    if s.now < t + 100000000 then s
    else
      let s := cmdHoldUpEnd s
      { s with mode := .boot, role := .none, life := { s.life with held := true } }

end Sys2Proof.Machine
end

