-- ==== Sys2Proof/Machine/Actions.lean ====
section
/-! DEFINITION. What a write to an object of access WO does at its acceptance, once the checks of Table 13.5 passed: the
requests, controls, keys and load windows of every chapter. -/

namespace Sys2Proof.Machine

/-- A start request (R21, Table 10.13). A module that holds a role already goes on with verification when it drives. -/
def startRequested (s : Mach) : Mach :=
  let s := enterStart s
  match s.role with
  | .none => startDiscovery s
  | .active | .solo => enterVerify s
  | _ => s

/-- MOD_STATE_REQUEST (R21). -/
def stateRequested (v : Nat) (s : Mach) : Mach :=
  if v = 1 then startRequested s
  else if v = 2 then (stopRequested s).1
  else if v = 3 then setMode .commission s
  else if v = 4 then moduleReset s
  else s

/-- A key slot written (R75, R354): the bytes, that they were written, and the copy on its way to MRAM. -/
def keyWritten (idx sub off mgr : Nat) (data : List Byte) (s : Mach) : Mach :=
  let s := domPut idx sub off data s
  let s : Mach := { s with mg := { s.mg with keyed := sput 0 s.mg.keyed (keySlotIx idx (sub - 1)) 1 } }
  queueNv mgr [.bytes idx sub off data] s

/-- EST_LIFE_RESET (R256): the named records return to their reset values, in every copy. -/
def lifeReset (v : Nat) (s : Mach) : Mach :=
  each (bitsBelow v 5) (fun u s => { s with bnk := { s.bnk with
    life := sput {} s.bnk.life u {}
    lifeMir := sput {} s.bnk.lifeMir u {}
    sram := sput {} s.bnk.sram u {} } }) s

/-- PTN_RESYNC_REQUEST (R314). -/
def resyncRequested (s : Mach) : Mach := { s with ptn := { s.ptn with asked := true } }

/-- MDL_CONTROL (Table 8.5): its code and its effect. -/
def mdlControl (v : Nat) (s : Mach) : Nat × Mach :=
  if v = 1 then mdlBegin s else if v = 2 then mdlVerify s else if v = 3 then mdlSwitch s else mdlCancel s

/-- UPD_CONTROL (Table 14.6): its code and its effect. -/
def updControl (v mgr : Nat) (s : Mach) : Nat × Mach :=
  if v = 1 then updBegin mgr s
  else if v = 2 then updVerify mgr s
  else if v = 3 then updCancel s
  else if v = 4 then activatePartner mgr s
  else activateSelf mgr s

/-- FLT_PARTNER_CLEAR (R324): the mask waits for the epoch at which the STANDBY module clears. -/
def partnerClear (v mgr : Nat) (s : Mach) : Mach :=
  acceptVals 64 mgr [(6, .scalar (Obj.FLT_PARTNER_CLEAR.key 0 0) v)] s

/-- The object is a key slot. -/
def keySlot (idx sub : Nat) : Bool :=
  decide ((0x2140 ≤ idx ∧ idx < 0x2180) ∨ idx = 0x1130 ∨ idx = 0x1131) && decide (sub = 1 ∨ sub = 2)

/-- A write of 1 to a BOOL object acts; a write of 0 does nothing. -/
def onOne (v : Nat) (f : Mach → Mach) (s : Mach) : Mach := if v = 1 then f s else s

/-- The effect of an accepted write to a WO object, with its code; `ok` is the outcome of the memory write that R399
needs. -/
def actWrite (idx sub off : Nat) (data : List Byte) (mgr : Nat) (ok : Bool × Bool) (s : Mach) : Nat × Mach :=
  let v := beNat data
  let done := fun (s : Mach) => ((0 : Nat), s)
  if keySlot idx sub then done (keyWritten idx sub off mgr data s)
  else if idx = 0x1011 then done (stateRequested v s)
  else if idx = 0x1208 then updControl v mgr s
  else if idx = 0x1210 then updWindow off data s
  else if idx = 0x121A then done (onOne v appCore s)
  else if idx = 0x1221 then (if v = 1 then attRequest mgr ok.1 ok.2 s else (0, s))
  else if idx = 0x210C then done (brakeRequested v s)
  else if 0x2140 ≤ idx ∧ idx < 0x2180 then done (onOne v (forgetSeq (idx - 0x2140)) s)
  else if idx = 0x2231 then done (onOne v (fun s => { s with arb := { s.arb with clearCtr := true } }) s)
  else if idx = 0x2330 then done (cardReadmit v s)
  else if idx = 0x2440 then mdlControl v s
  else if idx = 0x2460 then done (onOne v adaptRevert s)
  else if idx = 0x3060 then mdlWindow off data s
  else if idx = 0x2540 then done (lifeReset v s)
  else if idx = 0x2601 then done (startTransfer (v - 1) s)
  else if idx = 0x2622 then done (rectReadmitWrite v s)
  else if idx = 0x2642 then done (openRequested v s)
  else if idx = 0x2643 then done (closeRequested v s)
  else if idx = 0x2651 then done (reverify v s)
  else if idx = 0x2707 then done (onOne v resyncRequested s)
  else if idx = 0x2709 then done (onOne v (fun s => { s with ptn := { s.ptn with switchDue := true } }) s)
  else if idx = 0x2802 then done (partnerClear v mgr s)
  else if idx = 0x2830 then
    (if v ≠ 1 then (0, s) else if s.fc.inj.isSome then (0x0B, s) else done (injStart s))
  else if idx = 0x2851 then done (onOne v (glClear mgr) s)
  else if idx = 0x2862 then done (ctrClear v s)
  else done s

/-- The writes that change the loop which a STANDBY module follows (R301): state requests but the reset, BRAKE and SEQ
histories, counters, readmissions, transfer, re-reads, opening and closing, lifetime records, reversion, the switch or
cancellation of a model, and the cancellation of an image. -/
def loopWrite (idx sub v : Nat) : Bool :=
  (decide (idx = 0x1011) && decide (v ≤ 3)) || decide (idx = 0x210C ∨ (0x2140 ≤ idx ∧ idx < 0x2180 ∧ sub = 7)
    ∨ idx = 0x2231 ∨ idx = 0x2330 ∨ idx = 0x2540 ∨ idx = 0x2601 ∨ idx = 0x2622 ∨ idx = 0x2642 ∨ idx = 0x2643 ∨ idx = 0x2651
    ∨ idx = 0x2460 ∨ idx = 0x2862) || (decide (idx = 0x2440) && decide (v = 3 ∨ v = 4))
    || (decide (idx = 0x1208) && decide (v = 3))

/-- The bytes of a forwarded write: as of a commit of one value. -/
def forwardWrite (idx sub off : Nat) (data : List Byte) (mgr : Nat) (s : Mach) : Mach :=
  let x : Option ObjVal :=
    if keySlot idx sub then some (.bytes idx sub off data)
    else if loopWrite idx sub (beNat data) then some (.scalar (idx * 256 + sub) (beNat data))
    else none
  match x with
  | some x => if feedsWrites s then (sendBulk bulkCommand (encCommit 64 mgr [(6, x)]) s).2 else s
  | none => s

/-- A write accepted by the driving module: its effect and, if it took one, its copy to the partner. -/
def performWrite (idx sub off : Nat) (data : List Byte) (mgr : Nat) (ok : Bool × Bool) (s : Mach) : Nat × Mach :=
  let r := actWrite idx sub off data mgr ok s
  if r.1 = 0 then (0, forwardWrite idx sub off data mgr r.2) else r

/-- A write that the partner forwarded (R301, R397); a STANDBY module takes the switch or cancellation of the model that
it verified itself (R221). -/
def forwardedWrite (x : ObjVal) (mgr : Nat) (s : Mach) : Mach :=
  match x with
  | .scalar key v =>
    if keyIdx key = 0x2440 then
      (if v = 3 ∧ (loadState s = 3 ∨ loadState s = 5) then
          setLoad 4 { s with ldr := { s.ldr with acked := true, unfit := decide (loadState s = 5) } }
       else if v = 4 then loadEmpty s else s)
    else if keyIdx key = 0x1120 then { s with mg := { s.mg with remote := v } }
    else if keyIdx key = 0x1208 then (if v = 3 then updEmpty s else if updState s = 3 then activateNow s else s)
    else (actWrite (keyIdx key) (keySub key) 0 (toBytes 8 v) mgr (true, true) s).2
  | .bytes idx sub off l => (actWrite idx sub off l mgr (true, true) s).2
  | _ => s

end Sys2Proof.Machine
end

