-- ==== Sys2Proof/Machine/Standby.lean ====
section
/-! DEFINITION. What a following module executes (R301, R305): forwarded inputs at their instants, the wrap and the end of
an epoch, the comparison of digests, and a takeover's catch-up (R309). -/

namespace Sys2Proof.Machine

/-! ### One input -/

/-- A tray's cap in force from the order, taken into use (R299); `reason` is that of the REVOKEs it may bring. -/
def orderedCap (reason w : Nat) (s : Mach) : Mach :=
  oweFrames (withSupply reason (fun s => { s with grd := { s.grd with capForce := w } }) s)

/-- The 16 samples of a forwarded set, by channel: those whose CH_VALID bit is set. -/
def setSamples (valid samples : Nat) : List (Option Nat) :=
  (List.range 16).map fun c => if valid.testBit c then some (samples / 2 ^ (18 * c) % 2 ^ 18) else none

/-- A frame of CAN FD by its base identifier: rectifier status or module monitor (Tables 9.1 and 10.4). -/
def canFrame (id f : Nat) (s : Mach) : Mach :=
  if 0x100 ≤ id ∧ id < 0x118 then rectStatus (id - 0x100) f s
  else if 0x400 ≤ id ∧ id < 0x480 ∧ (id - 0x400) % 32 < 20 then monitorFrame ((id - 0x400) / 32) ((id - 0x400) % 32) f s
  else s

/-- An extended order record (Table 11.4); kind 6 stands for the cap that a ride-through brings. -/
def orderedEvent (kind v : Nat) (s : Mach) : Mach :=
  if kind = 2 then trayPulled (v % 64) s
  else if kind = 3 then orderedCap 5 v s
  else if kind = 6 then orderedCap 6 v s
  else if kind = 5 then (match s.grd.inService with
    | some f => enterRideThrough f s
    | none => s)
  else if kind = 16 then publishCorr (toSigned 32 v) s
  else if kind = 17 then limitNow s
  else s

/-- A ticket as kept, its bundle's minor version first, acts; the order it stands in is the ingress order. -/
def forwardedTicket (g : Option Nat) (b : List Byte) (s : Mach) : Mach :=
  ticketIn 0 (tkRid (beNat (b.drop 1)) / 512) (b.headD 0).toNat g (b.drop 1) s

/-- An input of the loop acts; a record whose ticket never came does nothing. -/
def inputActs (x : LoopInput) (s : Mach) : Mach :=
  match x with
  | .ticket _ b => forwardedTicket none b s
  | .wait .. => s
  | .ext kind _ v => orderedEvent kind v s
  | .sense _ valid samples => senseSet (setSamples valid samples) s
  | .card c f => cardUplink c f s
  | .feeder t f => cmdFeederUplink t f s
  | .ident t r => cmdIdentityReadComplete t r s
  | .can id _ f => canFrame id f s

/-! ### An epoch -/

/-- Bits `[hi:lo]` of an EPOCH_END payload (Table 11.5). -/
def ef (e : Epoch) (hi lo : Nat) : Nat := nfld e.close hi lo

/-- R301: EPOCH_END has come with every record and ticket of its epoch. -/
def epochReady (e : Epoch) : Bool :=
  decide (e.words = ef e 831 800) && e.items.all fun x => match x with
    | .wait .. => false
    | _ => true

/-- The instant of the wrap that fell in an epoch. -/
def epochWrap (e : Epoch) : Option Nat := if e.close.testBit 702 then some (e.start + ef e 696 665) else none

/-- The instant of an input; one that carries none acts with the input before it. -/
def inputAt (start last : Nat) : LoopInput → Nat
  | .ticket c _ => start + c
  | .wait c .. => start + c
  | .ext _ c _ => start + c
  | .sense t _ _ => t
  | .can _ t _ => t
  | _ => last

/-- The inputs of an epoch with their instants, which lie in the epoch. -/
def datedFrom (e : Epoch) : Nat → List LoopInput → List (Nat × LoopInput)
  | _, [] => []
  | last, x :: r =>
    let t := max e.start (min e.at_ (inputAt e.start last x))
    (t, x) :: datedFrom e t r

/-- A cap that follows the entry of ride-through in the order is the one it brings. -/
def rideCaps : List LoopInput → List LoopInput
  | .ext 5 c v :: .ext 3 d w :: r => .ext 5 c v :: .ext 6 d w :: rideCaps r
  | x :: r => x :: rideCaps r
  | [] => []

/-- The inputs of an epoch in the order of their instants; equal instants keep the forwarded order. -/
def datedItems (e : Epoch) : List (Nat × LoopInput) :=
  sortBy (fun a b => decide (a.1 ≤ b.1)) (datedFrom e e.start (rideCaps e.items))

/-- The tracker of the step that a forwarded wrap begins, whether it re-binned, and whether it unlocks (R33). -/
def forwardedStep (e : Epoch) (w : Nat) (s : Mach) : Tracker × Bool × Bool :=
  let st := trkOf (ef e 699 697)
  let n := ef e 664 646
  let wc := ef e 645 643
  let d := ef e 626 595
  let rebin := e.close.testBit 701
  let t := beginStep (w * 2 ^ 14) st n wc d rebin w { s.trk with adopt := some (ef e 642 627) }
  let known := decide (st ≠ .search ∧ st ≠ .aperiodic) && !(decide (wc = 7 ∧ d = 64000 * 2 ^ 14))
  ({ t with period := if known then n * d / 2 ^ 14 else 0, missed := 0, cand := none, heldLast := none, lastEvt := some (w : Int) },
    rebin, decide ((st = .holdover ∨ st = .aperiodic) ∧ s.trk.st ≠ st))

/-- What falls due between two inputs: 0 the end of an all-fire frame, 1 a held one, 2 the end of a bin, 3 the wrap, with
its instant. -/
def dueEvents (wrap : Option Nat) (s : Mach) : List (Nat × Nat) :=
  let f := s.cnv.fire
  (if f.active then [(f.ends / 8, 0)] else []) ++
  (if f.held && !f.active && decide (s.cnv.st = .regulate) then [(f.sepEnd / 8, 1)] else []) ++
  (if s.trk.bin + 1 < s.trk.n then [(s.trk.nextT / 2 ^ 14, 2)] else []) ++
  (match wrap with
    | some w => if s.trk.wrapT = w then [] else [(w, 3)]
    | none => [])

/-- The earliest of some dated events; the first of equals. -/
def earliest : List (Nat × Nat) → Option (Nat × Nat)
  | [] => none
  | x :: r => match earliest r with
    | none => some x
    | some y => if y.1 < x.1 then some y else some x

/-- One event that time brings, at the present instant. -/
def dueActs (e : Epoch) (kind : Nat) (s : Mach) : Mach :=
  if kind = 0 then cmdAllFireEnd s
  else if kind = 1 then cmdAllFireHeldStart s
  else if kind = 2 then binEnd s
  else match epochWrap e with
    | some w => let p := forwardedStep e w s; boundary p.1 p.2.1 p.2.2 s
    | none => s

/-- The loop reaches the instant `t`. -/
def advance (e : Epoch) (t : Nat) : Nat → Mach → Mach
  | 0, s => { s with now := t }
  | fuel + 1, s =>
    match earliest (dueEvents (epochWrap e) s) with
    | none => { s with now := t }
    | some q =>
      if t < q.1 then { s with now := t }
      else
        let s : Mach := { s with now := max s.now q.1 }
        advance e t fuel (dueActs e q.2 s)

/-- Bins, all-fire frames and the wrap of one epoch are fewer than this. -/
def advanceFuel : Nat := 4096

/-- The next instant, up to `t`, at which anything happens: the next cycle while the arbiter has work, or else what falls
due. -/
def nextInstant (e : Epoch) (t : Nat) (s : Mach) : Nat :=
  if arbiterBusy s then s.now + 1
  else match earliest (dueEvents (epochWrap e) s) with
    | some q => min t (max (s.now + 1) q.1)
    | none => t

/-- The loop runs on to the instant `t`: one cycle of the arbiter in each ns that has work for it. -/
def runOn (e : Epoch) (t : Nat) : Nat → Mach → Mach
  | 0, s => advance e t advanceFuel s
  | fuel + 1, s =>
    if s.now < t then
      runOn e t fuel (advance e (nextInstant e t s) advanceFuel (if arbiterBusy s then arbiterCycle s else s))
    else advance e t advanceFuel s

/-- The loop runs on to the instant `t`, where it is not there yet. -/
def runTo (e : Epoch) (t : Nat) (s : Mach) : Mach := if s.now < t then runOn e t (t - s.now) s else s

/-- The inputs of an epoch act in order. -/
def runItems (e : Epoch) (s : Mach) : Mach := each (datedItems e) (fun q s => inputActs q.2 (runTo e q.1 s)) s

/-- The phases' own transitions of a frame (R135, R143, R144), and cards whose uplinks stopped (R147). -/
def frameTransitions (s : Mach) : Mach :=
  let s := each (List.range 100) (fun p s => coldWake p (warmHold p s)) s
  let s := creditGone true (creditGone false (phaseShed true (phaseShed false s)))
  each (List.range 25) (fun c s => cmdCardLinkLoss c s) s

/-- The tracker at the end of an epoch (R28, R32, R33): its state, and the bin duration, which an event of the epoch may
have corrected without a wrap. -/
def stateAtEnd (e : Epoch) (s : Mach) : Mach :=
  let st := trkOf (ef e 699 697)
  let s : Mach := { s with trk := { s.trk with d := ef e 626 595 } }
  if s.trk.st = st then s
  else
    let s : Mach := { s with trk := { s.trk with st := st, enteredAt := s.now } }
    if st = .holdover ∨ st = .aperiodic then unlocked s else s

/-- The compute point that closes an epoch. -/
def epochCloses (e : Epoch) (s : Mach) : Mach :=
  let s := stateAtEnd e (advance e e.at_ advanceFuel (runTo e e.at_ s))
  -- R179: the correction of the epoch, unless its own record has brought it
  let brought := e.items.any fun x => match x with | .ext 16 _ _ => true | _ => false
  let s := if e.close.testBit 703 && !brought then publishCorr (toSigned 32 (ef e 735 704)) s else s
  let s : Mach := { s with cnv := { s.cnv with
    k := (ef e 863 832 + 1) % 2 ^ 32
    frameAt := e.at_ * 8 + 8000
    period := obj Obj.CNV_PWM_PERIOD s } }
  frameLoop (frameTransitions s)

/-- An epoch is executed at its own instants and frame; the module's own grid is left as it stands. -/
def inEpoch (e : Epoch) (f : Mach → Mach) (s : Mach) : Mach :=
  let s1 : Mach := { s with
    now := e.start
    cnv := { s.cnv with frameAt := e.start * 8 + 8000, k := ef e 863 832 }
    ptn := { s.ptn with executing := true, open_ := { no := ef e 863 832, start := e.start, lastAt := e.start } } }
  let s2 := f s1
  { s2 with
    now := s.now
    cnv := { s2.cnv with frameAt := s.cnv.frameAt, k := s.cnv.k, period := s.cnv.period, downNo := s.cnv.downNo }
    ptn := { s2.ptn with executing := false } }

/-- R305: digests that differ latch COMPARE_MISMATCH and count; a pair that agrees ends the run. -/
def compareDigests (e : Epoch) (s : Mach) : Mach :=
  if obj Obj.PTN_DETECT_MODE s ≠ 1 then s
  else if grantDigest s = ef e 799 768 ∧ dutyDigest s = ef e 767 736 then { s with ptn := { s.ptn with mismatch := 0 } }
  else
    let s := incObj Obj.PTN_MISMATCHES (pulse 32 0 0 s)
    { s with ptn := { s.ptn with mismatch := s.ptn.mismatch + 1 } }

/-- R301: one epoch whole. -/
def executeEpoch (e : Epoch) (s : Mach) : Mach :=
  let s := inEpoch e (fun s => compareDigests e (epochCloses e (runItems e s))) s
  setObj Obj.PTN_LAG_NS ((s.now - e.at_) % 2 ^ 32) s

/-! ### Catching up (R309, R312) -/

/-- The epoch being received, as far as it came. -/
def openPart (s : Mach) : Epoch :=
  { start := s.ptn.lastEnd, items := s.ptn.items, words := s.ptn.got, close := s.ptn.lastNo * 2 ^ 832, at_ := s.now }

/-- Every forwarded epoch not yet executed, then the part of the one being received. -/
def catchUp (s : Mach) : Mach :=
  let l := s.ptn.epochs
  let s : Mach := { s with ptn := { s.ptn with epochs := [] } }
  let s := each l executeEpoch s
  let e := openPart s
  let s : Mach := { s with ptn := { s.ptn with items := [], got := 0 } }
  inEpoch e (fun s => advance e e.at_ advanceFuel (runTo e e.at_ (runItems e s))) s

/-- The tray of a ticket among own inputs, with the bundle it came in. -/
def ownBundle : LoopInput → Option (Nat × Nat)
  | .ticket g b => some (tkRid (beNat (b.drop 1)) / 512, g)
  | _ => none

/-- R68: an open answers bundle for each ingress bundle whose tickets are replayed. -/
def openGroups (l : List (Nat × Nat)) (s : Mach) : Mach :=
  each l.eraseDups (fun q s => { s with tk := { s.tk with
    open_ := s.tk.open_ ++ [⟨q.1, 2, some q.2, (l.filter fun p => decide (p = q)).length, s.now, []⟩] } }) s

/-- Own inputs act in the order of their arrival, each at its instant. -/
def replayOwn (l : List (Nat × LoopInput)) (s : Mach) : Mach :=
  let now := s.now
  let s := openGroups (l.filterMap fun q => ownBundle q.2) s
  let s := each l (fun q s =>
    let s : Mach := { s with now := q.1 }
    match q.2 with
    | .ticket g b => forwardedTicket (some g) b s
    | x => inputActs x s) s
  { s with now := now }

/-- What a module that begins to drive starts from: no order of its own yet, and nothing left of the partner's. -/
def startDriving (s : Mach) : Mach :=
  { s with ptn := { s.ptn with
    words := []
    open_ := { no := s.cnv.k, start := s.now, lastAt := s.now }
    epochs := []
    items := []
    got := 0
    ordExt := none
    own := []
    tickets := []
    claimOff := false
    gate := s.life.warnAt.isSome
    firstClaim := none
    claimAt := some s.now } }

/-- R309: answers of the two frames before the detection. -/
def recentAnswers (s : Mach) : List Answer :=
  (s.tk.recent.filter fun q => decide (s.now ≤ q.1 + frameLen s / 4)).reverse.map fun q => q.2

/-- R309, R311, R316: a STANDBY module takes over; a switchover asked for is dropped. -/
def takeover (s : Mach) : Mach :=
  let s : Mach := if s.mg.remote = 0 then s else { s with mg := { s.mg with holder := s.mg.remote, remote := 0 } }
  let s := pulse 33 0 0 (tokenLapse 4 s)
  let s : Mach := { s with
    ptn := { s.ptn with claimAt := some s.now, resend := recentAnswers s, switchDue := false, switchAt := none }
    life := { s.life with activate := none } }
  let s := catchUp s
  let own := s.ptn.own
  replayOwn own (setRole .active (startDriving s))

/-! ### Compare failures (R305, R306) -/

/-- A module leaves the loop for RESYNC (Table 11.1): its grants and commands end with it, and it says so. -/
def enterResync (reason : Nat) (s : Mach) : Mach :=
  let s := closeInjection (setRole .resync s)
  let s := setObj Obj.PTN_RESYNC_STAGE 0 (setObj Obj.PTN_RESYNC_REASON reason s)
  let s : Mach := { s with
    mg := { s.mg with holder := 0, staged := [] }
    life := { s.life with activate := none }
    ptn := { s.ptn with
      claimAt := none
      firstClaim := none
      claimOff := true
      follow := 0
      resend := []
      switchDue := false
      switchAt := none
      feeding := false
      snapDue := false
      configured := false
      asked := false
      words := []
      sets := []
      seen := []
      open_ := {}
      epochs := []
      items := []
      got := 0
      ordExt := none
      own := []
      tickets := []
      mismatch := 0
      lostCell := false } }
  sendResync 0 reason (send .linesLow (arbiterDrop s))

/-- R306: a latch of this module's own datapath within the last two frames. -/
def ownSuspect (s : Mach) : Bool :=
  match s.ptn.mates with
  | some t => decide (s.now ≤ t + frameLen s / 4)
  | none => false

/-- R304: both paths were lost in the same frames. -/
def partnerSilent (s : Mach) : Bool :=
  let n := obj Obj.PTN_HB_FRAMES s
  decide (n ≤ s.ptn.missL ∧ n ≤ s.ptn.missW)

/-- R305: enough mismatches in a row are a failure of the ACTIVE module; DEMOTE goes out on both paths unless its
heartbeat is lost as well. -/
def compareFailure (s : Mach) : Mach :=
  if s.ptn.mismatch < obj Obj.PTN_COMPARE_FRAMES s then s
  else
    let s : Mach := { s with ptn := { s.ptn with mismatch := 0 } }
    if partnerSilent s then takeover s
    else if ownSuspect s then enterResync 4 s
    else takeover (send .demoteW (sendCell 0x0D 0 [] s))

/-- STANDBY_EPOCH_EXECUTE (R301, R315): the oldest epoch, once it is complete. -/
def cmdStandbyEpochExecute (s : Mach) : Mach :=
  let open_ := decide (s.role = .standby) || (decide (s.role = .resync) && decide (obj Obj.PTN_RESYNC_STAGE s = 4))
  match s.ptn.epochs with
  | [] => s
  | e :: r =>
    if !open_ || !epochReady e then s
    else
      let s := executeEpoch e { s with ptn := { s.ptn with epochs := r } }
      if s.role = .standby then compareFailure s else s

end Sys2Proof.Machine
end

