-- ==== Sys2Proof/Machine/Partner.lean ====
section
/-! DEFINITION. The partner (chapter 11): roles and discovery, cells and their numbering, heartbeats and the detection of a
failed partner, the drive token's share, takeover and switchover, and resynchronisation. -/

namespace Sys2Proof.Machine

/-! ### What leaves for the partner -/

/-- The release of the running image as 16 bits (R396). -/
def ownRelease (s : Mach) : Nat := release s

/-- IDENT's payload: slot, operating state, role, release, serial number and TKT_SHELF_ID (Table 11.3). -/
def identPayload (s : Mach) : List Byte :=
  toBytes 1 (b2n s.slotB) ++ toBytes 1 (modeCode s.mode) ++ toBytes 1 (roleCode s.role) ++ toBytes 2 (ownRelease s)
    ++ padTo 16 Config.serial ++ toBytes 8 (obj Obj.TKT_SHELF_ID s)

/-- An IDENT cell. -/
def sendIdent (s : Mach) : Mach := sendCell 1 0 (identPayload s) s

/-- IDENT_SEND (R294): every 1 ms until a role is held. -/
def cmdIdentSend (s : Mach) : Mach := if s.role = .none then sendIdent s else s

/-- Operating states from their codes in 0x1010. -/
def modeOf (n : Nat) : ModState :=
  if n = 0 then .boot else if n = 1 then .safe else if n = 2 then .commission else if n = 3 then .start
  else if n = 4 then .run else if n = 5 then .drain else if n = 6 then .stop else .trip

/-! ### Resynchronisation, from the module in RESYNC (R314, R315, R396) -/

/-- 0x2708.02. -/
def stage (s : Mach) : Nat := obj Obj.PTN_RESYNC_STAGE s
/-- 0x2708.01. -/
def reason (s : Mach) : Nat := obj Obj.PTN_RESYNC_REASON s

/-- A stage is reached, and told. -/
def toStage (n : Nat) (s : Mach) : Mach :=
  let s := setObj Obj.PTN_RESYNC_STAGE n s
  sendResync n (reason s) s

/-- A resynchronisation fails: it is to begin anew. -/
def resyncFailed (why : Nat) (s : Mach) : Mach :=
  let s := setObj Obj.PTN_RESYNC_REASON why s
  toStage 0 { s with ptn := { s.ptn with
    configured := false
    epochs := []
    items := []
    got := 0
    ordExt := none
    lostCell := false } }

/-- R314: the conditions of a resynchronisation. -/
def resyncDue (s : Mach) : Bool :=
  decide (s.role = .resync) && decide (stage s = 0)
    && (s.ptn.asked || (decide (obj Obj.PTN_AUTO_RESYNC s = 1) && decide (reason s ≠ 4)))
    && decide (obj Obj.PTN_PARTNER_ROLE s = 1 ∨ obj Obj.PTN_PARTNER_ROLE s = 3)
    && decide (s.ptn.pMode = 3 ∨ s.ptn.pMode = 4 ∨ s.ptn.pMode = 5)

/-- R315, item 1: resynchronisation begins with IDENT. -/
def resyncStart (s : Mach) : Mach :=
  if resyncDue s then sendIdent (toStage 1 { s with ptn := { s.ptn with asked := false } }) else s

/-- The release of the oldest image that the running one takes objects from (R396). -/
def upgradeFrom (s : Mach) : Nat := slotUpgrade (imgSlot s.life.running s)

/-- R314, R315, R396: releases are compared. -/
def compareReleases (s : Mach) : Mach :=
  match s.ptn.pRelease with
  | none => s
  | some r =>
    if r = ownRelease s then toStage 2 (if reason s = 2 then setObj Obj.PTN_RESYNC_REASON 0 s else s)
    else
      let s := setObj Obj.PTN_RESYNC_REASON 2 s
      if upgradeFrom s ≤ r then toStage 2 s else toStage 1 s

/-- RESYNC_COMPLETE (R315): the replay has caught up; the module is STANDBY in its partner's operating state. -/
def cmdResyncComplete (s : Mach) : Mach :=
  if s.role ≠ .resync ∨ stage s ≠ 4 ∨ 1 < s.ptn.epochs.length then s
  else
    let why := reason s
    let s := setMode (modeOf s.ptn.pMode) (setRole .standby s)
    -- the START that waited for it goes on (Table 11.1)
    let s := if s.mode = .start ∧ s.fdr.seq = .discovery then enterVerify s else s
    let s : Mach := if loopOpen s then { s with eng := { s.eng with nextAt := s.eng.nextAt.map fun _ => s.now } } else s
    let s := setObj Obj.PTN_RESYNC_STAGE 0 (setObj Obj.PTN_RESYNC_REASON 0 s)
    let s : Mach := { s with ptn := { s.ptn with
      claimOff := false
      gate := s.life.warnAt.isSome
      mismatch := 0
      lostCell := false } }
    log 0x0600 0 why (incObj Obj.PTN_RESYNCS s)

/-! ### Resynchronisation, from the driving module -/

/-- The configuration stream leaves (R315, item 2); a snapshot is due after it unless releases differ. -/
def sendConfig (s : Mach) : Mach :=
  let s : Mach := { s with ptn := { s.ptn with snapDue := decide (s.ptn.pReason ≠ 2), configured := false } }
  tellHolder (sendBulk bulkResync (BitVec.ofNat 8 0 :: configBytes s) s).2

/-- The configuration is acknowledged: the snapshot leaves at the next wrap, or at once outside RUN (R315, item 3). -/
def configAcked (s : Mach) : Mach :=
  let s : Mach := { s with ptn := { s.ptn with configured := true } }
  if s.ptn.snapDue && !loopOpen s then snapSend s else s

/-- The partner no longer resynchronises with this module. -/
def feedStops (s : Mach) : Mach :=
  { s with ptn := { s.ptn with feeding := false, snapDue := false, configured := false } }

/-- The partner has left: an ACTIVE module is SOLO and drives on (Table 11.1). -/
def toSolo (s : Mach) : Mach :=
  let s := setRole .solo s
  feedStops { s with
    ptn := { s.ptn with
      claimOff := false
      switchDue := false
      switchAt := none
      outBulk := [] }
    life := { s.life with activate := none } }

/-! ### Discovery (R294) -/

/-- The role of a module whose partner does not count is SOLO; its START sequence goes on. -/
def aloneInStart (s : Mach) : Mach := enterVerify (setRole .solo s)

/-- DISCOVERY_END (R294, Table 11.1). -/
def cmdDiscoveryEnd (s : Mach) : Mach :=
  if s.role ≠ .none ∨ s.mode ≠ .start then s
  else match s.ptn.ident with
    | some (m, r) =>
      if r = 1 ∨ r = 3 then enterResync (if s.ptn.pRelease = some (ownRelease s) then 0 else 2) s
      else if m = 3 then
        (if s.slotB then enterResync 0 s
        else
          let s := setRole .solo s
          { s with ptn := { s.ptn with holdAt := some s.now } })
      else aloneInStart s
    | none => if s.ptn.discAt + 200000000 ≤ s.now then aloneInStart s else s

/-- DISCOVERY_HOLD_TIMEOUT (R294): 300 ms have passed without slot B as STANDBY. -/
def cmdDiscoveryHoldTimeout (s : Mach) : Mach :=
  match s.ptn.holdAt with
  | none => s
  | some t =>
    if s.now < t + 300000000 ∨ s.mode ≠ .start then s
    else enterVerify { s with ptn := { s.ptn with holdAt := none } }

/-! ### The share of the drive token (R308 to R310) -/

/-- The cards that count as fitted (R308, Table 11.9). -/
def shareCards (s : Mach) : List Nat := (List.range 25).filter fun c => (card c s).fitted && !(card c s).removed

/-- The cards that name slot `b` as holder make up its share: more than half, or half in slot A. -/
def hasShare (b : Bool) (s : Mach) : Bool :=
  let l := shareCards s
  let n := (l.filter fun c => decide ((card c s).holder = b2n b + 1)).length
  decide (l.length < 2 * n) || (decide (2 * n = l.length) && !b)

/-- R309, R311: a takeover completes. -/
def takeoverDone (t : Nat) (s : Mach) : Mach :=
  let s := setRole .solo (countEv 452 (incObj Obj.PTN_TAKEOVERS (setObj Obj.PTN_LAST_TAKEOVER_NS ((s.now - t) % 2 ^ 32) s)))
  let again := s.ptn.resend
  let s : Mach := { s with ptn := { s.ptn with
    claimAt := none
    resend := []
    follow := obj Obj.PTN_FOLLOW_FRAMES s
    astray := [] } }
  each again (fun a s => if a.kind = 0xD then queueBrake a s else queueAnswer a none s) s

/-- R312: a planned switchover completes on the module that took over. -/
def switchoverDone (s : Mach) : Mach :=
  let s : Mach := { s with ptn := { s.ptn with claimAt := none, switchAt := none, resend := [] } }
  log 0x0601 0 1 (incObj Obj.PTN_SWITCHOVERS s)

/-- R308: the share is counted at an uplink round; a module that began to claim counts once its claim has gone out. -/
def shareCheck (s : Mach) : Mach :=
  match s.ptn.claimAt with
  | none => s
  | some t =>
    if !hasShare s.slotB s then s
    else if s.role = .solo then { s with ptn := { s.ptn with claimAt := none } }
    else if s.ptn.firstClaim = none then s
    else if s.ptn.switchAt.isSome then switchoverDone s
    else takeoverDone t s

/-- R312: the old ACTIVE module follows once the cards name the other slot. -/
def handedOver (s : Mach) : Mach :=
  if s.role = .active ∧ s.ptn.switchAt.isSome ∧ s.ptn.claimAt = none ∧ s.ptn.claimOff ∧ hasShare (!s.slotB) s then
    let go := s.life.activate.isSome
    let s := setRole .standby s
    let s : Mach := { s with
      mg := { s.mg with holder := 0, staged := [] }
      ptn := { s.ptn with switchAt := none, claimOff := false, words := [] }
      life := { s.life with activate := none } }
    let s := log 0x0601 0 2 (incObj Obj.PTN_SWITCHOVERS s)
    if go then activateNow s else s
  else s

/-- TOKEN_SHARE_TIMEOUT (R308). -/
def cmdTokenShareTimeout (s : Mach) : Mach :=
  match s.ptn.claimAt with
  | none => s
  | some t => if s.now < t + 40000 then s else enterResync 4 s

/-- R310: one frame after the first claim, a card that still reports the old holder receives TRIP and leaves. -/
def oldHolders (s : Mach) : Mach :=
  match s.ptn.firstClaim with
  | none => s
  | some t =>
    if s.ptn.claimAt.isSome ∨ s.now < t + frameLen s / 8 then s
    else
      let l := (shareCards s).filter fun c => decide (t < (card c s).lastUp) && decide ((card c s).holder ≠ b2n s.slotB + 1)
      let s : Mach := { s with ptn := { s.ptn with firstClaim := none } }
      each l (fun c s => setCard c { card c s with doomed := some ((card c s).doomed.getD 0 ||| 0x10) }
        (send (.card c (cardFrame c true s)) s)) s

/-! ### Planned switchover (R312) -/

/-- Tickets that came after the cut and that no order record names. -/
def afterCut (s : Mach) : List (Nat × LoopInput) :=
  (s.ptn.tickets.filter fun q => decide (s.trk.wrapT ≤ q.1)).map fun q => (q.1, .ticket 0 q.2.2.2)

/-- An input that is a ticket. -/
def isTicket : LoopInput → Bool
  | .ticket .. => true
  | _ => false

/-- The new ACTIVE module catches up, takes its own inputs and claims. -/
def promote (s : Mach) : Mach :=
  let s := catchUp { s with ptn := { s.ptn with resend := [] } }
  let rest := (s.ptn.own.filter fun q => !isTicket q.2) ++ afterCut s
  let s : Mach := if s.mg.remote = 0 then s else { s with mg := { s.mg with holder := s.mg.remote, remote := 0 } }
  let s := setRole .active (tokenLapse 4 (startDriving s))
  replayOwn (sortBy (fun a b => decide (a.1 ≤ b.1)) rest) s

/-- What a switchover does ahead of a compute point: the second frame after the wrap is the first of the new holder. -/
def switchStep (s : Mach) : Mach :=
  match s.ptn.switchAt with
  | none => s
  | some w =>
    if (s.cnv.k + 1) % 2 ^ 32 ≠ (w + 2) % 2 ^ 32 then s
    else if s.role = .standby then promote s
    else if s.role = .active ∧ s.ptn.claimAt = none then
      { s with ptn := { s.ptn with claimOff := true, lastEnd := s.now } }
    else s

/-- PWM_COMPUTE_POINT with what the partners do around it. -/
def cmdComputePoint (s : Mach) : Mach :=
  let k := s.cnv.k
  let acts := !(decide (s.mode = .boot) || !computeDue s || replaced s)
  let s := cmdPwmComputePoint (if acts then switchStep s else s)
  if s.cnv.k = k then s
  else
    let first := if s.ptn.claimAt.isSome then some (s.ptn.firstClaim.getD s.now) else s.ptn.firstClaim
    oldHolders { s with ptn := { s.ptn with firstClaim := first } }

/-! ### A partner that fails (R304, R316) -/

/-- Table 11.9, R397: a module in RESYNC with its configuration complete claims and drives: an empty arbiter, synthesised
rows, tracker SEARCH, and its partner's last operating state. -/
def coldClaim (s : Mach) : Mach :=
  let s := pulse 33 0 0 (arbiterDrop s)
  let s := setMode (modeOf s.ptn.pMode) (setRole .active s)
  let s := setObj Obj.PTN_RESYNC_STAGE 0 (setObj Obj.PTN_RESYNC_REASON 0 s)
  let f := obj Obj.FEED_PREFERRED s - 1
  let s : Mach := { s with
    trk := pseudoStep (s.now * 2 ^ 14) .search s.now s.trk
    tt := { s.tt with synth := true }
    bnk := { s.bnk with st := .ready }
    grd := { s.grd with st := feedStateOf f, inService := some f, capW := obj Obj.GRID_CAP_W s, tLast := 0, tAt := s.now }
    fdr := { s.fdr with seq := .idle } }
  let s := each (List.range 64) (fun t s =>
    if cstPlanned (cst t s) ∧ cstState (cst t s) = 1 then setFeeder t { feeder t s with cmd := 1, used := true } s else s) s
  let s := feedMode f 3 (forgetAllSeq s)
  let s := converterTrack s
  let s : Mach := { s with cnv := { s.cnv with st := .regulate, refUv := (obj Obj.CNV_BUS_SET_MV s : Int) * 1000 } }
  startDriving (if loopOpen s then engineStart s else s)

/-- PARTNER_FAILURE_DETECT (R304). -/
def cmdPartnerFailureDetect (s : Mach) : Mach :=
  if s.role = .resync then
    if s.ptn.unheard < 3 then s
    else if s.ptn.configured ∧ s.ptn.heard ≠ 0 then coldClaim s
    else if reason s = 4 ∨ stage s = 0 then s
    else resyncFailed 1 s
  else if !partnerSilent s then s
  else match s.role with
    | .standby => takeover s
    | .active =>
      if s.ptn.claimAt.isSome then s
      else
        let s := toSolo s
        { s with ptn := { s.ptn with claimAt := some s.now } }
    | .solo => feedStops s
    | _ => s

/-- HEARTBEAT_PATH_LOSS (R303). -/
def cmdHeartbeatPathLoss (wire : Bool) (s : Mach) : Mach :=
  let n := if wire then s.ptn.missW else s.ptn.missL
  if n < obj Obj.PTN_HB_FRAMES s then s else setLine (if wire then 31 else 30) true 0 0 s

/-! ### Heartbeats and DEMOTE (R303, R305, R433) -/

/-- The present instant lies in the partner's half of this module's own frame. -/
def partnerHalf (s : Mach) : Bool :=
  let t := s.now * 8
  let n := frameLen s
  let f := if s.cnv.frameAt ≤ t then s.cnv.frameAt else s.cnv.frameAt - n
  if s.slotB then decide ((t - f) % n < n / 2) else decide (n / 2 ≤ (t - f) % n)

/-- DEMOTE, which only an ACTIVE module obeys (R305, Table 11.9); on path W the drivers and transmitters stop as well. -/
def demoted (wire : Bool) (s : Mach) : Mach :=
  if s.role ≠ .active then s
  else
    let s := enterResync 4 s
    if wire then { s with ptn := { s.ptn with gate := true } } else s

/-- HB_W_PULSE (R303, R423): a heartbeat of 1 µs or a DEMOTE of 3 µs, in the partner's half of the frame; in RESYNC in
either. -/
def cmdHbWPulse (width : Nat) (s : Mach) : Mach :=
  if s.mode = .boot ∨ ¬ (s.role = .resync ∨ s.role = .none ∨ partnerHalf s) then s
  else if 800 ≤ width ∧ width ≤ 1200 then { s with ptn := { s.ptn with gotW := true, heard := s.ptn.heard ||| 2 } }
  else if 2600 ≤ width ∧ width ≤ 3400 then demoted true s
  else s

/-- R301: the grid of a following module is aligned to the partner's. -/
def alignGrid (k : Nat) (s : Mach) : Mach :=
  if s.role ≠ .standby ∧ s.role ≠ .resync then s
  else
    let next := s.now * 8 + 8000
    if k = (s.cnv.k + 1) % 2 ^ 32 then { s with cnv := { s.cnv with frameAt := next - frameLen s } }
    else setObj Obj.CNV_FRAME k { s with cnv := { s.cnv with k := k, frameAt := next } }

/-- What the partner's role means to this one (Table 11.1). -/
def partnerRole (r : Nat) (s : Mach) : Mach :=
  if s.role = .solo ∧ r = 2 then
    let s := tellHolder (feedStops (setRole .active s))
    match s.ptn.holdAt with
    | some _ => enterVerify { s with ptn := { s.ptn with holdAt := none } }
    | none => s
  else if s.role = .active ∧ r = 4 ∧ s.ptn.claimAt = none then toSolo s
  else s

/-- A HEARTBEAT cell. -/
def heartbeatIn (p : List Byte) (s : Mach) : Mach :=
  let r := byteNum p 0 1
  let s : Mach := { s with
    fc := { s.fc with partner := byteNum p 6 8 }
    ptn := { s.ptn with gotL := true, heard := s.ptn.heard ||| 1, pMode := byteNum p 1 1 } }
  let s := setObj Obj.FLT_PARTNER_STATUS (byteNum p 6 8) (setObj Obj.PTN_PARTNER_ROLE r s)
  resyncStart (handedOver (partnerRole r (alignGrid (byteNum p 2 4) s)))

/-! ### The order (R299 to R301) -/

/-- The module takes in another's order: STANDBY, RESYNC from its snapshot on, or the old ACTIVE module of a switchover. -/
def follows (s : Mach) : Bool :=
  decide (s.role = .standby) || (decide (s.role = .resync) && decide (3 ≤ stage s))
    || (decide (s.role = .active) && s.ptn.switchAt.isSome && s.ptn.claimAt.isNone && s.ptn.claimOff)

/-- A forwarded input joins the epoch being received. -/
def received (x : LoopInput) (s : Mach) : Mach := { s with ptn := { s.ptn with items := s.ptn.items ++ [x] } }

/-- R301: the most recent accepted ticket of a requester and SEQ low byte that no record has used. -/
def matchTicket (rid low : Nat) (s : Mach) : Option (Nat × Nat × Nat × List Byte) :=
  s.ptn.tickets.reverse.find? fun q => decide (q.2.1 = rid ∧ q.2.2.1 % 256 = low)

/-- A ticket record, entering at `cyc`. -/
def orderedTicket (cyc rid low : Nat) (s : Mach) : Mach :=
  let s : Mach := { s with ptn := { s.ptn with ordLast := cyc, ordExt := none } }
  match matchTicket rid low s with
  | some q => received (.ticket cyc q.2.2.2) { s with ptn := { s.ptn with tickets := s.ptn.tickets.filter fun x => decide (x ≠ q) } }
  | none => received (.wait cyc rid low s.now false) s

/-- One order record or value (Table 11.4). -/
def orderIn (w : Nat) (s : Mach) : Mach :=
  let s : Mach := { s with ptn := { s.ptn with got := s.ptn.got + 1 } }
  let kind := w / 2 ^ 27 % 16
  let off := w % 2 ^ 24
  let ticket := fun (cyc : Nat) => orderedTicket cyc (w / 65536 % 2 ^ 15) (w / 256 % 256) s
  match s.ptn.ordExt with
  | some (2, c) => received (.ext 2 c w) { s with ptn := { s.ptn with ordExt := none } }
  | some (3, c) => received (.ext 3 c w) { s with ptn := { s.ptn with ordExt := none } }
  | some (_, c) => if w.testBit 31 then s else ticket c
  | none =>
    if !w.testBit 31 then ticket (s.ptn.ordLast + w % 256)
    else if kind = 1 ∨ kind = 2 ∨ kind = 3 then { s with ptn := { s.ptn with ordExt := some (kind, off) } }
    else if kind = 4 ∨ kind = 5 then received (.ext kind off 0) s
    else s

/-- An ORDER cell: own inputs before it are ordered. -/
def orderCellIn (count : Nat) (p : List Byte) (s : Mach) : Mach :=
  let s := each (List.range (min 27 count)) (fun i s => orderIn (byteNum p (4 * i) 4) s) s
  { s with ptn := { s.ptn with own := [] } }

/-- A SENSE cell: two sets and the date of the first (Table 11.3). -/
def senseCellIn (p : List Byte) (s : Mach) : Mach :=
  let t := byteNum p 76 8
  received (.sense (t + 1000) (byteNum p 38 2) (byteNum p 40 36)) (received (.sense t (byteNum p 0 2) (byteNum p 2 36)) s)

/-- The entries of a LINK cell: cards, feeders, identity reads and failed reads by link number. -/
def linkEntries : Nat → List Byte → Mach → Mach
  | 0, _, s => s
  | n + 1, l, s =>
    let k := byteNum l 0 2
    let t := k % 256 % 64
    if k < 25 then linkEntries n (l.drop 18) (received (.card k (byteNum l 2 16)) s)
    else if k / 256 = 1 then linkEntries n (l.drop 10) (received (.feeder t (byteNum l 2 8)) s)
    else if k / 256 = 2 then linkEntries n (l.drop 34) (received (.ident t (some (byteNum l 2 32))) s)
    else if k / 256 = 3 then linkEntries n (l.drop 2) (received (.ident t none) s)
    else s

/-- The entries of a CAN cell: identifier, arrival time and frame. -/
def canEntries : Nat → List Byte → Mach → Mach
  | 0, _, s => s
  | n + 1, l, s => canEntries n (l.drop 28) (received (.can (byteNum l 0 4) (byteNum l 4 8) (byteNum l 12 16)) s)

/-- EPOCH_END: the epoch being received is complete as far as it was sent. -/
def epochEndIn (p : List Byte) (s : Mach) : Mach :=
  let e : Epoch := { start := s.ptn.lastEnd, items := s.ptn.items, words := s.ptn.got, close := beNat (p.take 108), at_ := s.now }
  { s with ptn := { s.ptn with
    epochs := s.ptn.epochs ++ [e]
    items := []
    got := 0
    ordLast := 0
    ordExt := none
    lastEnd := s.now
    lastNo := ef e 863 832
    own := [] } }

/-- FETCH: the ticket it names goes out (R301). -/
def fetchIn (p : List Byte) (s : Mach) : Mach :=
  let rid := byteNum p 0 2
  let low := byteNum p 2 1
  match s.ptn.seen.find? fun l => decide (tkRid (beNat l) = rid ∧ tkSeq (beNat l) % 256 = low) with
  | some l => sendCell 0x0C 1 l s
  | none => s

/-- TICKET: the record that waits for it has it (R301). -/
def ticketCellIn (p : List Byte) (s : Mach) : Mach :=
  let l := p.take 32
  (fillRecord (tkRid (beNat l)) (tkSeq (beNat l) % 256) (BitVec.ofNat 8 0 :: l) s).1

/-! ### BULK objects -/

/-- An ACK cell: identifier, outcome (1 done or verified, 2 refused) and reason. -/
def sendAck (id outcome why : Nat) (s : Mach) : Mach :=
  sendCell 9 1 (toBytes 4 id ++ toBytes 1 outcome ++ toBytes 1 why) s

/-- A committed page (R47); an empty one withdraws the page that stands (R171). -/
def pageIn (l : List Byte) (s : Mach) : Mach :=
  if l = [] then
    (if s.tt.shadow = .committed then { s with tt := { s.tt with shadow := .opened } } else s)
  else
  let n := byteNum l 0 4
  let rows := (List.range n).foldl (fun m b => sput rowReset m b (beNat ((l.drop (9 + 16 * b)).take 16).reverse)) ([] : SMap Nat)
  let s := setShadow { rows := rows, count := n, width := byteNum l 4 1, seq := byteNum l 5 4 } s
  { s with tt := { s.tt with shadow := .committed, late := decide (s.trk.n ≤ s.trk.bin + 1), acked := true } }

/-- A complete model container: stored, and checked by this module itself (R221). -/
def modelIn (id : Nat) (l : List Byte) (s : Mach) : Mach :=
  let s : Mach := { s with ldr := { s.ldr with inc := l, incLen := l.length, erasing := false, acked := true, ackObj := none } }
  match incomingFail s with
  | none => sendAck id 1 0 (setLoad 3 (noteCheck l s))
  | some f => sendAck id 2 f.reason (setLoad 5 (reportRefusal f s))

/-- A complete image: stored, and checked by this module itself (R221, R395). -/
def imageIn (id : Nat) (l : List Byte) (s : Mach) : Mach :=
  let s : Mach := { s with life := { s.life with upd := { len := l.length, bytes := l } } }
  let s := eraseNamed 0 s
  match imageFail l s with
  | none => sendAck id 1 0 (setUpd 3 s)
  | some r => sendAck id 2 r (setObj Obj.UPD_REFUSAL_CODE (imgCode r) (setObj Obj.UPD_REFUSAL_REASON r (setUpd 5 s)))

/-- A forwarded commit waits for its effect point (R371). -/
def commitIn (l : List Byte) (s : Mach) : Mach :=
  let before := pendMask s
  let p : Pending :=
    { mask := byteNum l 0 1, vals := decVals l.length (l.drop 2), mgr := byteNum l 1 1, at_ := s.now, acked := true, solo := false
      late := decide (s.trk.n ≤ s.trk.bin + 1), bulk := 0, rw := decide (byteNum l 0 1 = 64) }
  pendTouch before { s with mg := { s.mg with pend := s.mg.pend ++ [p] } }

/-- The configuration stream or the snapshot (R315). -/
def resyncIn (id : Nat) (l : List Byte) (s : Mach) : Mach :=
  if s.role ≠ .resync then s
  else if byteNum l 0 1 = 0 then
    let s := takeConfig (l.drop 1) s
    let s := sendAck id 1 0 { s with ptn := { s.ptn with configured := true } }
    if reason s = 2 then s else toStage 3 s
  else
    let s := takeSnap (l.drop 1) s
    -- R218: a module that will be in RUN places its model; the partner's recurrent state then replaces the model's own
    let s := if s.ptn.pMode = 4 ∨ s.ptn.pMode = 5 then takeSnap (l.drop 1) (engineStart s) else s
    sendAck id 1 0 (toStage 4 s)

/-- R179: a correction of the ACTIVE module joins the inputs of its epoch, whether that is still being received or not. -/
def corrIn (l : List Byte) (s : Mach) : Mach :=
  let x : LoopInput := .ext (byteNum l 8 1) (byteNum l 4 4) (byteNum l 9 4)
  let here := fun (e : Epoch) => decide (nfld e.close 863 832 = byteNum l 0 4)
  let put := fun (e : Epoch) => if here e then { e with items := x :: e.items } else e
  if s.ptn.epochs.any here then { s with ptn := { s.ptn with epochs := s.ptn.epochs.map put } }
  else { s with ptn := { s.ptn with items := x :: s.ptn.items } }

/-- What the ACTIVE module's loader did at the boundary that this module comes to (R222, R230). -/
def turnIn (l : List Byte) (s : Mach) : Mach :=
  if byteNum l 0 1 = 0 then { s with ldr := { s.ldr with flipTold := true } }
  else { s with ldr := { s.ldr with switchTold := true } }

/-- A forwarded object is complete. -/
def bulkDone (id : Nat) (l : List Byte) (s : Mach) : Mach :=
  let kind := id / 2 ^ 24
  let ack := sendAck id 1 0
  let inLoop := decide (s.role = .standby) || (decide (s.role = .resync) && s.ptn.configured)
    || (decide (s.role = .active) && s.ptn.switchAt.isSome && s.ptn.claimOff)
  if kind = bulkResync then resyncIn id l s
  else if kind = bulkCommand then
    ack (each (decVals l.length (l.drop 2)) (fun q s =>
      if inLoop || decide (valObj q.2 = (0x1120, 0)) then forwardedWrite q.2 (byteNum l 1 1) s else s) s)
  else if !inLoop then s
  else if kind = bulkPage then ack (pageIn l s)
  else if kind = bulkModel then modelIn id l s
  else if kind = bulkCandidate then ack { s with ldr := { s.ldr with cand := some l, candAck := true } }
  else if kind = bulkEstimator then ack (if s.role = .standby then takeEst l s else s)
  else if kind = bulkCommit then ack (commitIn l s)
  else if kind = bulkImage then imageIn id l s
  else if kind = bulkTurn then ack (turnIn l s)
  else if kind = bulkCorr then ack (corrIn l s)
  else s

/-- A BULK cell: bytes join their object in ascending order; the first 8 give its length. -/
def bulkCellIn (count : Nat) (p : List Byte) (s : Mach) : Mach :=
  let id := byteNum p 0 4
  let off := byteNum p 4 8
  let have_ := if off = 0 then [] else sget [] s.ptn.bulkIn id
  if off ≠ have_.length then s
  else
    -- the snapshot's first cell opens the first epoch (R315)
    let s : Mach := if off = 0 ∧ id / 2 ^ 24 = bulkResync ∧ stage s = 3 then
        { s with ptn := { s.ptn with lastEnd := s.now, epochs := [], items := [], got := 0, ordLast := 0, ordExt := none
                                     lostCell := false } }
      else s
    let l := have_ ++ (p.drop 12).take (min 96 count)
    if 8 ≤ l.length ∧ l.length = 8 + byteNum l 0 8 then
      bulkDone id (l.drop 8) { s with ptn := { s.ptn with bulkIn := sput [] s.ptn.bulkIn id [] } }
    else { s with ptn := { s.ptn with bulkIn := sput [] s.ptn.bulkIn id l } }

/-- ACK: what waited for the partner may go on (R47, R221, R230, R315, R371, R395). -/
def ackIn (p : List Byte) (s : Mach) : Mach :=
  let id := byteNum p 0 4
  let kind := id / 2 ^ 24
  if !s.ptn.outBulk.contains id then s
  else
    let s : Mach := { s with ptn := { s.ptn with outBulk := s.ptn.outBulk.filter fun x => decide (x ≠ id) } }
    if kind = bulkPage then { s with tt := { s.tt with acked := true } }
    else if kind = bulkModel then
      let s := setObj Obj.MDL_PARTNER_STATUS (byteNum p 4 1) (setObj Obj.MDL_PARTNER_REASON (byteNum p 5 1) s)
      if s.ldr.ackObj = some id then { s with ldr := { s.ldr with acked := true } } else s
    else if kind = bulkCandidate then (if s.ldr.candBulk = id then { s with ldr := { s.ldr with candAck := true } } else s)
    else if kind = bulkCommit then
      { s with mg := { s.mg with pend := s.mg.pend.map fun q => if q.bulk = id then { q with acked := true } else q } }
    else if kind = bulkImage then setObj Obj.UPD_PARTNER_STATUS (byteNum p 4 1) (setObj Obj.UPD_PARTNER_REASON (byteNum p 5 1) s)
    else if kind = bulkResync then (if s.ptn.configured then s else configAcked s)
    else s

/-! ### IDENT, SWITCH and RESYNC cells -/

/-- An IDENT cell (R294, R315). -/
def identIn (p : List Byte) (s : Mach) : Mach :=
  let m := byteNum p 1 1
  let r := byteNum p 2 1
  let s : Mach := { s with ptn := { s.ptn with pMode := m, pRelease := some (byteNum p 3 2) } }
  let counted := decide (m ≠ 0 ∧ m ≠ 1 ∧ m ≠ 2)
  let s : Mach := if s.role = .none ∧ s.mode = .start ∧ counted then { s with ptn := { s.ptn with ident := some (m, r) } } else s
  let s := if s.role ≠ .none ∧ r = 0 then sendIdent s else s
  if s.role = .resync ∧ stage s = 1 ∧ r ≠ 0 then compareReleases s else s

/-- A SWITCH cell (R312): the cut of the order. -/
def switchIn (p : List Byte) (s : Mach) : Mach :=
  if s.role = .standby ∧ s.ptn.switchAt = none then
    sendCell 0x0E 0 (p.take 8) { s with ptn := { s.ptn with switchAt := some (byteNum p 0 4) } }
  else s

/-- A RESYNC cell (R315). -/
def resyncCellIn (p : List Byte) (s : Mach) : Mach :=
  let st := byteNum p 0 1
  let why := byteNum p 1 1
  let s : Mach := { s with ptn := { s.ptn with pReason := why } }
  match s.role with
  | .standby => if why = 3 then enterResync 3 s else s
  | .active => if s.ptn.claimAt = none then tellHolder (toSolo s) else s
  | .solo =>
    if st = 0 then tellHolder (feedStops s)
    else if st = 1 then sendIdent s
    else if st = 2 then sendConfig s
    else s
  | _ => s

/-! ### Cells in their order (R296 to R298) -/

/-- R296: the cell is good and of the type its command names. -/
def cellGood (kind : Nat) (c : Nat) : Bool :=
  decide (c / 2 ^ 1020 = 1) && decide (nfld c 1015 1008 = kind) && decide (crc32 ((toBytes 128 c).take 124) = c % 2 ^ 32)

/-- A good cell acts by its type. -/
def cellActs (c : Nat) (s : Mach) : Mach :=
  let kind := nfld c 1015 1008
  let count := nfld c 959 952
  let p := ((toBytes 128 c).drop 16).take 108
  let loop := follows s
  if kind = 1 then identIn p s
  else if kind = 2 then heartbeatIn p s
  else if kind = 3 then (if loop then orderCellIn count p s else s)
  else if kind = 4 then (if loop then senseCellIn p s else s)
  else if kind = 5 then (if loop then linkEntries (min 54 count) p s else s)
  else if kind = 6 then (if loop then canEntries (min 3 count) p s else s)
  else if kind = 7 then (if loop then epochEndIn p s else s)
  else if kind = 8 then bulkCellIn count p s
  else if kind = 9 then ackIn p s
  else if kind = 0xB then fetchIn p s
  else if kind = 0xC then (if loop then ticketCellIn p s else s)
  else if kind = 0xD then demoted false s
  else if kind = 0xE then switchIn p s
  else if kind = 0xF then resyncCellIn p s
  else s

/-- The types whose cells act in the order they were sent. -/
def inOrder (kind : Nat) : Bool := decide ((3 ≤ kind ∧ kind ≤ 8) ∨ kind = 0xC ∨ kind = 0xE)

/-- `a` was sent before `b` (modulo 2³²). -/
def seqBefore (a b : Nat) : Bool := decide ((b + 2 ^ 32 - a) % 2 ^ 32 - 1 < 2 ^ 31 - 1 ∧ a ≠ b)

/-- Held cells with no gap before them act. -/
def releaseHeld : Nat → Mach → Mach
  | 0, s => s
  | fuel + 1, s =>
    match s.ptn.heldCells with
    | [] => s
    | q :: r =>
      if s.ptn.gaps.any fun g => seqBefore g.1 q.1 then s
      else releaseHeld fuel (cellActs q.2 { s with ptn := { s.ptn with heldCells := r } })

/-- A cell waits behind a gap, in the order of numbers. -/
def holdCell (seq c : Nat) (s : Mach) : Mach :=
  { s with ptn := { s.ptn with heldCells := insertBy (fun a b => seqBefore a.1 b.1) (seq, c) s.ptn.heldCells } }

/-- R298: cells not received within 5 µs of the gap being found are lost; a resynchronisation that loses one begins anew. -/
def dropGaps (s : Mach) : Mach :=
  let late := s.ptn.gaps.filter fun g => decide (g.2 + 5000 ≤ s.now)
  if late = [] then s
  else
    let s : Mach := { s with ptn := { s.ptn with
      gaps := s.ptn.gaps.filter fun g => decide (s.now < g.2 + 5000)
      lostCell := true } }
    let s := releaseHeld 4096 s
    if s.role = .resync ∧ 2 ≤ stage s then resyncFailed 5 s else s

/-- NAK cells for missing numbers, 27 to a cell. -/
def sendNaks : Nat → List Nat → Mach → Mach
  | 0, _, s => s
  | fuel + 1, l, s =>
    if l = [] then s
    else sendNaks fuel (l.drop 27) (sendCell 0xA (l.take 27).length ((l.take 27).flatMap fun n => toBytes 4 n) s)

/-- A cell in its turn: it acts, or waits behind a gap. -/
def cellInTurn (seq c : Nat) (s : Mach) : Mach :=
  if inOrder (nfld c 1015 1008) && s.ptn.gaps.any (fun g => seqBefore g.1 seq) then holdCell seq c s else cellActs c s

/-- A good cell with its number: the next, one past a gap, one that fills a gap, or a repeat. An IDENT of a module that
started anew starts its numbering. -/
def numbered (c : Nat) (s : Mach) : Mach :=
  let seq := nfld c 1007 976
  match s.ptn.rxSeq with
  | none => cellInTurn seq c { s with ptn := { s.ptn with rxSeq := some seq } }
  | some r =>
    let d := (seq + 2 ^ 32 - r) % 2 ^ 32
    if d = 1 then cellInTurn seq c { s with ptn := { s.ptn with rxSeq := some seq } }
    else if 1 < d ∧ d ≤ 4096 then
      let miss := (List.range (d - 1)).map fun i => (r + 1 + i) % 2 ^ 32
      let s : Mach := { s with ptn := { s.ptn with rxSeq := some seq, gaps := s.ptn.gaps ++ miss.map fun n => (n, s.now) } }
      cellInTurn seq c (sendNaks 160 miss s)
    else if s.ptn.gaps.any fun g => decide (g.1 = seq) then
      let s : Mach := { s with ptn := { s.ptn with gaps := s.ptn.gaps.filter fun g => decide (g.1 ≠ seq) } }
      releaseHeld 4096 (cellInTurn seq c s)
    else if nfld c 1015 1008 = 1 ∨ (4096 < d ∧ d < 2 ^ 31) then
      cellActs c { s with ptn := { s.ptn with rxSeq := some seq, gaps := [], heldCells := [], lostCell := decide (nfld c 1015 1008 ≠ 1) } }
    else s

/-- NAK (R298): named cells leave again. -/
def nakIn (count : Nat) (p : List Byte) (s : Mach) : Mach :=
  each (List.range (min 27 count)) (fun i s =>
    let n := byteNum p (4 * i) 4
    match s.ptn.sent.find? fun q => decide (q.1 = n) with
    | some q => countEv 450 (incObj Obj.PTN_CELL_RESENDS (send (.cell q.2.1 q.1 q.2.2) s))
    | none => s) s

/-- A cell of a type arrives (R296, R302). -/
def cellIn (kind : Nat) (c : Nat) (s : Mach) : Mach :=
  if s.mode = .boot ∨ ¬ cellGood kind c then s
  else
    let s := setLine 29 false 0 0 { s with ptn := { s.ptn with lastCell := s.now } }
    let s := numbered c (dropGaps s)
    if kind = 0xA then nakIn (nfld c 959 952) (((toBytes 128 c).drop 16).take 108) s else s

/-! ### Falling behind and the lane (R301, R302) -/

/-- FETCH_TIMEOUT (R301): records whose ticket is 1 µs late are asked for. -/
def cmdFetchTimeout (s : Mach) : Mach :=
  let late : LoopInput → Option (Nat × Nat) := fun x => match x with
    | .wait _ r l since false => if since + 1000 ≤ s.now then some (r, l) else none
    | _ => none
  let mark : LoopInput → LoopInput := fun x => match x with
    | .wait c r l since false => .wait c r l since (decide (since + 1000 ≤ s.now))
    | x => x
  let l := (s.ptn.epochs.flatMap fun e => e.items.filterMap late) ++ s.ptn.items.filterMap late
  let s : Mach := { s with ptn := { s.ptn with
    epochs := s.ptn.epochs.map fun e => { e with items := e.items.map mark }
    items := s.ptn.items.map mark } }
  each l (fun q s => countEv 451 (incObj Obj.PTN_FETCHES (sendCell 0xB 1 (toBytes 2 q.1 ++ toBytes 1 q.2) s))) s

/-- STANDBY_FALL_BEHIND (R301): 2 µs before the compute point something of an epoch due there is missing. -/
def cmdStandbyFallBehind (s : Mach) : Mach :=
  let s := dropGaps s
  let k := s.cnv.k
  let due := decide (s.cnv.frameAt + frameLen s ≤ s.now * 8 + 24000)
  let gone := decide (s.ptn.lastNo ≠ k ∧ (s.ptn.lastNo + 1) % 2 ^ 32 ≠ k)
  let part := s.ptn.epochs.any fun e => decide (ef e 863 832 ≠ k) && !epochReady e
  if s.role = .standby ∧ due ∧ s.ptn.unheard = 0 ∧ (gone ∨ part ∨ s.ptn.lostCell) then
    enterResync 3 (setLine 29 true 0 0 s)
  else s

/-- PARTNER_LINK_LOSS (R302): no good cell for three frames, once one had come. -/
def cmdPartnerLinkLoss (s : Mach) : Mach :=
  if s.role = .none ∨ s.mode = .boot ∨ s.ptn.lastCell = 0 ∨ s.now * 8 < s.ptn.lastCell * 8 + 3 * frameLen s then s
  else
    let s := setLine 29 true 0 0 s
    if s.role = .standby ∧ s.ptn.missW < obj Obj.PTN_HB_FRAMES s then enterResync 3 s else s

/-- PARTNER_LANE_SILENCE (R302): no good cell for 100 ms; a resynchronisation begins anew on lane 9. -/
def cmdPartnerLaneSilence (s : Mach) : Mach :=
  if s.mode = .boot ∨ s.ptn.lastCell = 0 ∨ s.now < s.ptn.lastCell + 100000000 ∨ obj Obj.PTN_LANE s = 9 then s
  else
    let s : Mach := { s with ptn := { s.ptn with laneDue := true } }
    if s.mode = .run ∧ s.role ≠ .resync then s
    else
      let s := laneMove s
      if s.role = .resync ∧ 0 < stage s then resyncFailed (reason s) s else s

end Sys2Proof.Machine
end

