-- ==== Sys2Proof/Machine/Inputs.lean ====
section
/-! DEFINITION. The loop's inputs as they reach a module (R23, R297, R301): a driving module takes each in and forwards it
to a following one; a STANDBY module keeps it and watches its own links; a module in RESYNC watches its links only. -/

namespace Sys2Proof.Machine

/-! ### Own links of a module that follows (bits 46 to 50) -/

/-- The FLT bit of a kind of link: 0 sense, 1 card, 2 feeder, 3 rectifier, 4 monitor. -/
def ownBit (kind : Nat) : Nat :=
  if kind = 0 then 48 else if kind = 1 then 49 else if kind = 2 then 50 else if kind = 3 then 46 else 47

/-- The SOURCE of a link (Table 12.5). -/
def ownSource (kind n : Nat) : Nat :=
  if kind = 0 then 0 else if kind = 1 then 0x1000 + n else if kind = 2 then 0x3000 + n
  else if kind = 3 then 0x4000 + n else 0x9000 + n

/-- The line of a kind of link is asserted while one of them is down or its bus is in error. -/
def refreshOwn (kind n : Nat) (s : Mach) : Mach :=
  let down := s.ptn.ownDown.any fun p => decide (p.1 / 256 = kind)
  let bus := (decide (kind = 3) && s.grd.canErr.testBit 0) || (decide (kind = 4) && s.grd.canErr.testBit 1)
  setLine (ownBit kind) (down || bus) (ownSource kind n) (if kind = 1 then 0x10 else 0) s

/-- A frame of a link arrives, good or bad; the third bad one in a row takes a card's or feeder's link down. -/
def ownFrame (kind n : Nat) (good : Bool) (s : Mach) : Mach :=
  let key := kind * 256 + n
  let p := s.ptn
  let bad := if good then 0 else min 3 (sget 0 p.ownBad key + 1)
  refreshOwn kind n { s with ptn := { p with
    ownAt := if good then sput 0 p.ownAt key s.now else p.ownAt
    ownBad := sput 0 p.ownBad key bad
    ownDown := if good then sput 0 p.ownDown key 0
      else if 3 ≤ bad ∧ (kind = 1 ∨ kind = 2) then sput 0 p.ownDown key 1 else p.ownDown } }

/-- A link that carried frames has been silent for `ns`. -/
def ownSilent (kind n ns : Nat) (s : Mach) : Mach :=
  let key := kind * 256 + n
  let at_ := sget 0 s.ptn.ownAt key
  if at_ = 0 ∨ (s.now < at_ + ns ∧ sget 0 s.ptn.ownBad key < 3) then s
  else refreshOwn kind n { s with ptn := { s.ptn with ownDown := sput 0 s.ptn.ownDown key 1 } }

/-- A module that follows: STANDBY or RESYNC. -/
def followsLoop (s : Mach) : Bool := decide (s.role = .standby ∨ s.role = .resync)

/-- An own input of a STANDBY module waits for a takeover. -/
def keepOwn (x : LoopInput) (s : Mach) : Mach :=
  if s.role = .standby then { s with ptn := { s.ptn with own := s.ptn.own ++ [(s.now, x)] } } else s

/-- A link's own timer, on a module that follows: its own line, and on a STANDBY module the loop's effect with the line
masked (R301). -/
def linkTimer (own loop : Mach → Mach) (s : Mach) : Mach :=
  if s.role = .resync then own s
  else if s.role = .standby then
    let s := loop { s with ptn := { s.ptn with executing := true } }
    own { s with ptn := { s.ptn with executing := false } }
  else loop s

/-! ### Forwarding (Table 11.3) -/

/-- A LINK cell of one entry. -/
def forwardLink (n len frame : Nat) (s : Mach) : Mach :=
  if feeds s then sendCell 5 1 (toBytes 2 n ++ toBytes len frame) s else s

/-- A CAN cell of one frame. -/
def forwardCan (id frame : Nat) (s : Mach) : Mach :=
  if feeds s then sendCell 6 1 (toBytes 4 id ++ toBytes 8 s.now ++ toBytes 16 frame) s else s

/-- Sample sets as delivered: CH_VALID and 16 samples of 18 bits. -/
def setWords (l : List (Option Nat)) : Nat × Nat :=
  (List.range 16).foldl (fun w c => match l.getD c none with
    | some x => (w.1 ||| 2 ^ c, w.2 ||| x <<< (18 * c))
    | none => w) (0, 0)

/-- Two sample sets make a SENSE cell; a set that does not follow the one waiting by 1 µs waits alone. -/
def forwardSet (l : List (Option Nat)) (s : Mach) : Mach :=
  if !feeds s then s
  else
    let w := setWords l
    match s.ptn.sets with
    | q :: _ =>
      sendCell 4 2 (toBytes 2 q.2.1 ++ toBytes 36 q.2.2 ++ toBytes 2 w.1 ++ toBytes 36 w.2 ++ toBytes 8 q.1)
        { s with ptn := { s.ptn with sets := [] } }
    | [] => { s with ptn := { s.ptn with sets := [(s.now, w.1, w.2)] } }

/-! ### The inputs -/

/-- SENSE_FRAME (R421, R422, R165): a sample set. -/
def senseIn (f : Nat) (s : Mach) : Mach :=
  if s.mode = .boot then s
  else
    let l := frameSamples f s
    let good := decide (f % 65536 = crc16 ((toBytes 42 f).take 40))
    if followsLoop s then
      let s := ownFrame 0 0 good { s with cnv := { s.cnv with setNo := nextSetNo f s } }
      let w := setWords l
      let s := keepOwn (.sense s.now w.1 w.2) s
      if s.role = .standby then lrSense (fun c => (l.getD c none).getD (sget 0 s.cnv.chan c)) s else s
    else
      let s := forwardSet l (cmdSenseFrame f s)
      if s.mode = .safe then s else lrSense (fun c => sget 0 s.cnv.chan c) s

/-- SENSE_TIMEOUT (R236). -/
def senseLate (c : Nat) (s : Mach) : Mach := linkTimer (ownSilent 0 0 3000) (cmdSenseTimeout c) s

/-- A card's uplink is good (R129). -/
def cardFrameGood (f : Nat) : Bool := decide (f / 2 ^ 124 = 1) && decide (f % 65536 = crc16 ((toBytes 16 f).take 14))

/-- CARD_UPLINK (R129, R308). -/
def cardIn (c f : Nat) (s : Mach) : Mach :=
  if s.mode = .boot then s
  else if followsLoop s then keepOwn (.card c f) (ownFrame 1 c (cardFrameGood f) s)
  else handedOver (shareCheck (forwardLink c 16 f (cardUplink c f s)))

/-- CARD_LINK_LOSS (R147). -/
def cardLate (c : Nat) (s : Mach) : Mach := linkTimer (ownSilent 1 c 30000) (cmdCardLinkLoss c) s

/-- A feeder's uplink is good (R278). -/
def feederFrameGood (f : Nat) : Bool := decide (f / 2 ^ 60 = 1) && decide (f % 65536 = crc16 ((toBytes 8 f).take 6))

/-- FEEDER_UPLINK (R278). -/
def feederIn (t f : Nat) (s : Mach) : Mach :=
  if s.mode = .boot then s
  else if followsLoop s then keepOwn (.feeder t f) (ownFrame 2 t (feederFrameGood f) s)
  else cmdFeederUplink t f (forwardLink (0x100 + t) 8 f s)

/-- FEEDER_LINK_LOSS (R279). -/
def feederLate (t : Nat) (s : Mach) : Mach := linkTimer (ownSilent 2 t 30000) (cmdFeederLinkLoss t) s

/-- IDENTITY_READ_COMPLETE (R281): only the driving module reads. -/
def identityIn (t : Nat) (r : Option Nat) (s : Mach) : Mach :=
  if followsLoop s then s
  else cmdIdentityReadComplete t r (match r with
    | some w => forwardLink (0x200 + t) 32 w s
    | none => forwardLink (0x300 + t) 0 0 s)

/-- RECT_STATUS_FRAME (R264). -/
def rectIn (r f : Nat) (s : Mach) : Mach :=
  if s.mode = .boot then s
  else if followsLoop s then keepOwn (.can (0x100 + r) s.now f) (ownFrame 3 r true s)
  else rectStatus r f (forwardCan (0x100 + r) f s)

/-- RECT_TIMEOUT (R265). -/
def rectLate (r : Nat) (s : Mach) : Mach := linkTimer (ownSilent 3 r 30000001) (cmdRectTimeout r) s

/-- MONITOR_FRAME (R235). -/
def monitorIn (k m f : Nat) (s : Mach) : Mach :=
  if s.mode = .boot then s
  else if followsLoop s then keepOwn (.can (0x400 + 32 * k + m) s.now f) (ownFrame 4 (32 * k + m) true s)
  else monitorFrame k m f (forwardCan (0x400 + 32 * k + m) f s)

/-- MONITOR_TIMEOUT (R236). -/
def monitorLate (k m : Nat) (s : Mach) : Mach :=
  linkTimer (ownSilent 4 (32 * k + m) (obj Obj.BNK_MON_TIMEOUT_MS s * 1000000)) (cmdMonitorTimeout k m) s

/-- CAN_BUS_ERROR and CAN_BUS_RECOVERY (R236, R265): the bus is this module's own. -/
def busChanged (bus : Nat) (bad : Bool) (s : Mach) : Mach :=
  if followsLoop s then
    refreshOwn (3 + bus) 0 { s with grd := { s.grd with
      canErr := if bad then setBit s.grd.canErr bus else clrBit s.grd.canErr bus } }
  else if bad then cmdCanBusError bus s else cmdCanBusRecovery bus s

/-- The 10 µs grid: the downlink of every feeder (R276), and the rack aggregate with the channels of its rate, of which
three are recorded at each hundredth (R25, R165, R246). -/
def tenMicros (s : Mach) : Mach :=
  if s.mode = .boot ∨ s.now < s.fdr.downAt then s
  else
    let s := cmdFeederDownlink s
    if s.mode = .safe ∨ s.role = .resync then s
    else
      let x := aggNow s
      let s := lrSamplePeriod (lrChan 180 s).count (aggSample s)
      { s with eng := { s.eng with aggSum := s.eng.aggSum + x, aggN := s.eng.aggN + 1 } }

/-- RUN_ENTRY (R21): the module is in RUN and its engine's grid starts (R182). -/
def runEntry (s : Mach) : Mach :=
  let was := s.mode
  let s := cmdRunEntry s
  if was ≠ .run ∧ s.mode = .run then engineStart s else s

/-- A timer of the loop that only a module with a loop of its own obeys; a STANDBY module meets it in the epochs it
executes. -/
def ownLoop (f : Mach → Mach) (s : Mach) : Mach := if followsLoop s then s else f s

end Sys2Proof.Machine
end

