-- ==== Sys2Proof/Machine/Read.lean ====
section
/-! DEFINITION. What a read of an object returns (R349, R376): values that a unit holds, values formed when they are read,
windows of records, and staged values (R369). Everything else lies in the register file. -/

namespace Sys2Proof.Machine

/-! ### Figures -/

/-- The mask of the numbers below `n` that satisfy a condition. -/
def maskOf (n : Nat) (p : Nat → Bool) : Nat := ((List.range n).filter p).foldl (fun a i => a ||| 2 ^ i) 0

/-- How many numbers below `n` satisfy a condition. -/
def countBelow (n : Nat) (p : Nat → Bool) : Nat := ((List.range n).filter p).length

/-- nAs as mAs. -/
def milliAs (x : Int) : Nat := ofSigned 64 (tdiv x 1000000)

/-- EST_FLAGS of a unit (Table 9.11). -/
def estFlags (u : Nat) (s : Mach) : Nat :=
  let x := unit u s
  b2n (voltageWins u s) ||| b2n x.pending <<< 1 ||| b2n (decide (obj Obj.EST_QR_STEPS s ≤ x.run)) <<< 2
    ||| b2n (x.lastFull == some true) <<< 3 ||| b2n (x.lastFull == some false) <<< 4

/-- A figure over the monitors that report: the lowest CELL_MIN or the highest CELL_MAX, in µV. -/
def cellExtreme (high : Bool) (s : Mach) : Nat :=
  let l := (s.bnk.monitors.filter fun p => p.2.seen && !p.2.silent).map fun p =>
    if high then p.2.frame / 2 ^ 80 % 65536 * 100 else p.2.frame / 2 ^ 96 % 65536 * 100
  match l with
  | [] => 0
  | x :: r => r.foldl (fun a b => if high then max a b else min a b) x

/-- R365: the holder that this module reports. -/
def holderSeen (s : Mach) : Nat :=
  if s.role = .standby ∨ (s.role = .resync ∧ s.ptn.unheard < 3) then s.mg.remote else s.mg.holder

/-- R313: PTN_PATH_AGE_S. -/
def pathAge (s : Mach) : Nat := s.ptn.ageBase + (opSeconds s - s.ptn.drove)

/-- 0x1230 (Table 14.9). -/
def sparesLeft (j : Nat) (s : Mach) : Nat :=
  if j = 0 then countBelow 64 fun c => spareFree (coach c s)
  else if j = 1 then countBelow 100 fun p => decide ((phase p s).st = .spare)
  else if j = 2 then b2n (decide (s.life.lane9 = 0))
  else if j = 3 then popBelow s.life.pairsSpare 14
  else if j = 4 then (List.range 128).foldl (fun a p => a + repairsLeft p s) 0
  else if j = 5 then 2 - popBelow s.eng.pchUsed 2
  else if j = 6 then s.life.blocksA
  else s.life.blocksB

/-- R355: the commissioning key can still authenticate a manager. -/
def commissionOpen (s : Mach) : Bool :=
  decide (oGet Obj.MGMT_PSK_VALID 0 0 s = 0 ∨ oGet Obj.MGMT_PSK_VALID 1 0 s = 0)

/-- The bin whose headroom ARB_HEADROOM_W gives; while the arbiter is closed the object reads its default (DESIGN CHOICE,
log entry 128). -/
def headroomBin (s : Mach) : Nat := if s.trk.bin + 1 < s.trk.n then s.trk.bin + 1 else s.trk.bin

/-- A bank's figures of the last frame: 0x2310+x.0B to .0D. -/
def bankFigure (deep : Bool) (sub : Nat) (s : Mach) : Nat :=
  let b := bankReg deep s
  if sub = 0xB then ofSigned 32 b.p else if sub = 0xC then ofSigned 32 (b.u.headD 0) else b.lim

/-- Phases of a bank that are WORKING or DIODE. -/
def bankPhases (deep : Bool) (s : Mach) : Nat :=
  countBelow 100 fun p => (phase p s).deep == deep && decide ((phase p s).st = .working ∨ (phase p s).st = .diode)

/-- Objects 0x2000 to 0x2FFF that a unit of the loop holds. -/
def loopValue (idx sub : Nat) (s : Mach) : Option Nat :=
  let t := s.trk
  match idx with
  | 0x2000 => some (trkCode t.st)
  | 0x2003 => some t.step
  | 0x2004 => some t.bin
  | 0x2005 => some t.n
  | 0x2006 => some t.period
  | 0x2007 => some t.d
  | 0x2008 => some (ofSigned 32 t.err)
  | 0x2009 => some t.missed
  | 0x2013 => some (ofSigned 32 t.offset)
  | 0x2014 => some t.stepsLocked
  | 0x2020 => some (b2n s.tt.liveB)
  | 0x2021 => some (match s.tt.shadow with | .copying => 0 | .opened => 1 | .committed => 2)
  | 0x2022 => let p := shadowPage s; some (if sub = 1 then p.count else if sub = 2 then p.width else p.seq)
  | 0x2023 => let p := livePage s; some (if sub = 1 then p.count else if sub = 2 then p.width else p.seq)
  | 0x2028 => some (b2n (s.tt.synth || decide (s.tt.bad ≠ [])))
  | 0x2107 => some (floorSum s)
  | 0x2200 => some (b2n (loopOpen s))
  | 0x2201 => some (reserveQ s)
  | 0x2202 => some (if loopOpen s then ofSigned 32 (headroom (headroomBin s) s) else 0)
  | 0x2203 => some (committed t.bin s)
  | 0x2204 => some (if sub = 1 then supplyS (shareOf (row t.bin s) s) s else if sub = 2 then s.arb.sFast else s.arb.sDeep)
  | 0x2205 => some (ofSigned 32 s.arb.corr)
  | 0x2206 => some (ofSigned 32 (baseB t.bin s))
  | 0x2232 => some (sidingCount s)
  | 0x2300 => some (cnvCode s.cnv.st)
  | 0x2302 => if sub = 3 then some (s.cnv.refUv.toNat / 1000) else none
  | 0x2303 => if sub = 5 then some s.cnv.busMv.toNat else none
  | 0x2304 => if sub = 1 then some (ofSigned 32 s.cnv.ffGrant) else if sub = 2 then some (ofSigned 32 s.cnv.ffSched) else none
  | 0x2310 => if 0xB ≤ sub ∧ sub ≤ 0xD then some (bankFigure false sub s) else none
  | 0x2311 => if 0xB ≤ sub ∧ sub ≤ 0xD then some (bankFigure true sub s) else none
  | 0x2330 => if sub = 3 then some (maskOf 25 fun c => (card c s).fitted)
      else if sub = 4 then some (maskOf 25 fun c => (card c s).removed) else none
  | 0x2331 => let n := fun (x : PhState) => countBelow 100 fun p => decide ((phase p s).st = x)
      some (if sub = 1 then bankPhases false s else if sub = 2 then bankPhases true s else if sub = 3 then n .warmShed
        else if sub = 4 then n .coldShed else n .faulted)
  | 0x2400 => some (engState s)
  | 0x2421 => if sub = 3 then some (s.eng.coaches.foldl (fun a p => a + p.2.sramCe) 0) else none
  | 0x2430 => some (bgAge (sub - 1) s)
  | 0x2445 => some (if sub = 1 then Config.reserveModel.1.toNat else Config.reserveModel.2.toNat)
  | 0x2500 => some (bnkCode s.bnk.st)
  | 0x2506 =>
      if sub ≤ 4 then some (maskOf 20 fun m => let x := sget {} s.bnk.monitors (20 * (sub - 1) + m); x.seen && !x.silent)
      else if sub = 7 then some (cellExtreme false s) else if sub = 8 then some (cellExtreme true s) else none
  | 0x2516 => some (deepReport s).toNat
  | 0x2517 => if sub = 1 then some s.bnk.e.1 else if sub = 2 then some s.bnk.e.2 else none
  | 0x2521 => if sub = 1 then some s.bnk.reqBits else none
  | 0x2600 => some (feedCode s.grd.st)
  | 0x2611 => some (capForce s)
  | 0x2613 => some (gridDraw s)
  | 0x2622 => if sub = 1 then some (maskOf 24 fun r => fitted r s && (rect r s).healthy) else none
  | 0x2630 => if sub = 2 then some (endurance s) else none
  | 0x2644 => some (maskOf 64 fun t => decide ((feeder t s).st = .closed))
  | 0x2645 => some (maskOf 64 fun t => decide ((feeder t s).st = .tripped))
  | 0x2650 => some (if sub ≤ 3 then maskOf 64 fun t => decide (cstState (cst t s) = sub)
      else maskOf 64 fun t => (feeder t s).overrode && decide ((feeder t s).st = .closed))
  | 0x2700 => some (roleCode s.role)
  | 0x2701 => some (b2n s.slotB)
  | 0x2711 => some (pathAge s)
  | 0x2800 => some s.fc.status
  | 0x2801 => some (fltSummary s)
  | 0x2804 => some s.fc.lines
  | 0x2805 => some (maskOf 64 fun n => covered n s)
  | 0x2806 => some s.fc.quiet
  | 0x2840 => if sub = 4 then some (b2n s.fc.staticN) else if sub = 5 then some (b2n (!faultNLow s)) else none
  | 0x2850 => some (
      if sub = 1 then opSeconds s
      else if sub = 2 then s.gl.cycles
      else if sub = 3 then s.gl.nextNo - 1
      else if sub = 4 then (if s.gl.volUsed then s.gl.volat.length else max s.gl.prim.length s.gl.mirr.length)
      else if sub = 5 then b2n (!s.gl.primBad) ||| b2n (!s.gl.mirrBad) <<< 1 ||| b2n s.gl.volUsed <<< 2
      else if sub = 6 then s.gl.dropped
      else s.gl.queue.length)
  | _ =>
    if 0x2140 ≤ idx ∧ idx < 0x2180 then
      (if sub = 5 then some (tray (idx - 0x2140) s).authFail else if sub = 6 then some (tray (idx - 0x2140) s).noncomp else none)
    else if 0x2510 ≤ idx ∧ idx ≤ 0x2514 then
      let u := idx - 0x2510
      let x := unit u s
      if sub = 7 then some (milliAs (chargeInForce u s))
      else if sub = 8 then some (milliAs x.qc)
      else if sub = 9 then some (milliAs x.qv)
      else if sub = 0xA then some (sigmaInForce u s / 1000000)
      else if sub = 0xB then some (socReport u s).toNat
      else if sub = 0xC then some (ofSigned 8 (unitTemp u s))
      else if sub = 0xD then some (ofSigned 32 x.i)
      else if sub = 0xE then some (opSeconds s - x.restAt)
      else if sub = 0xF then some (estFlags u s)
      else none
    else none

/-- Objects 0x1000 to 0x12FF and 0x2F00 to 0x2FFF that a unit holds. -/
def hostValue (idx sub : Nat) (s : Mach) : Option Nat :=
  match idx with
  | 0x1005 => some Config.hwRevision.toNat
  | 0x1006 => some Config.dieId.toNat
  | 0x1010 => some (modeCode s.mode)
  | 0x1120 => some (holderSeen s)
  | 0x1121 => some (if s.mg.holder = 0 then 0 else (s.now - s.mg.heldAt) / 1000000)
  | 0x1138 => some (b2n (commissionOpen s))
  | 0x2F02 => some (stagedMask s)
  | 0x2F03 => some (pendMask s)
  | 0x2F04 => some (stagedCount s)
  | 0x1200 => if sub = 1 then some s.life.running else if sub = 2 then some (b2n s.life.trial) else none
  | 0x1205 => if sub = 1 then some s.life.svn else none
  | 0x1206 => some (maskOf 3 (fun k => (Config.keyHash k).isSome) ||| s.life.revoked % 8 <<< 3)
  | 0x121A => if sub = 1 then some (guestState s) else none
  | 0x1223 => if sub = 1 then some (leavesLeft s) else none
  | 0x1230 => some (sparesLeft (sub - 1) s)
  | 0x1238 => if sub = 1 then some s.life.pairsWork else none
  | _ =>
    if idx = 0x1100 ∨ idx = 0x1101 then
      (if sub = 1 then some (b2n (s.mg.linkUp.testBit (idx - 0x1100)))
       else if sub = 2 then some (Config.mac (idx - 0x1100)).toNat else none)
    else if 0x1110 ≤ idx ∧ idx ≤ 0x1117 then
      let x := session (idx - 0x1110) s
      some (if sub = 1 then x.st else if sub = 2 then x.mgr else if sub = 3 then x.port
        else if sub = 4 then (if x.st = 0 then 0 else (s.now - x.lastMsg) / 1000000) else x.count)
    else if (idx = 0x1201 ∨ idx = 0x1202 ∨ idx = 0x1203 ∨ idx = 0x1204) ∧ sub ≤ 4 then
      let k := (idx - 0x1201) % 2
      let x := if idx ≤ 0x1202 then imgSlot k s else cusSlot k s
      some (if sub = 1 then x.st else if sub = 2 then slotRelease x else if sub = 3 then slotBuild x else slotSvn x)
    else none

/-- The value in force of a scalar object. -/
def valueOf (idx sub : Nat) (s : Mach) : Nat :=
  match (if 0x2000 ≤ idx ∧ idx < 0x2F00 then loopValue idx sub s else hostValue idx sub s) with
  | some v => v
  | none => keyGet (idx * 256 + sub) s

/-- A number below 1,000 in decimal, without leading zeros. -/
def decimal (n : Nat) : List Byte :=
  let d := fun (k : Nat) => BitVec.ofNat 8 (0x30 + n / k % 10)
  if n < 10 then [d 1] else if n < 100 then [d 10, d 1] else [d 100, d 10, d 1]

/-- The identity strings; the package bears the name of the running release (R2). -/
def strOf (idx : Nat) (s : Mach) : List Byte :=
  if idx = 0x1000 then ascii "Luholt" else if idx = 0x1001 then ascii "VA-PZ96-LC"
  else if idx = 0x1002 then Config.serial.take 16
  else ascii "VA-PZ96-FW-" ++ decimal (obj Obj.ID_FW_MAJOR s) ++ ascii "." ++ decimal (obj Obj.ID_FW_MINOR s)

/-! ### Windows of records -/

/-- A requester record (Table 4.8). -/
def reqRecord (i : Nat) (s : Mach) : Nat :=
  let r := requester i s
  let x := r.slots.find? fun x => x.siding
  let st := match x with
    | some x => if x.st = SlotState.revoked then 2 else 1
    | none => 0
  let rev := match x with
    | some x => if x.st = SlotState.revoked then (x.used, x.usedJ) else (0, 0)
    | none => (0, 0)
  (r.cls % 8) <<< 253 ||| (r.burst % 2 ^ 18) <<< 235 ||| (floorOf i s % 65536) <<< 216 ||| (r.power % 65536) <<< 200
    ||| (r.grants % 2 ^ 32) <<< 168 ||| (r.parks % 2 ^ 32) <<< 136 ||| min r.longest 0xFFFFFF <<< 112
    ||| min r.revokes 0xFFFF <<< 96 ||| st <<< 94 ||| ((x.map fun x => x.seq).getD 0 % 65536) <<< 76
    ||| (rev.1 % 2 ^ 18) <<< 58 ||| (rev.2 % 2 ^ 32) <<< 26 ||| (r.slots.length % 8) <<< 23

/-- A phase record (Table 5.9). -/
def phaseRecord (p : Nat) (s : Mach) : Nat :=
  let x := phase p s
  phCode x.st <<< 125 ||| b2n x.deep <<< 124 ||| ofSigned 16 x.cur <<< 104 ||| (x.gain % 65536) <<< 88 ||| ofSigned 16 x.offs <<< 72
    ||| (x.credit / 8000000 % 65536) <<< 56 ||| ((card (p / 4) s).temp % 256) <<< 48 ||| (x.sheds % 65536) <<< 32
    ||| (x.faults % 65536) <<< 16

/-- A counter record (Table 12.8). -/
def ctrRecord (c : Nat) (s : Mach) : Nat :=
  (sget 0 s.ctr.val c % 2 ^ 48) <<< 80 ||| (sget 0 s.ctr.snap c % 2 ^ 48) <<< 32 ||| (sget 0 s.ctr.snapStep c % 65536) <<< 16
    ||| (oGet Obj.CTR_SOURCE 0 c s % 512) <<< 7 ||| b2n ((obj Obj.CTR_SNAP_ENABLE s).testBit c) <<< 6

/-- A slot of a Guard Log ring with a good CHECK. -/
def slotGood (w : Nat) : Bool := decide (w % 65536 = crc16 ((toBytes 32 w).take 30))

/-- R339: the primary copy, else the mirror, else zeros. -/
def glSlot (k : Nat) (s : Mach) : Nat :=
  let a := sget 0 s.gl.prim k
  let b := sget 0 s.gl.mirr k
  if a ≠ 0 ∧ slotGood a then a else if b ≠ 0 ∧ slotGood b then b else 0

/-- A row as TT_LIVE_WINDOW shows it: a row that an uncorrectable error has hit reads as the row synthesised in its place
(R41, R204), with its ROW_CHECK. -/
def liveRowShown (i : Nat) (s : Mach) : Nat :=
  let p := livePage s
  if i < p.count ∧ s.tt.bad.contains i then rowChecked (row i s) else pageRow p i

/-- The bytes of record `i` of a window of records. A coach's temperature has no source here: it is a free value. -/
def recordOf (idx i : Nat) (s : Mach) : List Byte :=
  if idx = 0x3010 then (toBytes 16 (pageRow (shadowPage s) i)).reverse
  else if idx = 0x3011 then (toBytes 16 (liveRowShown i s)).reverse
  else if idx = 0x3020 then toBytes 4 (sget sigUnknown s.sig.tab i)
  else if idx = 0x3030 then toBytes 32 (reqRecord i s)
  else if idx = 0x3040 then toBytes 16 (phaseRecord i s)
  else if idx = 0x3050 then toBytes 16 (coachRecord i (Config.free 8 (s.free + i)).toNat s)
  else if idx = 0x3071 then padTo 192 (lifeBytes i s)
  else if idx = 0x3080 then toBytes 32 (cst i s)
  else if idx = 0x3081 then toBytes 32 (feeder i s).identity
  else if idx = 0x3082 then toBytes 16 (rect i s).frame
  else if idx = 0x3090 then toBytes 32 (glSlot i s)
  else if idx = 0x3091 then toBytes 32 (sget 0 s.gl.volat i)
  else toBytes 16 (ctrRecord i s)

/-- The windows made of records. -/
def recordWindow (idx : Nat) : Bool := decide (1 < recSize idx)

/-- Bytes `[off, off + n)` of a window. -/
def windowBytes (idx sub off n : Nat) (s : Mach) : List Byte :=
  if recordWindow idx then
    let r := recSize idx
    let first := off / r
    let l := (List.range ((off % r + n + r - 1) / r)).flatMap fun k => recordOf idx (first + k) s
    (l.drop (off % r)).take n
  else if 0x2140 ≤ idx ∧ idx < 0x2180 ∧ sub = 4 then ((padTo 6 (tray (idx - 0x2140) s).addr).drop off).take n
  else if (idx = 0x1201 ∨ idx = 0x1202) ∧ sub = 5 then ((padTo 32 (slotDigest (imgSlot (idx - 0x1201) s))).drop off).take n
  else if (idx = 0x1203 ∨ idx = 0x1204) ∧ sub = 5 then ((padTo 32 (slotDigest (cusSlot (idx - 0x1203) s))).drop off).take n
  else if idx = 0x1225 then ((padTo 4096 certificate).drop off).take n
  else domBytes idx sub off n s

/-! ### Staged values (R369) -/

/-- The staged value of a scalar. -/
def stagedScalar (key : Nat) (s : Mach) : Option Nat :=
  s.mg.staged.findSome? fun p => match p.2 with
    | .scalar k v => if k = key then some v else none
    | _ => none

/-- A staged value laid over the bytes of a window from `off` on; the flag says that it met them. -/
def overlay (idx sub off : Nat) (v : ObjVal) (q : List Byte × Bool) : List Byte × Bool :=
  let put := fun (at_ : Nat) (l : List Byte) =>
    let hit := (List.range q.1.length).any fun i => decide (at_ ≤ off + i ∧ off + i < at_ + l.length)
    ((q.1.zip (List.range q.1.length)).map fun p =>
      if at_ ≤ off + p.2 ∧ off + p.2 < at_ + l.length then l.getD (off + p.2 - at_) p.1 else p.1, q.2 || hit)
  match v with
  | .bytes i j o l => if i = idx ∧ j = sub then put o l else q
  | .cst t e => if idx = 0x3080 then put (32 * t) (toBytes 32 e) else q
  | .req rid cls burst => if idx = 0x3030 then put (32 * rid) ((toBytes 4 (cls <<< 29 ||| burst % 2 ^ 18 <<< 11)).take 3) else q
  | _ => q

/-- A range of a window as staged, and whether any of it is staged. -/
def stagedWindow (idx sub off n : Nat) (s : Mach) : List Byte × Bool :=
  s.mg.staged.foldl (fun q p => overlay idx sub off p.2 q) (windowBytes idx sub off n s, false)

/-! ### A read -/

/-- The size of a window: TRAY_ADDR has 6 or 18 bytes, as the learned address has (R58). -/
def windowSize (d : ObjDef) (idx sub : Nat) (s : Mach) : Nat :=
  if 0x2140 ≤ idx ∧ idx < 0x2180 ∧ sub = 4 then (if (tray (idx - 0x2140) s).addr.length ≤ 6 then 6 else d.size) else d.size

/-- The key objects of a tray, which read as 0 (R75). -/
def trayKeyObject (idx sub : Nat) : Bool := decide (0x2140 ≤ idx ∧ idx < 0x2180 ∧ (sub = 1 ∨ sub = 2))

/-- The bytes of a window as read. -/
def readWindow (idx sub off n : Nat) (s : Mach) : List Byte :=
  if trayKeyObject idx sub then List.replicate n 0 else windowBytes idx sub off n s

/-- A read of `n` bytes from `off`: an error code, or the bytes and whether they are staged ones. A scalar's bytes are all
of its type. -/
def readObject (staged : Bool) (idx sub off n : Nat) (dom : Bool) (s : Mach) : Except Nat (List Byte × Bool) :=
  match lookup idx sub with
  | .error c => .error c
  | .ok (d, _, _) =>
    if d.acc = .wo ∧ trayKeyObject idx sub = false then .error 0x03
    else if s.mode = .safe ∧ servedInSafe idx = false then .error 0x09
    else match d.ty with
      | .domain =>
        let size := windowSize d idx sub s
        let n := if dom then n else min n size
        if 1024 < n then .error 0x06
        else if size < off + n ∨ off % recSize idx ≠ 0 then .error 0x05
        else if staged && !trayKeyObject idx sub then .ok (stagedWindow idx sub off n s)
        else .ok (readWindow idx sub off n s, false)
      | .str => if dom then .error 0x03 else .ok (strOf idx s, false)
      | _ =>
        if dom then .error 0x03
        else match (if staged then stagedScalar (idx * 256 + sub) s else none) with
          | some v => .ok (toBytes d.size v, true)
          | none => .ok (toBytes d.size (valueOf idx sub s), false)

/-! ### DESCRIBE (Table 13.4) -/

/-- Table 13.1: type codes. -/
def typeCode : ObjTy → Nat
  | .bool => 1 | .u8 => 2 | .u16 => 3 | .u32 => 4 | .u64 => 5 | .i8 => 6 | .i16 => 7 | .i32 => 8 | .i64 => 9
  | .q _ _ => 0xC | .str => 0xD | .domain => 0xE

/-- Table 13.4: access codes. -/
def accessCode : Access → Nat
  | .ro => 0 | .rw => 1 | .wo => 2 | .rws => 3

/-- The descriptor of an object. -/
def descriptor (d : ObjDef) : Nat :=
  let q := match d.ty with
    | .q m n => (m, n)
    | _ => (0, 0)
  let tok := decide (d.acc ≠ .ro) && decide (d.index ≠ 0x1120)
  typeCode d.ty <<< 56 ||| accessCode d.acc <<< 54 ||| b2n d.persist <<< 53 ||| b2n tok <<< 52
    ||| (match d.group with | some g => g + 1 | none => 0) <<< 48 ||| q.1 <<< 40 ||| q.2 <<< 32 ||| d.size % 2 ^ 32

end Sys2Proof.Machine
end

