-- ==== Sys2Proof/Machine/Mgmt.lean ====
section
/-! DEFINITION. Management (chapter 13): requests of the Varair Object Protocol in the order of their sessions (R358 to
R362), the single-line token (R364 to R367), staging and COMMIT (R368 to R374), defaults (R351), notifications (R363) and
sessions (R352 to R357). -/

namespace Sys2Proof.Machine

/-! ### The single-line token -/

/-- A session of the holder's manager, by port. -/
def holderPorts (s : Mach) : List Nat :=
  (s.mg.sessions.filter fun p => decide (p.2.st = 2 ∧ p.2.mgr = s.mg.holder)).map fun p => p.2.port

/-- R366: when the link condition ends the token: 50 ms after the last port that carries a session of the holder lost its
link. -/
def linkLapseAt (s : Mach) : Option Nat :=
  let l := holderPorts s
  if l = [] ∨ l.any (fun p => decide (2 ≤ p) || s.mg.linkUp.testBit p) then none
  else some (l.foldl (fun a p => max a (sget 0 s.mg.linkAt p)) 0 + 50000000)

/-- R366: the cause of a lapse that is due, the earlier event first. -/
def lapseDue (s : Mach) : Option Nat :=
  let keep := s.mg.heardAt + 200000000
  match linkLapseAt s with
  | some t => if t ≤ s.now ∧ t ≤ keep then some 1 else if keep ≤ s.now then some 2 else none
  | none => if keep ≤ s.now then some 2 else none

/-- TOKEN_LAPSE (R366). -/
def cmdTokenLapse (s : Mach) : Mach :=
  if s.mg.holder = 0 then s
  else match lapseDue s with
    | some c => tokenLapse c s
    | none => s

/-- R364: a write of `v` to TOKEN_HOLDER by a session of manager `m`, with its code. -/
def tokenWrite (k m v : Nat) (s : Mach) : Nat × Mach :=
  if v = 0 then
    if s.mg.holder ≠ m then (0x03, s)
    else
      let n := stagedCount s
      let s := tellHolder (touch 0 { s with mg := { s.mg with holder := 0, staged := [] } })
      (0, log 0x0701 (0xC000 + m - 1) n s)
  else if v ≠ m then (0x03, s)
  else if s.mg.holder = m then (0, s)
  else if s.mg.holder ≠ 0 then (0x0B, s)
  else
    let s := tellHolder (touch 0 { s with mg := { s.mg with holder := m, heldAt := s.now, heardAt := s.now } })
    (0, log 0x0700 (0xC000 + m - 1) k s)

/-! ### Writes -/

/-- R373: a commit of the object's group is pending. -/
def groupPending (d : ObjDef) (s : Mach) : Bool :=
  match d.group with
  | some g => (pendMask s).testBit g
  | none => false

/-- R369: a place of its own in the staging that a write would take. -/
def takesPlace (d : ObjDef) (idx sub : Nat) (s : Mach) : Bool :=
  !(s.mg.staged.any fun p => match p.2 with
    | .scalar key _ => decide (d.ty ≠ .domain) && decide (key = idx * 256 + sub)
    | v => decide (d.ty = .domain) && decide (valObj v = (idx, sub)))

/-- Table 13.5, order 9: the shadow page is copied or validated, or the staging is full. -/
def writeBusy (d : ObjDef) (idx sub : Nat) (s : Mach) : Bool :=
  (decide (idx = 0x3010 ∨ (idx = 0x2022 ∧ sub ≤ 2)) && (decide (s.tt.shadow = .copying) || s.tt.valid.isSome))
    || (decide (d.acc = .rws) && takesPlace d idx sub s && decide (4096 ≤ stagedCount s))

/-- The staged values of a write to an RWS object. -/
def stagedVals (d : ObjDef) (idx sub off : Nat) (data : List Byte) : List ObjVal :=
  if idx = 0x3030 then (entriesOf off data).map fun q => .req q.1 (q.2 / 2 ^ 253) (q.2 / 2 ^ 235 % 2 ^ 18)
  else if idx = 0x3080 then (entriesOf off data).map fun q => .cst q.1 q.2
  else match d.ty with
    | .domain => [.bytes idx sub off data]
    | _ => [.scalar (idx * 256 + sub) (beNat data)]

/-- Rows of the shadow page that a write touches, with the bytes laid over them; byte 0 of a row is bits [7:0]. SYNTH, bit 2
of byte 6, is read-only (R8). -/
def shadowWrite (off : Nat) (data : List Byte) (s : Mach) : Mach :=
  let p := shadowPage s
  let rows := (data.zip (List.range data.length)).foldl (fun rows q =>
    let at_ := off + q.2
    let r := sget rowReset rows (at_ / 16)
    let k := 8 * (at_ % 16)
    let old := r / 2 ^ k % 256
    let b := if at_ % 16 = 6 then without q.1.toNat 4 ||| old &&& 4 else q.1.toNat
    sput rowReset rows (at_ / 16) (r - old * 2 ^ k + b * 2 ^ k)) p.rows
  writeShadow { p with rows := rows } s

/-- An accepted write to an RW object (R375, R376): TT_SHADOW_WINDOW and other windows at acceptance, FLT_STATUS with its
own answer (R324), the rest at the next epoch. -/
def writeRw (d : ObjDef) (idx sub off : Nat) (data : List Byte) (mgr : Nat) (s : Mach) : Nat × Mach :=
  if idx = 0x3010 then (0, shadowWrite off data s)
  else match d.ty with
    | .domain =>
      (0, acceptVals 64 mgr [(6, .bytes idx sub off data)] (domPut idx sub off data s))
    | _ =>
      let v := beNat data
      if idx = 0x2800 then
        (if v &&& s.fc.lines = 0 then 0 else 0x0B,
          acceptVals 64 mgr [(6, .scalar (idx * 256 + sub) (without v s.fc.lines))] s)
      else (0, acceptVals 64 mgr [(6, .scalar (idx * 256 + sub) v)] s)

/-! ### COMMIT (R370) -/

/-- STG_RESULT. -/
def commitResult (code idx sub mask : Nat) (s : Mach) : Mach :=
  setObj Obj.STG_RESULT_CODE code (setObj Obj.STG_RESULT_INDEX idx (setObj Obj.STG_RESULT_SUB sub
    (setObj Obj.STG_RESULT_GROUPS mask s)))

/-- A COMMIT refused: every value stays staged; record COMMIT_REFUSED. -/
def commitRefused (f : Fail) (mask mgr : Nat) (s : Mach) : Mach :=
  log 0x0703 (0xC000 + mgr - 1) (f.1 * 2 ^ 24 + mask * 2 ^ 16 + f.2.1)
    (incObj Obj.STG_REFUSALS (commitResult f.1 f.2.1 f.2.2 mask s))

/-- The staged header of a page. -/
def headerVal : ObjVal → Bool
  | .scalar key _ => headerKey key
  | _ => false

/-- A COMMIT accepted: its values leave the staging; a group without any has no effect. A COMMIT of consist entries ends
COMMISSION (R282). -/
def commitAccepted (page : Bool) (mask mgr : Nat) (s : Mach) : Mach :=
  let mine := s.mg.staged.filter fun p => mask.testBit p.1
  let vals := if page then mine.filter (fun p => !headerVal p.2) ++ [(3, pageVal)] else mine
  let s := discardGroups mask s
  let s := if vals = [] then s else acceptVals (vals.foldl (fun a p => setBit a p.1) 0) mgr vals s
  let s := log 0x0702 (0xC000 + mgr - 1) mask (incObj Obj.STG_COMMITS (commitResult 0 0 0 mask s))
  if s.mode = .commission ∧ mine.any (fun p => isCst p.2) then setMode .stop s else s

/-- The shadow page with its staged header. -/
def withHeader (s : Mach) : Mach := each (s.mg.staged.filter fun p => headerVal p.2) (fun p s => applyVal p.2 s) s

/-- A COMMIT whose page has been validated: its code. -/
def commitPage (mask mgr : Nat) (s : Mach) : Nat × Mach :=
  let s : Mach := { s with tt := { s.tt with valid := none } }
  match commitFail mask s.mg.staged s with
  | some f => (f.1, commitRefused f mask mgr s)
  | none =>
    let t := withHeader s
    match validatePage t with
    | some (c, r) => (c, commitRefused (c, 0x3010, 0) mask mgr (refusePage c r s))
    | none =>
      let t := pageAccepted t
      (0, commitAccepted true mask mgr { t with eng := { t.eng with own := false } })

/-- A COMMIT begun: its code, or none while its page is validated. -/
def commitStart (k mgr reqId mask : Nat) (s : Mach) : Option Nat × Mach :=
  if pageNamed mask s ∧ s.tt.valid.isSome then (some 0x0B, s)
  else match commitFail mask s.mg.staged s with
    | some f => (some f.1, commitRefused f mask mgr s)
    | none =>
      if pageNamed mask s then
        (none, { s with tt := { s.tt with valid := some mgr }, mg := { s.mg with waiting := some (k, reqId, mask) } })
      else (some 0, commitAccepted false mask mgr s)

/-! ### Defaults (R351) -/

/-- Objects that a restore leaves alone: the keys with their valid bits, and MGMT_LOOPBACK_AS. -/
def restoreKeeps (idx sub : Nat) : Bool :=
  decide (idx = 0x1105) || (decide (0x2140 ≤ idx ∧ idx < 0x2180) && decide (sub ≤ 3))
    || (decide (idx = 0x1130 ∨ idx = 0x1131) && decide (sub ≤ 3))

/-- A persistent object that a restore returns to its default. -/
def restorable (idx sub : Nat) : Bool :=
  !restoreKeeps idx sub && match lookup idx sub with
    | .ok (d, _, _) => d.persist
    | .error _ => false

/-- A persistent scalar at its default, with what follows. -/
def restoreScalar (key : Nat) (s : Mach) : Mach :=
  match lookup (keyIdx key) (keySub key) with
  | .ok (d, i, j) => afterScalar key (keyGet key s) (oSet d i j (d.default i j) s)
  | .error _ => s

/-- A byte of a persistent object at its default; a static address that goes closes its sessions. -/
def restoreByte (key : Nat) (s : Mach) : Mach :=
  let idx := key / 2 ^ 40
  let sub := key / 2 ^ 32 % 256
  let off := key % 2 ^ 32
  applyVal (.bytes idx sub off [domDefault idx sub off]) s

/-- Every persistent object but the keys returns to its default, at once and in MRAM; record DEFAULTS_RESTORED. -/
def restoreDefaults (mgr : Nat) (s : Mach) : Mach :=
  let stored := (s.mg.nvA ++ s.mg.nvB ++ s.mg.nvQueue.flatMap fun t => t.vals).filter fun v =>
    let o := valObj v
    decide (o.1 = 0x3030 ∨ o.1 = 0x3080) || restorable o.1 o.2
  let back := fun (s : Mach) =>
    let s := each ((s.od.map fun p => p.1).filter fun k => restorable (keyIdx k) (keySub k)) restoreScalar s
    let s := each ((s.mg.dom.map fun p => p.1).filter fun k => restorable (k / 2 ^ 40) (k / 2 ^ 32 % 256)) restoreByte s
    let s := each (s.arb.reqs.map fun p => p.1) (fun i s => setRequester i { requester i s with cls := 4, burst := 0 } s) s
    let s := each (s.fdr.cst.map fun p => p.1) (fun t s => applyCst t cstDefault s) s
    { s with ptn := { s.ptn with ageBase := 0, drove := opSeconds s } }
  let s := keepReports back s
  let s := if stored = [] then s else { s with mg := { s.mg with nvQueue := s.mg.nvQueue ++ [⟨stored, mgr, s.now, true⟩] } }
  log 0x0707 (0xC000 + mgr - 1) 0 s

/-! ### One request (R358 to R362) -/

/-- What a request answers: STATUS, STAGED and data. -/
structure VopAnswer where
  code   : Nat
  staged : Bool
  data   : List Byte
  deriving DecidableEq, Repr

/-- An answer without data. -/
def bare (code : Nat) : VopAnswer := ⟨code, false, []⟩

/-- A write of manager `x.mgr` (Table 13.5), its answer, or none while a page is validated. -/
def doWrite (k reqId : Nat) (env : Bool × Bool) (dom : Bool) (idx sub off : Nat) (data : List Byte) (s : Mach) :
    Option VopAnswer × Mach :=
  let m := (session k s).mgr
  let tokenOk := decide (idx = 0x1120) || decide (holderSeen s = m)
  let scalar := match lookup idx sub with
    | .ok (d, _, _) => decide (d.ty ≠ .domain)
    | .error _ => false
  match (if dom && scalar then .error 0x03 else writeChecks tokenOk idx sub off data s) with
  | .error c => (some (bare c), s)
  | .ok (d, _, _) =>
    if idx = 0x1120 then
      let q := tokenWrite k m (beNat data) s
      (some (bare q.1), q.2)
    else if groupPending d s ∨ (idx = 0x2F10 ∧ pendMask s ≠ 0) then (some (bare 0x07), s)
    else if writeBusy d idx sub s then (some (bare 0x0B), s)
    else match d.acc with
      | .rws =>
        let g := d.group.getD 0
        let l := (stagedVals d idx sub off data).foldl (fun l v => stageVal g v l) s.mg.staged
        (some ⟨0, true, []⟩, { s with mg := { s.mg with staged := l } })
      | .rw =>
        let q := writeRw d idx sub off data m s
        (some (bare q.1), q.2)
      | _ =>
        let v := beNat data
        if idx = 0x2F00 then
          let q := commitStart k m reqId v s
          (q.1.map bare, q.2)
        else if idx = 0x2F01 then (some (bare 0), discardGroups v s)
        else if idx = 0x2F10 then (some (bare 0), onOne v (restoreDefaults m) s)
        else
          let q := performWrite idx sub off data m env s
          (some (bare q.1), q.2)

/-- R359: what an operation does and answers; none while a COMMIT waits for its page. A read of the coach records uses up
free values. -/
def doOp (k reqId : Nat) (op : VopOp) (s : Mach) : Option VopAnswer × Mach :=
  let x := session k s
  let answer := fun (r : Except Nat (List Byte × Bool)) => match r with
    | .ok (l, st) => (⟨0, st, l⟩ : VopAnswer)
    | .error c => bare c
  let read := fun (staged : Bool) (idx sub off n : Nat) (dom : Bool) =>
    (some (answer (readObject staged idx sub off n dom s)), if idx = 0x3050 then { s with free := s.free + 64 } else s)
  match op with
  | .open_ => (some ⟨0, false, toBytes 1 k ++ toBytes 1 x.mgr ++ toBytes 1 x.port ++ toBytes 1 (holderSeen s)
      ++ toBytes 4 x.nextReq⟩, s)
  | .read st idx sub n => read st idx sub 0 n false
  | .readDomain st idx sub off n => read st idx sub off n true
  | .write env idx sub data => doWrite k reqId env false idx sub 0 data s
  | .writeDomain idx sub off data => doWrite k reqId (true, true) true idx sub off data s
  | .keepalive => (some (bare 0), s)
  | .close => (some (bare 0), s)
  | .describe idx sub => match lookup idx sub with
    | .ok (d, _, _) => (some ⟨0, false, toBytes 8 (descriptor d)⟩, s)
    | .error c => (some (bare c), s)
  | .unknown _ => (some (bare 0x05), s)

/-- Table 13.2, Table 13.3: the header of a message. -/
def vopHeader (op : Nat) (resp staged : Bool) (status reqId idx sub len off : Nat) : List Byte :=
  toBytes 24 (1 <<< 188 ||| op <<< 184 ||| b2n resp <<< 183 ||| b2n staged <<< 182 ||| status <<< 168
    ||| reqId <<< 136 ||| idx <<< 120 ||| sub <<< 112 ||| len <<< 96 ||| off <<< 32)

/-- The OP code, index, subindex and offset of an operation. -/
def opFields : VopOp → Nat × Nat × Nat × Nat
  | .open_ => (1, 0, 0, 0)
  | .read _ idx sub _ => (2, idx, sub, 0)
  | .write _ idx sub _ => (3, idx, sub, 0)
  | .readDomain _ idx sub off _ => (4, idx, sub, off)
  | .writeDomain idx sub off _ => (5, idx, sub, off)
  | .keepalive => (6, 0, 0, 0)
  | .close => (7, 0, 0, 0)
  | .describe idx sub => (9, idx, sub, 0)
  | .unknown op => (op, 0, 0, 0)

/-- The response to a request. -/
def response (reqId : Nat) (op : VopOp) (a : VopAnswer) : List Byte :=
  let f := opFields op
  vopHeader f.1 true a.staged a.code reqId f.2.1 f.2.2.1 a.data.length f.2.2.2 ++ a.data

/-- R354: sessions whose key slot an accepted COMMIT clears close after the response. -/
def closeCleared (s : Mach) : Mach :=
  let clears := fun (x : Session) => s.mg.pend.any fun p => p.vals.any fun q => match q.2 with
    | .scalar key v => decide (key = Obj.MGMT_PSK_VALID.key (x.mgr - 1) 0) && decide (x.keySlot < 2)
        && (oGet Obj.MGMT_PSK_VALID (x.mgr - 1) 0 s).testBit x.keySlot && !v.testBit x.keySlot
    | _ => false
  closeSessions (fun x => decide (x.st = 2 ∧ x.port < 2) && clears x) 5 s

/-- The answer of an executed request is sent and kept; the next REQ_ID is expected. CLOSE closes the session. -/
def finish (k reqId : Nat) (op : VopOp) (a : VopAnswer) (s : Mach) : Mach :=
  let b := response reqId op a
  let s := send (.vop k b) s
  let x := session k s
  let s := if x.st ≠ 2 then s
    else if op = .open_ then setSession k { x with count := (x.count + 1) % 2 ^ 64 } s
    else setSession k { x with
      count := (x.count + 1) % 2 ^ 64
      nextReq := (reqId + 1) % 2 ^ 32
      cache := ((reqId, b) :: x.cache).take 64 } s
  let s := closeCleared s
  if op = .close then closeSession k 1 s else s

/-- A request whose turn has come. -/
def runReq (k reqId : Nat) (op : VopOp) (s : Mach) : Mach :=
  match doOp k reqId op s with
  | (some a, s) => finish k reqId op a s
  | (none, s) => s

/-- A COMMIT of session `k` waits for its page. -/
def sessionWaits (k : Nat) (s : Mach) : Bool :=
  match s.mg.waiting with
  | some w => decide (w.1 = k)
  | none => false

/-- Held requests whose predecessors have been executed run in order. -/
def runHeld (k : Nat) : Nat → Mach → Mach
  | 0, s => s
  | n + 1, s =>
    let x := session k s
    if x.st ≠ 2 ∨ sessionWaits k s then s
    else match x.held.find? fun h => decide (h.1 = x.nextReq) with
      | none => s
      | some h =>
        runHeld k n (runReq k h.1 h.2.2 (setSession k { x with held := x.held.filter fun q => decide (q.1 ≠ h.1) } s))

/-- R366: a message of a session is heard; a lapse that is due is taken first (R379). -/
def heard (k : Nat) (s : Mach) : Mach :=
  let s := cmdTokenLapse s
  let x := session k s
  let s := setSession k { x with lastMsg := s.now } s
  if s.mg.holder = x.mgr ∧ x.mgr ≠ 0 then { s with mg := { s.mg with heardAt := s.now } } else s

/-- The code of a reserved OP. -/
def reservedCode : ReservedOp → Nat
  | .op0 => 0
  | .op8 => 8
  | .opA => 10
  | .opB => 11
  | .opC => 12
  | .opD => 13
  | .opE => 14
  | .opF => 15

/-- R359: the operation that the module takes from a request; it knows none of another VERSION. -/
def opTaken (r : Req) (op : VopOp) : VopOp :=
  match r.badOp with
  | some o => .unknown (reservedCode o)
  | none => if r.version = 1 then op else .unknown (opFields op).1

/-- A request arrives (R360). Without an open session nothing is authenticated, and it is discarded. A request sent again
while it is held waits on from its first arrival. -/
def request (r : Req) (asked : VopOp) (s : Mach) : Mach :=
  let op := opTaken r asked
  let k := r.session.val
  if (session k s).st ≠ 2 then s
  else
    let s := heard k s
    let x := session k s
    let id := r.reqId.toNat
    let ahead := (id + 2 ^ 32 - x.nextReq) % 2 ^ 32
    if op = .open_ then runReq k id op s
    else if ahead = 0 ∧ !sessionWaits k s then
      let t := runReq k id op s
      if x.held = [] then t else runHeld k 65 t
    else if ahead = 0 then s
    else if ahead ≤ 64 then
      if x.held.any fun h => decide (h.1 = id) then s else setSession k { x with held := x.held ++ [(id, s.now, op)] } s
    else match x.cache.find? fun c => decide (c.1 = id) with
      | some c => send (.vop k c.2) s
      | none => s

/-- PAGE_VALIDATION_COMPLETE (R46): the engine's page, or the page of a COMMIT, whose response is then sent (R361). A
COMMIT whose token has gone in the meantime is refused. -/
def cmdPageValidationComplete (s : Mach) : Mach :=
  match s.tt.valid, s.mg.waiting with
  | some (m + 1), some (k, reqId, mask) =>
    let s := cmdTokenLapse { s with mg := { s.mg with waiting := none } }
    let q := if s.mg.holder = m + 1 then commitPage mask (m + 1) s
      else ((0x04 : Nat), { s with tt := { s.tt with valid := none } })
    let s := q.2
    if (session k s).st = 2 ∧ (session k s).mgr = m + 1 then
      runHeld k 65 (finish k reqId (.write (true, true) 0x2F00 0 [BitVec.ofNat 8 mask]) (bare q.1) s)
    else s
  | some 0, _ => enginePage s
  | _, _ => s

/-! ### NOTIFY (R363) -/

/-- The objects of R363: index and size of the value. -/
def notified : Nat → Nat × Nat
  | 0 => (0x1120, 1)
  | 1 => (0x1010, 1)
  | 2 => (0x2700, 1)
  | 3 => (0x2800, 8)
  | _ => (0x2F03, 1)

/-- NOTIFY_SEND: a change not yet told to session `k`, at most once in 10 ms. -/
def cmdNotifySend (k obj : Nat) (s : Mach) : Mach :=
  let x := session k s
  let due := match x.sentAt.find? fun p => decide (p.1 = obj) with
    | some p => decide (p.2 + 10000000 ≤ s.now)
    | none => true
  if x.st ≠ 2 ∨ !x.dirty.testBit obj ∨ !due then s
  else
    let w := notified obj
    let n := (s.mg.ntfNo + 1) % 2 ^ 32
    let s := setSession k { x with
      dirty := clrBit x.dirty obj
      sentAt := sins x.sentAt obj s.now } { s with mg := { s.mg with ntfNo := n } }
    send (.vop k (vopHeader 8 false false 0 n w.1 0 w.2 0 ++ toBytes w.2 (valueOf w.1 0 s))) s

/-! ### Sessions and ports (R352 to R357) -/

/-- The sessions of manager `m`. -/
def sessionsOf (m : Nat) (s : Mach) : Nat := (s.mg.sessions.filter fun p => decide (p.2.st ≠ 0 ∧ p.2.mgr = m)).length

/-- The link-local address of port `p`, from its MAC as EUI-64 (R352). -/
def linkLocal (p : Nat) : List Byte :=
  let m := toBytes 6 (Config.mac p).toNat
  [0xFE, 0x80, 0, 0, 0, 0, 0, 0] ++ [m.getD 0 0 ^^^ 0x02] ++ (m.drop 1).take 2 ++ [0xFF, 0xFE] ++ m.drop 3

/-- R352: the port answers on the address. -/
def answersOn (p : Nat) (a : List Byte) (s : Mach) : Bool :=
  let own := domBytes (0x1100 + p) 3 0 16 s
  decide (a = linkLocal p) || (nonZero own && decide (a = own))

/-- R354, R355: the manager (1 or 2) and key slot (2 for the commissioning key) that an identity names. -/
def identityOf (l : List Byte) : Option (Nat × Nat) :=
  if l = ascii "M0-0" then some (1, 0) else if l = ascii "M0-1" then some (1, 1) else if l = ascii "M0-C" then some (1, 2)
  else if l = ascii "M1-0" then some (2, 0) else if l = ascii "M1-1" then some (2, 1) else if l = ascii "M1-C" then some (2, 2)
  else none

/-- R355, R389: the state admits the commissioning key: COMMISSION, or SAFE where the persisted keys are unreadable. -/
def commissions (s : Mach) : Bool := decide (s.mode = .commission) || (decide (s.mode = .safe) && s.life.keysLost)

/-- R354, R355: the key proves the identity. -/
def keyProves (m slot : Nat) (key : List Byte) (s : Mach) : Bool :=
  let valid := oGet Obj.MGMT_PSK_VALID (m - 1) 0 s
  if slot < 2 then valid.testBit slot && decide (key = domBytes (0x1130 + (m - 1)) (slot + 1) 0 32 s)
  else decide (valid = 0) && commissions s && decide (key = Config.commissionKey)

/-- A handshake refused with an alert. -/
def handshakeAlert (port : Nat) (s : Mach) : Mach := send (.dtls port false) s

/-- A handshake that fails authentication (R354): counted where the identity names a manager, and recorded. -/
def authFailed (port : Nat) (who : Option Nat) (s : Mach) : Mach :=
  let s := handshakeAlert port s
  match who with
  | some m => log 0x0706 (0xC000 + m - 1) port (oAdd Obj.MGMT_AUTH_FAIL (m - 1) 0 1 s)
  | none => log 0x0706 0xC0FF port s

/-- The handshake in progress from the same address on the same port. -/
def handshakeOf (port : Nat) (addr : List Byte) (s : Mach) : Option Nat :=
  (List.range 8).find? fun k => let x := session k s; decide (x.st = 1 ∧ x.port = port ∧ x.addr = addr)

/-- The lowest free session record. -/
def freeSession (s : Mach) : Option Nat := (List.range 8).find? fun k => decide ((session k s).st = 0)

/-- Session record `k` opens (R357, R378). -/
def openSession (k mgr port slot : Nat) (addr : List Byte) (s : Mach) : Mach :=
  let x : Session := {
    st := 2
    mgr := mgr
    port := port
    addr := addr
    local_ := addr.drop 16
    keySlot := slot
    lastMsg := s.now
    openedAt := s.now }
  log 0x0704 (0xC000 + mgr - 1) (k + port * 256) (send (.dtls port true) (setSession k x s))

/-- A record in its handshake. -/
def beginHandshake (k mgr port slot : Nat) (addr : List Byte) (s : Mach) : Mach :=
  let x : Session := {
    st := 1
    mgr := mgr
    port := port
    addr := addr
    local_ := addr.drop 16
    keySlot := slot
    lastMsg := s.now
    openedAt := s.now }
  setSession k x s

/-- The identity checked and the limits of R357 applied: a new record, or the one whose handshake this completes. -/
def handshakeFor (m slot port : Nat) (proved : Option Bool) (addr : List Byte) (s : Mach) : Mach :=
  let old := handshakeOf port addr s
  let s := match old with
    | some k => setSession k {} s
    | none => s
  match (match old with | some k => some k | none => freeSession s) with
  | none => handshakeAlert port s
  | some k =>
    if 4 ≤ sessionsOf m s then handshakeAlert port s
    else match proved with
      | none => send (.helloRetry port) (beginHandshake k m port slot addr s)
      | some true => openSession k m port slot addr s
      | some false => authFailed port (some m) s

/-- R353: the ClientHello offers what the profile needs: psk_dhe_ke, x25519 or secp256r1, and one of the two suites, by
their codes in RFC 8446. -/
def helloFits (groups suites : List (BitVec 16)) (pskDhe : Bool) : Bool :=
  pskDhe && groups.any (fun g => decide (g = 0x001D ∨ g = 0x0017)) && suites.any fun c => decide (c = 0x1301 ∨ c = 0x1302)

/-- A handshake message that names manager `m`: a new ClientHello is answered with a HelloRetryRequest; one that returns
its cookie goes on with the handshake that the first began (R353). -/
def handshakeMsg (m slot port : Nat) (msg : DtlsMsg) (addr : List Byte) (s : Mach) : Mach :=
  match msg with
  | .finished key => handshakeFor m slot port (some (keyProves m slot key s)) addr s
  | .hello groups suites pskDhe cookie =>
    if !helloFits groups suites pskDhe then handshakeAlert port s
    else if cookie && (handshakeOf port addr s).isSome then s
    else handshakeFor m slot port none addr s

/-- DTLS_HANDSHAKE (R353): `addr` is the peer's address, then the module's address that it sent to. An end of a handshake
without its beginning stands for the whole of it. On loopback the monitor vouches for the manager that MGMT_LOOPBACK_AS
names. -/
def cmdDtlsHandshake (port : Nat) (identity : List Byte) (msg : DtlsMsg) (addr : List Byte) (s : Mach) : Mach :=
  if s.mode = .boot then s
  else if port = 2 then
    if s.life.guest = 0 then s
    else
      let s := guestReached s
      let m := obj Obj.MGMT_LOOPBACK_AS s
      if m = 0 then authFailed 2 none s else handshakeFor m 3 2 (some true) addr s
  else if !s.mg.linkUp.testBit port || !answersOn port (addr.drop 16) s then s
  else match identityOf identity with
    | none => authFailed port none s
    | some (m, slot) => handshakeMsg m slot port msg addr s

/-- HANDSHAKE_TIMEOUT (R353). -/
def cmdHandshakeTimeout (k : Nat) (s : Mach) : Mach :=
  let x := session k s
  if x.st = 1 ∧ x.openedAt + 1000000000 ≤ s.now then setSession k {} s else s

/-- REQ_ID_HOLD_TIMEOUT (R360). -/
def cmdReqIdHoldTimeout (k : Nat) (s : Mach) : Mach :=
  let x := session k s
  if x.st = 2 ∧ !sessionWaits k s ∧ x.held.any fun h => decide (h.2.1 + 50000000 ≤ s.now) then closeSession k 7 s else s

/-- SESSION_TIMEOUT (R357). -/
def cmdSessionTimeout (k : Nat) (s : Mach) : Mach :=
  let x := session k s
  if x.st = 2 ∧ x.lastMsg + obj Obj.MGMT_SESSION_TIMEOUT_S s * 1000000000 ≤ s.now then closeSession k 2 s else s

/-- R428: TX_DISABLE of a cage is high while its port is not enabled. -/
def txDisable (port : Nat) (s : Mach) : Bool := decide (oGet Obj.MGMT_ENABLE port 0 s = 0)

/-- R432: the link indicator of a cage. -/
def lampLink (port : Nat) (s : Mach) : Lamp := if s.mg.linkUp.testBit port then .steady 0 else .off

/-- MGMT_LINK_CHANGE (R352, R428); a port that is not enabled, or whose cage is empty, reaches no link. -/
def cmdMgmtLinkChange (port : Nat) (up : Bool) (s : Mach) : Mach :=
  if up then
    if oGet Obj.MGMT_ENABLE port 0 s = 0 then s
    else { s with mg := { s.mg with linkUp := setBit s.mg.linkUp port } }
  else if s.mg.linkUp.testBit port then
    { s with mg := { s.mg with
        linkUp := clrBit s.mg.linkUp port
        linkAt := sput 0 s.mg.linkAt port s.now } }
  else s

/-- SESSION_LINK_DOWN (R357): every session of a port without link for 1 s closes. -/
def cmdSessionLinkDown (port : Nat) (s : Mach) : Mach :=
  if !s.mg.linkUp.testBit port ∧ sget 0 s.mg.linkAt port + 1000000000 ≤ s.now then
    closeSessions (fun x => decide (x.st ≠ 0 ∧ x.port = port)) 3 s
  else s

end Sys2Proof.Machine
end

