-- ==== Sys2Proof/Machine/Act.lean ====
section
/-! DEFINITION. How a command reaches the module: nothing reaches a module that is held in its power-on reset or has
stopped (R411, R412), and a write command is a VOP WRITE of one value. -/

namespace Sys2Proof.Machine

/-- The module is held in its power-on reset, or has stopped for want of power. -/
def powerless (s : Mach) : Bool := s.life.held || s.life.stopped

/-- A command's effect on the module. -/
def drive (f : Mach → Mach) (s : State) : Out := .next { s with m := if powerless s.m then s.m else f s.m }

/-- An event of the power supply, which meets the module in any condition. -/
def driveAlways (f : Mach → Mach) (s : State) : Out := .next { s with m := f s.m }

/-- A WRITE request of an `n`-byte value (R349). -/
def writeReq (r : Req) (idx sub n v : Nat) : Mach → Mach := request r (.write (true, true) idx sub (toBytes n v))

/-- A nanosecond passes and no command is there; what falls due at an instant is a command of its own. -/
def tick (s : State) : State := { s with m := { s.m with now := s.m.now + 1 } }

end Sys2Proof.Machine
end

