-- ==== Sys2Proof/Machine/CmdBanks.lean ====
section
/-! DEFINITION. Meanings of the commands of this family: Banks and charge estimation (chapter 9). -/

namespace Sys2Proof.Machine

/-- MONITOR_FRAME (R235). -/
def execMonitorFrame (string : Fin 4) (m : Fin 20) (frame : BitVec 128) (s : State) : Out :=
  drive (monitorIn string.val m.val frame.toNat) s

/-- MONITOR_TIMEOUT (R236). -/
def execMonitorTimeout (string : Fin 4) (m : Fin 20) (s : State) : Out :=
  drive (monitorLate string.val m.val) s

/-- STRING_TIMEOUT (R236). -/
def execStringTimeout (string : Fin 4) (s : State) : Out :=
  drive (ownLoop (cmdStringTimeout string.val)) s

/-- CAN_BUS_ERROR (R265). -/
def execCanBusError (bus : Fin 2) (s : State) : Out :=
  drive (busChanged bus.val true) s

/-- ESTIMATOR_SAMPLE (R241). -/
def execEstimatorSample (u : Fin 5) (s : State) : Out :=
  drive (cmdEstimatorSample u.val) s

/-- TAPER_DECLARATION (R253). -/
def execTaperDeclaration (u : Fin 5) (s : State) : Out :=
  drive (cmdTaperDeclaration u.val) s

/-- REST_REQUEST (R250). -/
def execRestRequest (deep : Bool) (s : State) : Out :=
  drive (cmdRestRequest deep) s

/-- REST_REQUEST_OVERDUE (R250). -/
def execRestRequestOverdue (deep : Bool) (s : State) : Out :=
  drive (cmdRestRequestOverdue deep) s

/-- REPORT_SLEW (R246). -/
def execReportSlew (s : State) : Out :=
  drive cmdReportSlew s

/-- PRECHARGE_TIMEOUT (R238). -/
def execPrechargeTimeout (s : State) : Out :=
  drive cmdPrechargeTimeout s

/-- LIFETIME_UPDATE (R256). -/
def execLifetimeUpdate (s : State) : Out :=
  drive cmdLifetimeUpdate s

/-- EST_LIFE_RESET (R256). -/
def execEstLifeReset (r : Req) (v : BitVec 8) (s : State) : Out :=
  drive (writeReq r 0x2540 1 1 v.toNat) s

end Sys2Proof.Machine
end

