-- ==== Sys2Proof/Machine/CmdConverter.lean ====
section
/-! DEFINITION. Meanings of the commands of this family: The storage converter and the sense link (chapters 5 and 15). -/

namespace Sys2Proof.Machine

/-- PWM_COMPUTE_POINT (R133). -/
def execPwmComputePoint (s : State) : Out :=
  drive cmdComputePoint s

/-- DIODE_EXIT (R137). -/
def execDiodeExit (p : Fin 100) (s : State) : Out :=
  drive (ownLoop (cmdDiodeExit p.val)) s

/-- PHASE_SHED (R143). -/
def execPhaseShed (deep : Bool) (s : State) : Out :=
  drive (ownLoop (phaseShed deep)) s

/-- WARM_HOLD_EXPIRY (R143). -/
def execWarmHoldExpiry (p : Fin 100) (s : State) : Out :=
  drive (ownLoop (warmHold p.val)) s

/-- COLD_WAKE_EXPIRY (R144). -/
def execColdWakeExpiry (p : Fin 100) (s : State) : Out :=
  drive (ownLoop (coldWake p.val)) s

/-- OVERLOAD_CREDIT_EXHAUSTED (R135). -/
def execOverloadCreditExhausted (deep : Bool) (s : State) : Out :=
  drive (ownLoop (creditGone deep)) s

/-- SENSE_FRAME (R421). -/
def execSenseFrame (frame : BitVec 336) (s : State) : Out :=
  drive (senseIn frame.toNat) s

/-- ALL_FIRE_END (R140). -/
def execAllFireEnd (s : State) : Out :=
  drive (ownLoop cmdAllFireEnd) s

/-- SENSE_TIMEOUT (R236). -/
def execSenseTimeout (ch : Fin 16) (s : State) : Out :=
  drive (senseLate ch.val) s

/-- CARD_UPLINK (R129). -/
def execCardUplink (card : Fin 25) (frame : BitVec 128) (s : State) : Out :=
  drive (cardIn card.val frame.toNat) s

/-- CARD_LINK_LOSS (R147). -/
def execCardLinkLoss (card : Fin 25) (s : State) : Out :=
  drive (cardLate card.val) s

/-- CNV_CARD_READMIT (R149). -/
def execCnvCardReadmit (r : Req) (v : BitVec 32) (s : State) : Out :=
  drive (writeReq r 0x2330 5 4 v.toNat) s

/-- CNV_PWM_PERIOD_WRITE (R123). -/
def execCnvPwmPeriodWrite (r : Req) (v : BitVec 16) (s : State) : Out :=
  drive (writeReq r 0x2301 0 2 v.toNat) s

/-- CNV_BUS_SET_WRITE (R132). -/
def execCnvBusSetWrite (r : Req) (v : BitVec 32) (s : State) : Out :=
  drive (writeReq r 0x2302 1 4 v.toNat) s

/-- CNV_REGULATE_ENTRY (R151). -/
def execCnvRegulateEntry (s : State) : Out :=
  drive (ownLoop cmdCnvRegulateEntry) s

/-- CAL_OFFSET (R153). -/
def execCalOffset (p : Fin 100) (s : State) : Out :=
  drive (ownLoop (cmdCalOffset p.val)) s

/-- CAL_SEQUENCE_COMPLETE (R153). -/
def execCalSequenceComplete (card : Fin 25) (s : State) : Out :=
  drive (cmdCalSequenceComplete card.val) s

/-- CAL_ESTIMATE (R254). -/
def execCalEstimate (card : Fin 25) (s : State) : Out :=
  drive (cmdCalEstimate card.val) s

/-- CALIBRATION_STARVED (R153). -/
def execCalibrationStarved (s : State) : Out :=
  drive cmdCalibrationStarved s

end Sys2Proof.Machine
end

