-- ==== Sys2Proof/Machine/CmdEngine.lean ====
section
/-! DEFINITION. Meanings of the commands of this family: The Forecast Engine, the Long Record and the part under it (chapters 6 and 7). -/

namespace Sys2Proof.Machine

/-- FORECAST_TICK_START (R167). -/
def execForecastTickStart (s : State) : Out :=
  drive cmdForecastTickStart s

/-- TICK_PUBLICATION (R168). -/
def execTickPublication (corr : BitVec 32) (chans : List (Fin 256 × BitVec 32)) (state : List Byte) (s : State) : Out :=
  drive (cmdTickPublication corr.toNat (chans.map fun c => (c.1.val, c.2.toNat)) state) s

/-- TICK_ABANDON (R168). -/
def execTickAbandon (s : State) : Out :=
  drive cmdTickAbandon s

/-- ROW_RELEASE (R169). -/
def execRowRelease (s : State) : Out :=
  drive cmdRowRelease s

/-- STREAM_DESCRIPTOR_COMPLETE (R160). -/
def execStreamDescriptorComplete (coach : Fin 64) (desc : BitVec 256) (ue : Option UeMet) (ops : List EngOp) (s : State) :
    Out :=
  drive (cmdStreamDescriptorComplete coach.val desc.toNat
    (ue.map fun u => (u.first.toNat, u.last.toNat, u.row.pch.val, u.row.row.toNat)) ops) s

/-- CART_FAILURE (R174). -/
def execCartFailure (coach : Fin 64) (cart : Fin 33) (s : State) : Out :=
  drive (cmdCartFailure coach.val cart.val) s

/-- CART_SELFTEST (R174). -/
def execCartSelftest (coach : Fin 64) (cart : Fin 33) (pass : Bool) (s : State) : Out :=
  drive (cmdCartSelftest coach.val cart.val pass) s

/-- COACHMAN_LOCKSTEP (R176). -/
def execCoachmanLockstep (coach : Fin 64) (s : State) : Out :=
  drive (cmdCoachmanLockstep coach.val) s

/-- ENGINE_SRAM_UE (R177). -/
def execEngineSramUe (word : EngWord) (used : Bool) (s : State) : Out :=
  drive (cmdEngineSramUe word used) s

/-- HBM_UE (R204). -/
def execHbmUe (error : HbmError) (s : State) : Out :=
  drive (cmdHbmUe error.hit error.row.pch.val error.row.row.toNat) s

/-- HBM_CORRECTABLE_ERROR (R163). -/
def execHbmCorrectableError (pch : Fin 128) (row : BitVec 32) (s : State) : Out :=
  drive (cmdHbmCorrectableError pch.val row.toNat) s

/-- HBM_ROW_REPAIR (R163). -/
def execHbmRowRepair (pch : Fin 128) (row : BitVec 32) (s : State) : Out :=
  drive (cmdHbmRowRepair pch.val row.toNat) s

/-- PSEUDO_CHANNEL_FAILURE (R164). -/
def execPseudoChannelFailure (failure : PchFailure) (s : State) : Out :=
  drive (cmdPseudoChannelFailure failure.pch.val (failure.unread.map fun g => g.toNat)) s

/-- PSEUDO_CHANNEL_RESTORE_COMPLETE (R164). -/
def execPseudoChannelRestoreComplete (pch : Fin 128) (s : State) : Out :=
  drive (cmdPseudoChannelRestoreComplete pch.val) s

/-- BACKGROUND_STARVED (R173). -/
def execBackgroundStarved (act : Fin 5) (s : State) : Out :=
  drive (cmdBackgroundStarved act.val) s

/-- TIMETABLE_SRAM_UE (R204). -/
def execTimetableSramUe (live : Bool) (row : Fin 262144) (s : State) : Out :=
  drive (cmdTimetableSramUe live row.val) s

/-- LONG_RECORD_BLOCK_CLOSE (R197). -/
def execLongRecordBlockClose (ch : Fin 512) (s : State) : Out :=
  drive (cmdLongRecordBlockClose ch.val) s

end Sys2Proof.Machine
end

