-- ==== Sys2Proof/Machine/CmdFaults.lean ====
section
/-! DEFINITION. Meanings of the commands of this family: Faults, the Guard Log and counters (chapter 12). -/

namespace Sys2Proof.Machine

/-- FAULT_EVENT (R318). -/
def execFaultEvent (bit : Fin 64) (source : BitVec 16) (data : BitVec 32) (s : State) : Out :=
  drive (raise bit.val source.toNat data.toNat) s

/-- FLT_STATUS_CLEAR (R324). -/
def execFltStatusClear (r : Req) (v : BitVec 64) (s : State) : Out :=
  drive (writeReq r 0x2800 0 8 v.toNat) s

/-- FLT_PARTNER_CLEAR (R324). -/
def execFltPartnerClear (r : Req) (v : BitVec 64) (s : State) : Out :=
  drive (writeReq r 0x2802 0 8 v.toNat) s

/-- BLANKING_WINDOW_CLOSE (R326). -/
def execBlankingWindowClose (bit : Fin 64) (s : State) : Out :=
  drive (cmdBlankingWindowClose bit.val) s

/-- INJ_START (R328). -/
def execInjStart (r : Req) (v : BitVec 8) (s : State) : Out :=
  drive (writeReq r 0x2830 4 1 v.toNat) s

/-- INJECTION_WINDOW_CLOSE (R329). -/
def execInjectionWindowClose (s : State) : Out :=
  drive cmdInjectionWindowClose s

/-- FAULT_N_PULSE_END (R332). -/
def execFaultNPulseEnd (s : State) : Out :=
  drive cmdFaultNPulseEnd s

/-- DIE_THERMAL_SAMPLE (R321). -/
def execDieThermalSample (celsius : BitVec 8) (s : State) : Out :=
  drive (cmdDieThermalSample celsius.toNat) s

/-- CLOCK_LOSS (R321). -/
def execClockLoss (s : State) : Out :=
  drive cmdClockLoss s

/-- WATCHDOG_EXPIRY (R321). -/
def execWatchdogExpiry (pair : Fin 14) (s : State) : Out :=
  drive (cmdWatchdogExpiry pair.val) s

/-- FABRIC_LANE_DOWN (R321). -/
def execFabricLaneDown (lane : Fin 8) (s : State) : Out :=
  drive (cmdFabricLaneDown lane.val) s

/-- LANE9_BLOCK_LOCK (R427). -/
def execLane9BlockLock (s : State) : Out :=
  drive cmdLane9BlockLock s

/-- GUARD_LOG_FLUSH (R337). -/
def execGuardLogFlush (failA failB : Bool) (s : State) : Out :=
  drive (cmdGuardLogFlush failA failB) s

/-- GL_CLEAR (R341). -/
def execGlClear (r : Req) (v : BitVec 8) (s : State) : Out :=
  drive (writeReq r 0x2851 0 1 v.toNat) s

/-- CTR_CLEAR (R342). -/
def execCtrClear (r : Req) (v : BitVec 64) (s : State) : Out :=
  drive (writeReq r 0x2862 0 8 v.toNat) s

end Sys2Proof.Machine
end

