-- ==== Sys2Proof/Machine/CmdMgmt.lean ====
section
/-! DEFINITION. Meanings of the commands of this family: Management (chapter 13). -/

namespace Sys2Proof.Machine

/-- DTLS_HANDSHAKE (R353). -/
def execDtlsHandshake (port : Fin 3) (identity : List Byte) (msg : DtlsMsg) (addr : List Byte) (s : State) : Out :=
  drive (cmdDtlsHandshake port.val identity msg addr) s

/-- HANDSHAKE_TIMEOUT (R353). -/
def execHandshakeTimeout (k : Fin 8) (s : State) : Out :=
  drive (cmdHandshakeTimeout k.val) s

/-- VOP_OPEN (R359). -/
def execVopOpen (r : Req) (s : State) : Out :=
  drive (request r .open_) s

/-- VOP_READ (R359). -/
def execVopRead (r : Req) (staged : Bool) (idx : BitVec 16) (sub : BitVec 8) (len : BitVec 16) (s : State) : Out :=
  drive (request r (.read staged idx.toNat sub.toNat len.toNat)) s

/-- VOP_WRITE (R349). -/
def execVopWrite (r : Req) (idx : BitVec 16) (sub : BitVec 8) (data : List Byte) (s : State) : Out :=
  drive (request r (.write (true, true) idx.toNat sub.toNat data)) s

/-- VOP_READ_DOMAIN (R376). -/
def execVopReadDomain (r : Req) (staged : Bool) (idx : BitVec 16) (sub : BitVec 8) (off : BitVec 64) (len : BitVec 16) (s : State) : Out :=
  drive (request r (.readDomain staged idx.toNat sub.toNat off.toNat len.toNat)) s

/-- VOP_WRITE_DOMAIN (R376). -/
def execVopWriteDomain (r : Req) (idx : BitVec 16) (sub : BitVec 8) (off : BitVec 64) (data : List Byte) (s : State) : Out :=
  drive (request r (.writeDomain idx.toNat sub.toNat off.toNat data)) s

/-- VOP_KEEPALIVE (R359). -/
def execVopKeepalive (r : Req) (s : State) : Out :=
  drive (request r .keepalive) s

/-- VOP_CLOSE (R359). -/
def execVopClose (r : Req) (s : State) : Out :=
  drive (request r .close) s

/-- VOP_DESCRIBE (R359). -/
def execVopDescribe (r : Req) (idx : BitVec 16) (sub : BitVec 8) (s : State) : Out :=
  drive (request r (.describe idx.toNat sub.toNat)) s

/-- NOTIFY_SEND (R363). -/
def execNotifySend (k : Fin 8) (obj : Fin 5) (s : State) : Out :=
  drive (cmdNotifySend k.val obj.val) s

/-- REQ_ID_HOLD_TIMEOUT (R360). -/
def execReqIdHoldTimeout (k : Fin 8) (s : State) : Out :=
  drive (cmdReqIdHoldTimeout k.val) s

/-- SESSION_TIMEOUT (R357). -/
def execSessionTimeout (k : Fin 8) (s : State) : Out :=
  drive (cmdSessionTimeout k.val) s

/-- MGMT_LINK_CHANGE (R352). -/
def execMgmtLinkChange (port : Fin 2) (up : Bool) (s : State) : Out :=
  drive (cmdMgmtLinkChange port.val up) s

/-- SESSION_LINK_DOWN (R357). -/
def execSessionLinkDown (port : Fin 2) (s : State) : Out :=
  drive (cmdSessionLinkDown port.val) s

/-- TOKEN_HOLDER_WRITE (R364). -/
def execTokenHolderWrite (r : Req) (v : BitVec 8) (s : State) : Out :=
  drive (writeReq r 0x1120 0 1 v.toNat) s

/-- TOKEN_LAPSE (R366). -/
def execTokenLapse (s : State) : Out :=
  drive cmdTokenLapse s

/-- STG_COMMIT (R370). -/
def execStgCommit (r : Req) (v : BitVec 8) (s : State) : Out :=
  drive (writeReq r 0x2F00 0 1 v.toNat) s

/-- STG_DISCARD (R374). -/
def execStgDiscard (r : Req) (v : BitVec 8) (s : State) : Out :=
  drive (writeReq r 0x2F01 0 1 v.toNat) s

/-- COMMIT_ACK_TIMEOUT (R371). -/
def execCommitAckTimeout (s : State) : Out :=
  drive cmdCommitAckTimeout s

/-- STG_RESTORE_DEFAULTS (R351). -/
def execStgRestoreDefaults (r : Req) (v : BitVec 8) (s : State) : Out :=
  drive (writeReq r 0x2F10 0 1 v.toNat) s

end Sys2Proof.Machine
end

