-- ==== Sys2Proof/Machine/CmdModels.lean ====
section
/-! DEFINITION. Meanings of the commands of this family: The loader and adaptation (chapter 8). -/

namespace Sys2Proof.Machine

/-- MDL_BEGIN (R219). -/
def execMdlBegin (r : Req) (s : State) : Out :=
  drive (writeReq r 0x2440 0 1 1) s

/-- MDL_ERASE_COMPLETE (R219). -/
def execMdlEraseComplete (s : State) : Out :=
  drive cmdMdlEraseComplete s

/-- MDL_LOAD_WINDOW_WRITE (R219). -/
def execMdlLoadWindowWrite (r : Req) (off : BitVec 64) (data : List Byte) (s : State) : Out :=
  drive (request r (.writeDomain 0x3060 0 off.toNat data)) s

/-- MDL_VERIFY (R217). -/
def execMdlVerify (r : Req) (s : State) : Out :=
  drive (writeReq r 0x2440 0 1 2) s

/-- MDL_VERIFY_COMPLETE (R217). -/
def execMdlVerifyComplete (s : State) : Out :=
  drive cmdMdlVerifyComplete s

/-- MDL_SWITCH (R222). -/
def execMdlSwitch (r : Req) (s : State) : Out :=
  drive (writeReq r 0x2440 0 1 3) s

/-- MDL_CANCEL (R219). -/
def execMdlCancel (r : Req) (s : State) : Out :=
  drive (writeReq r 0x2440 0 1 4) s

/-- MODEL_IMAGE_COPY_COMPLETE (R223). -/
def execModelImageCopyComplete (s : State) : Out :=
  drive cmdModelImageCopyComplete s

/-- ADAPT_PASS_COMPLETE (R229). -/
def execAdaptPassComplete (adopt : Bool) (candidate : List Byte) (s : State) : Out :=
  drive (cmdAdaptPassComplete adopt candidate) s

/-- MDL_ADAPT_REVERT (R231). -/
def execMdlAdaptRevert (r : Req) (v : BitVec 8) (s : State) : Out :=
  drive (writeReq r 0x2460 3 1 v.toNat) s

/-- ADAPT_REVERT_COPY_COMPLETE (R231). -/
def execAdaptRevertCopyComplete (s : State) : Out :=
  drive cmdAdaptRevertCopyComplete s

end Sys2Proof.Machine
end

