-- ==== Sys2Proof/Machine/CmdModes.lean ====
section
/-! DEFINITION. Meanings of the commands of this family: Operating states, start and stop (chapters 1 and 10). -/

namespace Sys2Proof.Machine

/-- START_REQUEST (R21). -/
def execStartRequest (r : Req) (s : State) : Out :=
  drive (writeReq r 0x1011 0 1 1) s

/-- STOP_REQUEST (R21). -/
def execStopRequest (r : Req) (s : State) : Out :=
  drive (writeReq r 0x1011 0 1 2) s

/-- COMMISSION_REQUEST (R21). -/
def execCommissionRequest (r : Req) (s : State) : Out :=
  drive (writeReq r 0x1011 0 1 3) s

/-- MODULE_RESET (R21). -/
def execModuleReset (r : Req) (s : State) : Out :=
  drive (writeReq r 0x1011 0 1 4) s

/-- DISCOVERY_END (R294). -/
def execDiscoveryEnd (s : State) : Out :=
  drive cmdDiscoveryEnd s

/-- DISCOVERY_HOLD_TIMEOUT (R294). -/
def execDiscoveryHoldTimeout (s : State) : Out :=
  drive cmdDiscoveryHoldTimeout s

/-- BUS_RAMP_START (R286). -/
def execBusRampStart (s : State) : Out :=
  drive cmdBusRampStart s

/-- BUS_RAMP_END (R238). -/
def execBusRampEnd (s : State) : Out :=
  drive cmdBusRampEnd s

/-- PRIVILEGED_ON_DELAY (R286). -/
def execPrivilegedOnDelay (tray : Fin 64) (s : State) : Out :=
  drive (cmdPrivilegedOnDelay tray.val) s

/-- RUN_ENTRY (R21). -/
def execRunEntry (s : State) : Out :=
  drive runEntry s

/-- ORDINARY_FEEDER_OFF (R21). -/
def execOrdinaryFeederOff (tray : Fin 64) (s : State) : Out :=
  drive (cmdOrdinaryFeederOff tray.val) s

/-- PRIVILEGED_OFF_DELAY (R21). -/
def execPrivilegedOffDelay (tray : Fin 64) (s : State) : Out :=
  drive (cmdPrivilegedOffDelay tray.val) s

/-- BUS_RAMP_DOWN (R151). -/
def execBusRampDown (s : State) : Out :=
  drive cmdBusRampDown s

end Sys2Proof.Machine
end

