-- ==== Sys2Proof/Machine/CmdPartner.lean ====
section
/-! DEFINITION. Meanings of the commands of this family: The partner module (chapter 11). -/

namespace Sys2Proof.Machine

/-- IDENT_SEND (R294). -/
def execIdentSend (s : State) : Out :=
  drive cmdIdentSend s

/-- IDENT_CELL (R294). -/
def execIdentCell (cell : BitVec 1024) (s : State) : Out :=
  drive (cellIn 0x1 cell.toNat) s

/-- HEARTBEAT_CELL (R303). -/
def execHeartbeatCell (cell : BitVec 1024) (s : State) : Out :=
  drive (cellIn 0x2 cell.toNat) s

/-- HB_W_PULSE (R303). -/
def execHbWPulse (widthNs : BitVec 16) (positive : Bool) (s : State) : Out :=
  drive (if positive then cmdHbWPulse widthNs.toNat else id) s

/-- HEARTBEAT_PATH_LOSS (R303). -/
def execHeartbeatPathLoss (wire : Bool) (s : State) : Out :=
  drive (cmdHeartbeatPathLoss wire) s

/-- PARTNER_FAILURE_DETECT (R304). -/
def execPartnerFailureDetect (s : State) : Out :=
  drive cmdPartnerFailureDetect s

/-- TOKEN_SHARE_TIMEOUT (R308). -/
def execTokenShareTimeout (s : State) : Out :=
  drive cmdTokenShareTimeout s

/-- ORDER_CELL (R299). -/
def execOrderCell (cell : BitVec 1024) (s : State) : Out :=
  drive (cellIn 0x3 cell.toNat) s

/-- SENSE_CELL (R297). -/
def execSenseCell (cell : BitVec 1024) (s : State) : Out :=
  drive (cellIn 0x4 cell.toNat) s

/-- LINK_CELL (R297). -/
def execLinkCell (cell : BitVec 1024) (s : State) : Out :=
  drive (cellIn 0x5 cell.toNat) s

/-- CAN_CELL (R297). -/
def execCanCell (cell : BitVec 1024) (s : State) : Out :=
  drive (cellIn 0x6 cell.toNat) s

/-- EPOCH_END (R300). -/
def execEpochEnd (cell : BitVec 1024) (s : State) : Out :=
  drive (cellIn 0x7 cell.toNat) s

/-- BULK_CELL (R297). -/
def execBulkCell (cell : BitVec 1024) (s : State) : Out :=
  drive (cellIn 0x8 cell.toNat) s

/-- ACK_CELL (R221). -/
def execAckCell (cell : BitVec 1024) (s : State) : Out :=
  drive (cellIn 0x9 cell.toNat) s

/-- NAK_CELL (R298). -/
def execNakCell (cell : BitVec 1024) (s : State) : Out :=
  drive (cellIn 0xA cell.toNat) s

/-- FETCH_CELL (R301). -/
def execFetchCell (cell : BitVec 1024) (s : State) : Out :=
  drive (cellIn 0xB cell.toNat) s

/-- TICKET_CELL (R301). -/
def execTicketCell (cell : BitVec 1024) (s : State) : Out :=
  drive (cellIn 0xC cell.toNat) s

/-- DEMOTE_CELL (R305). -/
def execDemoteCell (cell : BitVec 1024) (s : State) : Out :=
  drive (cellIn 0xD cell.toNat) s

/-- SWITCH_CELL (R312). -/
def execSwitchCell (cell : BitVec 1024) (s : State) : Out :=
  drive (cellIn 0xE cell.toNat) s

/-- RESYNC_CELL (R315). -/
def execResyncCell (cell : BitVec 1024) (s : State) : Out :=
  drive (cellIn 0xF cell.toNat) s

/-- STANDBY_EPOCH_EXECUTE (R301). -/
def execStandbyEpochExecute (s : State) : Out :=
  drive cmdStandbyEpochExecute s

/-- STANDBY_FALL_BEHIND (R301). -/
def execStandbyFallBehind (s : State) : Out :=
  drive cmdStandbyFallBehind s

/-- FETCH_TIMEOUT (R301). -/
def execFetchTimeout (s : State) : Out :=
  drive cmdFetchTimeout s

/-- PARTNER_LINK_LOSS (R302). -/
def execPartnerLinkLoss (s : State) : Out :=
  drive cmdPartnerLinkLoss s

/-- PARTNER_LANE_SILENCE (R302). -/
def execPartnerLaneSilence (s : State) : Out :=
  drive cmdPartnerLaneSilence s

/-- PTN_SWITCHOVER_REQUEST (R312). -/
def execPtnSwitchoverRequest (r : Req) (v : BitVec 8) (s : State) : Out :=
  drive (writeReq r 0x2709 0 1 v.toNat) s

/-- PTN_RESYNC_REQUEST (R314). -/
def execPtnResyncRequest (r : Req) (v : BitVec 8) (s : State) : Out :=
  drive (writeReq r 0x2707 0 1 v.toNat) s

/-- RESYNC_COMPLETE (R315). -/
def execResyncComplete (s : State) : Out :=
  drive cmdResyncComplete s

end Sys2Proof.Machine
end

