-- ==== Sys2Proof/Machine/CmdService.lean ====
section
/-! DEFINITION. Meanings of the commands of this family: Power, boot, images and what ends a condition (chapters 14 and 15). -/

namespace Sys2Proof.Machine

/-- POWER_ON_RESET (R411). -/
def execPowerOnReset (slotB : Bool) (s : State) : Out :=
  driveAlways (cmdPowerOnReset slotB) s

/-- BOOT_COMPLETE (R387). -/
def execBootComplete (lostA lostB : Bool) (pairsPass : BitVec 14) (s : State) : Out :=
  drive (cmdBootComplete lostA lostB pairsPass.toNat) s

/-- IMAGE_CONFIRM (R388). -/
def execImageConfirm (s : State) : Out :=
  drive cmdImageConfirm s

/-- CUSTOMER_IMAGE_CONFIRM (R393). -/
def execCustomerImageConfirm (s : State) : Out :=
  drive cmdCustomerImageConfirm s

/-- GUEST_START_TIMEOUT (R393). -/
def execGuestStartTimeout (s : State) : Out :=
  drive cmdGuestStartTimeout s

/-- CONTROL_PAIR_LOCKSTEP (R391). -/
def execControlPairLockstep (pair : Fin 14) (s : State) : Out :=
  drive (cmdControlPairLockstep pair.val) s

/-- PAIR_RESUME (R391). -/
def execPairResume (s : State) : Out :=
  drive cmdPairResume s

/-- APP_CORE_EXCEPTION (R394). -/
def execAppCoreException (s : State) : Out :=
  drive appCore s

/-- GUEST_WATCHDOG_LAPSE (R394). -/
def execGuestWatchdogLapse (s : State) : Out :=
  drive cmdGuestWatchdogLapse s

/-- APP_RESTART_REQUEST (R394). -/
def execAppRestartRequest (r : Req) (v : BitVec 8) (s : State) : Out :=
  drive (writeReq r 0x121A 3 1 v.toNat) s

/-- UPD_BEGIN (R395). -/
def execUpdBegin (r : Req) (s : State) : Out :=
  drive (writeReq r 0x1208 0 1 1) s

/-- UPD_ERASE_COMPLETE (R395). -/
def execUpdEraseComplete (s : State) : Out :=
  drive cmdUpdEraseComplete s

/-- UPD_WINDOW_WRITE (R395). -/
def execUpdWindowWrite (r : Req) (off : BitVec 64) (data : List Byte) (s : State) : Out :=
  drive (request r (.writeDomain 0x1210 0 off.toNat data)) s

/-- UPD_VERIFY (R385). -/
def execUpdVerify (r : Req) (s : State) : Out :=
  drive (writeReq r 0x1208 0 1 2) s

/-- UPD_VERIFY_COMPLETE (R385). -/
def execUpdVerifyComplete (s : State) : Out :=
  drive cmdUpdVerifyComplete s

/-- UPD_CANCEL (R395). -/
def execUpdCancel (r : Req) (s : State) : Out :=
  drive (writeReq r 0x1208 0 1 3) s

/-- ACTIVATE_PARTNER (R397). -/
def execActivatePartner (r : Req) (s : State) : Out :=
  drive (writeReq r 0x1208 0 1 4) s

/-- ACTIVATE_SELF (R397). -/
def execActivateSelf (r : Req) (s : State) : Out :=
  drive (writeReq r 0x1208 0 1 5) s

/-- ATT_REQUEST (R399); `ok` says that the write of the leaf passed its verification in MRAM A and in B. -/
def execAttRequest (r : Req) (v : BitVec 8) (ok : Bool × Bool) (s : State) : Out :=
  drive (request r (.write ok 0x1221 0 (toBytes 1 v.toNat))) s

/-- ATT_SIGN_COMPLETE (R400). -/
def execAttSignComplete (s : State) : Out :=
  drive cmdAttSignComplete s

/-- AGEING_MONITOR (R403). -/
def execAgeingMonitor (n : Fin 5) (reading : AgeReading) (s : State) : Out :=
  drive (cmdAgeingMonitor n.val reading.value.toNat reading.unit.val) s

/-- AUX_INPUT_FAULT (R410). -/
def execAuxInputFault (n : Fin 2) (s : State) : Out :=
  drive (cmdAuxInputFault n.val) s

/-- AUX_OVERVOLTAGE (R409). -/
def execAuxOvervoltage (n : Fin 2) (s : State) : Out :=
  drive (cmdAuxOvervoltage n.val) s

/-- POWER_FAIL_WARNING (R412). -/
def execPowerFailWarning (s : State) : Out :=
  drive cmdPowerFailWarning s

/-- POWER_RESTART (R413). -/
def execPowerRestart (s : State) : Out :=
  driveAlways cmdPowerRestart s

/-- AUX_INPUT_RETURN (R410). -/
def execAuxInputReturn (n : Fin 2) (s : State) : Out :=
  drive (cmdAuxInputReturn n.val) s

/-- AUX_RECONNECT (R409). -/
def execAuxReconnect (n : Fin 2) (s : State) : Out :=
  drive (cmdAuxReconnect n.val) s

/-- HOLD_UP_END (R412). -/
def execHoldUpEnd (s : State) : Out :=
  driveAlways cmdHoldUpEnd s

/-- FABRIC_LANE_BLOCK_LOCK (R321). -/
def execFabricLaneBlockLock (lane : Fin 8) (s : State) : Out :=
  drive (cmdFabricLaneBlockLock lane.val) s

/-- CLOCK_LOCK_REGAINED (R321). -/
def execClockLockRegained (s : State) : Out :=
  drive cmdClockLockRegained s

/-- CAN_BUS_RECOVERY (R265). -/
def execCanBusRecovery (bus : Fin 2) (s : State) : Out :=
  drive (busChanged bus.val false) s

/-- BACKGROUND_PASS_COMPLETE (R173). -/
def execBackgroundPassComplete (pass : BgPass) (s : State) : Out :=
  drive (cmdBackgroundPassComplete pass.act.val (pass.corrected.map fun c => c.map fun c => c.val)) s

/-- PERSISTENT_WRITE_COMPLETE (R350). -/
def execPersistentWriteComplete (okA okB : Bool) (s : State) : Out :=
  drive (cmdPersistentWriteComplete okA okB) s

/-- ALL_FIRE_HELD_START (R138). -/
def execAllFireHeldStart (s : State) : Out :=
  drive (ownLoop cmdAllFireHeldStart) s

/-- CARD_DOWNLINK_REPEAT (R307). -/
def execCardDownlinkRepeat (card : Fin 25) (s : State) : Out :=
  drive (cmdCardDownlinkRepeat card.val) s

end Sys2Proof.Machine
end

