-- ==== Sys2Proof/Machine/CmdShelf.lean ====
section
/-! DEFINITION. Meanings of the commands of this family: Rectifiers, feeds and feeders (chapter 10). -/

namespace Sys2Proof.Machine

/-- RECT_COMMAND_FRAME (R262). -/
def execRectCommandFrame (feed : Fin 2) (s : State) : Out :=
  drive (cmdRectCommandFrame feed.val) s

/-- RECT_STATUS_FRAME (R264). -/
def execRectStatusFrame (rect : Fin 24) (frame : BitVec 128) (s : State) : Out :=
  drive (rectIn rect.val frame.toNat) s

/-- RECT_TIMEOUT (R265). -/
def execRectTimeout (rect : Fin 24) (s : State) : Out :=
  drive (rectLate rect.val) s

/-- RECT_MODE_ECHO_CHECK (R265). -/
def execRectModeEchoCheck (rect : Fin 24) (s : State) : Out :=
  drive (cmdRectModeEchoCheck rect.val) s

/-- RECT_ALARM (R265). -/
def execRectAlarm (rect : Fin 24) (low : Bool) (s : State) : Out :=
  drive (cmdRectAlarm rect.val low) s

/-- RECT_READMIT (R265). -/
def execRectReadmit (r : Req) (v : BitVec 32) (s : State) : Out :=
  drive (writeReq r 0x2622 2 4 v.toNat) s

/-- RECT_READMIT_COMPLETE (R265). -/
def execRectReadmitComplete (rect : Fin 24) (s : State) : Out :=
  drive (cmdRectReadmitComplete rect.val) s

/-- GRID_CAP_WRITE (R266). -/
def execGridCapWrite (r : Req) (v : BitVec 32) (s : State) : Out :=
  drive (writeReq r 0x2610 0 4 v.toNat) s

/-- FEED_PRESENT (R270). -/
def execFeedPresent (feed : Fin 2) (s : State) : Out :=
  drive (cmdFeedPresent feed.val) s

/-- FEED_LOSS (R272). -/
def execFeedLoss (feed : Fin 2) (s : State) : Out :=
  drive (cmdFeedLoss feed.val) s

/-- FEED_TRANSFER_REQUEST (R271). -/
def execFeedTransferRequest (r : Req) (v : BitVec 8) (s : State) : Out :=
  drive (writeReq r 0x2601 3 1 v.toNat) s

/-- TRANSFER_TIMEOUT (R271). -/
def execTransferTimeout (s : State) : Out :=
  drive cmdTransferTimeout s

/-- TRANSFER_RAMP_END (R271). -/
def execTransferRampEnd (s : State) : Out :=
  drive cmdTransferRampEnd s

/-- FEEDER_DOWNLINK (R276). -/
def execFeederDownlink (s : State) : Out :=
  drive tenMicros s

/-- FEEDER_UPLINK (R278). -/
def execFeederUplink (tray : Fin 64) (frame : BitVec 64) (s : State) : Out :=
  drive (feederIn tray.val frame.toNat) s

/-- FEEDER_LINK_LOSS (R279). -/
def execFeederLinkLoss (tray : Fin 64) (s : State) : Out :=
  drive (feederLate tray.val) s

/-- IDENTITY_READ_COMPLETE (R281). -/
def execIdentityReadComplete (tray : Fin 64) (record : Option (BitVec 256)) (s : State) : Out :=
  drive (identityIn tray.val (record.map fun w => w.toNat)) s

/-- CST_REVERIFY (R283). -/
def execCstReverify (r : Req) (v : BitVec 64) (s : State) : Out :=
  drive (writeReq r 0x2651 0 8 v.toNat) s

/-- FDR_OPEN_REQUEST (R289). -/
def execFdrOpenRequest (r : Req) (v : BitVec 64) (s : State) : Out :=
  drive (writeReq r 0x2642 0 8 v.toNat) s

/-- FEEDER_OPEN_AFTER_BRAKE (R289). -/
def execFeederOpenAfterBrake (tray : Fin 64) (s : State) : Out :=
  drive (cmdFeederOpenAfterBrake tray.val) s

/-- FDR_CLOSE_REQUEST (R289). -/
def execFdrCloseRequest (r : Req) (v : BitVec 64) (s : State) : Out :=
  drive (writeReq r 0x2643 0 8 v.toNat) s

/-- HOT_INSERT (R289). -/
def execHotInsert (tray : Fin 64) (s : State) : Out :=
  drive (cmdHotInsert tray.val) s

/-- FEEDER_CLOSE_START (R285). -/
def execFeederCloseStart (tray : Fin 64) (s : State) : Out :=
  drive (cmdFeederCloseStart tray.val) s

/-- FEEDER_CLOSE_TIMEOUT (R287). -/
def execFeederCloseTimeout (tray : Fin 64) (s : State) : Out :=
  drive (cmdFeederCloseTimeout tray.val) s

end Sys2Proof.Machine
end

