-- ==== Sys2Proof/Machine/CmdStep.lean ====
section
/-! DEFINITION. Meanings of the commands of this family: The step phase and the timetable (chapter 2). -/

namespace Sys2Proof.Machine

/-- LOAD_EVENT (R25). -/
def execLoadEvent (s : State) : Out :=
  drive cmdLoadEvent s

/-- TRK_SEARCH_LIMIT (R28). -/
def execTrkSearchLimit (s : State) : Out :=
  drive cmdTrkSearchLimit s

/-- CAPTURE_WINDOW_CLOSE (R30). -/
def execCaptureWindowClose (s : State) : Out :=
  drive cmdCaptureWindowClose s

/-- STEP_BOUNDARY (R49). -/
def execStepBoundary (s : State) : Out :=
  drive cmdStepBoundary s

/-- BIN_END (R40). -/
def execBinEnd (s : State) : Out :=
  drive (ownLoop cmdBinEnd) s

/-- PAGE_VALIDATION_COMPLETE (R46). -/
def execPageValidationComplete (s : State) : Out :=
  drive cmdPageValidationComplete s

/-- SHADOW_COPY_COMPLETE (R48). -/
def execShadowCopyComplete (s : State) : Out :=
  drive cmdShadowCopyComplete s

end Sys2Proof.Machine
end

