-- ==== Sys2Proof/Machine/CmdTickets.lean ====
section
/-! DEFINITION. Meanings of the commands of this family: Tickets and the arbiter (chapters 3 and 4). -/

namespace Sys2Proof.Machine

/-- INGRESS_BUNDLE (R61); `macs` holds the frame's destination and source addresses, `frame` the rest of it without the FCS. -/
def execIngressBundle (lane : Fin 8) (macs frame : List Byte) (fcsOk : Bool) (s : State) : Out :=
  drive (cmdIngressBundle lane.val macs frame fcsOk) s

/-- REQUEST_DECISION (R101). -/
def execRequestDecision (lane : Fin 8) (s : State) : Out :=
  drive (cmdRequestDecision lane.val) s

/-- SIDING_OFFER (R104). -/
def execSidingOffer (lane : Fin 8) (s : State) : Out :=
  drive (cmdSidingOffer lane.val) s

/-- PREEMPTION_TASK (R109). -/
def execPreemptionTask (s : State) : Out :=
  drive cmdPreemptionTask s

/-- FALL_TASK (R112). -/
def execFallTask (s : State) : Out :=
  drive cmdFallTask s

/-- EGRESS_HOLD_EXPIRY (R68). -/
def execEgressHoldExpiry (tray : Fin 64) (prio : Fin 4) (s : State) : Out :=
  drive (cmdEgressHoldExpiry tray.val prio.val) s

/-- EGRESS_SEND (R69). -/
def execEgressSend (port : Fin 8) (s : State) : Out :=
  drive (cmdEgressSend port.val) s

/-- TKT_BRAKE_REQUEST (R85). -/
def execTktBrakeRequest (r : Req) (v : BitVec 64) (s : State) : Out :=
  drive (writeReq r 0x210C 0 8 v.toNat) s

/-- BRAKE_CHECK (R86). -/
def execBrakeCheck (tray : Fin 64) (s : State) : Out :=
  drive (cmdBrakeCheck tray.val) s

/-- TRAY_SEQ_RESET (R71). -/
def execTraySeqReset (r : Req) (tray : Fin 64) (v : BitVec 8) (s : State) : Out :=
  drive (writeReq r (0x2140 + tray.val) 7 1 v.toNat) s

/-- ARB_COUNTER_CLEAR (R120). -/
def execArbCounterClear (r : Req) (v : BitVec 8) (s : State) : Out :=
  drive (writeReq r 0x2231 0 1 v.toNat) s

/-- REQ_TABLE_WINDOW_WRITE (R119). -/
def execReqTableWindowWrite (r : Req) (off : BitVec 64) (data : List Byte) (s : State) : Out :=
  drive (request r (.writeDomain 0x3030 0 off.toNat data)) s

end Sys2Proof.Machine
end

