-- ==== Sys2Proof/Machine/Dispatch.lean ====
section
/-! DEFINITION. One arm per command: each calls its meaning. -/

namespace Sys2Proof.Machine

/-- What a command does to everything but the queue. -/
def exec (i : Instr) (s : State) : Host.Outcome State Fault Refusal :=
  match i with
  | .ingressBundle lane macs frame fcsOk => Sys2Proof.Machine.execIngressBundle lane macs frame fcsOk s
  | .requestDecision lane => Sys2Proof.Machine.execRequestDecision lane s
  | .sidingOffer lane => Sys2Proof.Machine.execSidingOffer lane s
  | .preemptionTask => Sys2Proof.Machine.execPreemptionTask s
  | .fallTask => Sys2Proof.Machine.execFallTask s
  | .egressHoldExpiry tray prio => Sys2Proof.Machine.execEgressHoldExpiry tray prio s
  | .egressSend port => Sys2Proof.Machine.execEgressSend port s
  | .tktBrakeRequest r v => Sys2Proof.Machine.execTktBrakeRequest r v s
  | .brakeCheck tray => Sys2Proof.Machine.execBrakeCheck tray s
  | .traySeqReset r tray v => Sys2Proof.Machine.execTraySeqReset r tray v s
  | .arbCounterClear r v => Sys2Proof.Machine.execArbCounterClear r v s
  | .reqTableWindowWrite r off data => Sys2Proof.Machine.execReqTableWindowWrite r off data s
  | .loadEvent => Sys2Proof.Machine.execLoadEvent s
  | .trkSearchLimit => Sys2Proof.Machine.execTrkSearchLimit s
  | .captureWindowClose => Sys2Proof.Machine.execCaptureWindowClose s
  | .stepBoundary => Sys2Proof.Machine.execStepBoundary s
  | .binEnd => Sys2Proof.Machine.execBinEnd s
  | .pageValidationComplete => Sys2Proof.Machine.execPageValidationComplete s
  | .shadowCopyComplete => Sys2Proof.Machine.execShadowCopyComplete s
  | .pwmComputePoint => Sys2Proof.Machine.execPwmComputePoint s
  | .diodeExit p => Sys2Proof.Machine.execDiodeExit p s
  | .phaseShed deep => Sys2Proof.Machine.execPhaseShed deep s
  | .warmHoldExpiry p => Sys2Proof.Machine.execWarmHoldExpiry p s
  | .coldWakeExpiry p => Sys2Proof.Machine.execColdWakeExpiry p s
  | .overloadCreditExhausted deep => Sys2Proof.Machine.execOverloadCreditExhausted deep s
  | .senseFrame frame => Sys2Proof.Machine.execSenseFrame frame s
  | .allFireEnd => Sys2Proof.Machine.execAllFireEnd s
  | .senseTimeout ch => Sys2Proof.Machine.execSenseTimeout ch s
  | .cardUplink card frame => Sys2Proof.Machine.execCardUplink card frame s
  | .cardLinkLoss card => Sys2Proof.Machine.execCardLinkLoss card s
  | .cnvCardReadmit r v => Sys2Proof.Machine.execCnvCardReadmit r v s
  | .cnvPwmPeriodWrite r v => Sys2Proof.Machine.execCnvPwmPeriodWrite r v s
  | .cnvBusSetWrite r v => Sys2Proof.Machine.execCnvBusSetWrite r v s
  | .cnvRegulateEntry => Sys2Proof.Machine.execCnvRegulateEntry s
  | .calOffset p => Sys2Proof.Machine.execCalOffset p s
  | .calSequenceComplete card => Sys2Proof.Machine.execCalSequenceComplete card s
  | .calEstimate card => Sys2Proof.Machine.execCalEstimate card s
  | .calibrationStarved => Sys2Proof.Machine.execCalibrationStarved s
  | .forecastTickStart => Sys2Proof.Machine.execForecastTickStart s
  | .tickPublication corr chans state => Sys2Proof.Machine.execTickPublication corr chans state s
  | .tickAbandon => Sys2Proof.Machine.execTickAbandon s
  | .rowRelease => Sys2Proof.Machine.execRowRelease s
  | .streamDescriptorComplete coach desc ue ops => Sys2Proof.Machine.execStreamDescriptorComplete coach desc ue ops s
  | .cartFailure coach cart => Sys2Proof.Machine.execCartFailure coach cart s
  | .cartSelftest coach cart pass => Sys2Proof.Machine.execCartSelftest coach cart pass s
  | .coachmanLockstep coach => Sys2Proof.Machine.execCoachmanLockstep coach s
  | .engineSramUe word used => Sys2Proof.Machine.execEngineSramUe word used s
  | .hbmUe error => Sys2Proof.Machine.execHbmUe error s
  | .hbmCorrectableError pch row => Sys2Proof.Machine.execHbmCorrectableError pch row s
  | .hbmRowRepair pch row => Sys2Proof.Machine.execHbmRowRepair pch row s
  | .pseudoChannelFailure failure => Sys2Proof.Machine.execPseudoChannelFailure failure s
  | .pseudoChannelRestoreComplete pch => Sys2Proof.Machine.execPseudoChannelRestoreComplete pch s
  | .backgroundStarved act => Sys2Proof.Machine.execBackgroundStarved act s
  | .timetableSramUe live row => Sys2Proof.Machine.execTimetableSramUe live row s
  | .longRecordBlockClose ch => Sys2Proof.Machine.execLongRecordBlockClose ch s
  | .mdlBegin r => Sys2Proof.Machine.execMdlBegin r s
  | .mdlEraseComplete => Sys2Proof.Machine.execMdlEraseComplete s
  | .mdlLoadWindowWrite r off data => Sys2Proof.Machine.execMdlLoadWindowWrite r off data s
  | .mdlVerify r => Sys2Proof.Machine.execMdlVerify r s
  | .mdlVerifyComplete => Sys2Proof.Machine.execMdlVerifyComplete s
  | .mdlSwitch r => Sys2Proof.Machine.execMdlSwitch r s
  | .mdlCancel r => Sys2Proof.Machine.execMdlCancel r s
  | .modelImageCopyComplete => Sys2Proof.Machine.execModelImageCopyComplete s
  | .adaptPassComplete adopt candidate => Sys2Proof.Machine.execAdaptPassComplete adopt candidate s
  | .mdlAdaptRevert r v => Sys2Proof.Machine.execMdlAdaptRevert r v s
  | .adaptRevertCopyComplete => Sys2Proof.Machine.execAdaptRevertCopyComplete s
  | .monitorFrame string m frame => Sys2Proof.Machine.execMonitorFrame string m frame s
  | .monitorTimeout string m => Sys2Proof.Machine.execMonitorTimeout string m s
  | .stringTimeout string => Sys2Proof.Machine.execStringTimeout string s
  | .canBusError bus => Sys2Proof.Machine.execCanBusError bus s
  | .estimatorSample u => Sys2Proof.Machine.execEstimatorSample u s
  | .taperDeclaration u => Sys2Proof.Machine.execTaperDeclaration u s
  | .restRequest deep => Sys2Proof.Machine.execRestRequest deep s
  | .restRequestOverdue deep => Sys2Proof.Machine.execRestRequestOverdue deep s
  | .reportSlew => Sys2Proof.Machine.execReportSlew s
  | .prechargeTimeout => Sys2Proof.Machine.execPrechargeTimeout s
  | .lifetimeUpdate => Sys2Proof.Machine.execLifetimeUpdate s
  | .estLifeReset r v => Sys2Proof.Machine.execEstLifeReset r v s
  | .rectCommandFrame feed => Sys2Proof.Machine.execRectCommandFrame feed s
  | .rectStatusFrame rect frame => Sys2Proof.Machine.execRectStatusFrame rect frame s
  | .rectTimeout rect => Sys2Proof.Machine.execRectTimeout rect s
  | .rectModeEchoCheck rect => Sys2Proof.Machine.execRectModeEchoCheck rect s
  | .rectAlarm rect low => Sys2Proof.Machine.execRectAlarm rect low s
  | .rectReadmit r v => Sys2Proof.Machine.execRectReadmit r v s
  | .rectReadmitComplete rect => Sys2Proof.Machine.execRectReadmitComplete rect s
  | .gridCapWrite r v => Sys2Proof.Machine.execGridCapWrite r v s
  | .feedPresent feed => Sys2Proof.Machine.execFeedPresent feed s
  | .feedLoss feed => Sys2Proof.Machine.execFeedLoss feed s
  | .feedTransferRequest r v => Sys2Proof.Machine.execFeedTransferRequest r v s
  | .transferTimeout => Sys2Proof.Machine.execTransferTimeout s
  | .transferRampEnd => Sys2Proof.Machine.execTransferRampEnd s
  | .feederDownlink => Sys2Proof.Machine.execFeederDownlink s
  | .feederUplink tray frame => Sys2Proof.Machine.execFeederUplink tray frame s
  | .feederLinkLoss tray => Sys2Proof.Machine.execFeederLinkLoss tray s
  | .identityReadComplete tray record => Sys2Proof.Machine.execIdentityReadComplete tray record s
  | .cstReverify r v => Sys2Proof.Machine.execCstReverify r v s
  | .fdrOpenRequest r v => Sys2Proof.Machine.execFdrOpenRequest r v s
  | .feederOpenAfterBrake tray => Sys2Proof.Machine.execFeederOpenAfterBrake tray s
  | .fdrCloseRequest r v => Sys2Proof.Machine.execFdrCloseRequest r v s
  | .hotInsert tray => Sys2Proof.Machine.execHotInsert tray s
  | .feederCloseStart tray => Sys2Proof.Machine.execFeederCloseStart tray s
  | .feederCloseTimeout tray => Sys2Proof.Machine.execFeederCloseTimeout tray s
  | .startRequest r => Sys2Proof.Machine.execStartRequest r s
  | .stopRequest r => Sys2Proof.Machine.execStopRequest r s
  | .commissionRequest r => Sys2Proof.Machine.execCommissionRequest r s
  | .moduleReset r => Sys2Proof.Machine.execModuleReset r s
  | .discoveryEnd => Sys2Proof.Machine.execDiscoveryEnd s
  | .discoveryHoldTimeout => Sys2Proof.Machine.execDiscoveryHoldTimeout s
  | .busRampStart => Sys2Proof.Machine.execBusRampStart s
  | .busRampEnd => Sys2Proof.Machine.execBusRampEnd s
  | .privilegedOnDelay tray => Sys2Proof.Machine.execPrivilegedOnDelay tray s
  | .runEntry => Sys2Proof.Machine.execRunEntry s
  | .ordinaryFeederOff tray => Sys2Proof.Machine.execOrdinaryFeederOff tray s
  | .privilegedOffDelay tray => Sys2Proof.Machine.execPrivilegedOffDelay tray s
  | .busRampDown => Sys2Proof.Machine.execBusRampDown s
  | .identSend => Sys2Proof.Machine.execIdentSend s
  | .identCell cell => Sys2Proof.Machine.execIdentCell cell s
  | .heartbeatCell cell => Sys2Proof.Machine.execHeartbeatCell cell s
  | .hbWPulse widthNs positive => Sys2Proof.Machine.execHbWPulse widthNs positive s
  | .heartbeatPathLoss wire => Sys2Proof.Machine.execHeartbeatPathLoss wire s
  | .partnerFailureDetect => Sys2Proof.Machine.execPartnerFailureDetect s
  | .tokenShareTimeout => Sys2Proof.Machine.execTokenShareTimeout s
  | .orderCell cell => Sys2Proof.Machine.execOrderCell cell s
  | .senseCell cell => Sys2Proof.Machine.execSenseCell cell s
  | .linkCell cell => Sys2Proof.Machine.execLinkCell cell s
  | .canCell cell => Sys2Proof.Machine.execCanCell cell s
  | .epochEnd cell => Sys2Proof.Machine.execEpochEnd cell s
  | .bulkCell cell => Sys2Proof.Machine.execBulkCell cell s
  | .ackCell cell => Sys2Proof.Machine.execAckCell cell s
  | .nakCell cell => Sys2Proof.Machine.execNakCell cell s
  | .fetchCell cell => Sys2Proof.Machine.execFetchCell cell s
  | .ticketCell cell => Sys2Proof.Machine.execTicketCell cell s
  | .demoteCell cell => Sys2Proof.Machine.execDemoteCell cell s
  | .switchCell cell => Sys2Proof.Machine.execSwitchCell cell s
  | .resyncCell cell => Sys2Proof.Machine.execResyncCell cell s
  | .standbyEpochExecute => Sys2Proof.Machine.execStandbyEpochExecute s
  | .standbyFallBehind => Sys2Proof.Machine.execStandbyFallBehind s
  | .fetchTimeout => Sys2Proof.Machine.execFetchTimeout s
  | .partnerLinkLoss => Sys2Proof.Machine.execPartnerLinkLoss s
  | .partnerLaneSilence => Sys2Proof.Machine.execPartnerLaneSilence s
  | .ptnSwitchoverRequest r v => Sys2Proof.Machine.execPtnSwitchoverRequest r v s
  | .ptnResyncRequest r v => Sys2Proof.Machine.execPtnResyncRequest r v s
  | .resyncComplete => Sys2Proof.Machine.execResyncComplete s
  | .faultEvent bit source data => Sys2Proof.Machine.execFaultEvent bit source data s
  | .fltStatusClear r v => Sys2Proof.Machine.execFltStatusClear r v s
  | .fltPartnerClear r v => Sys2Proof.Machine.execFltPartnerClear r v s
  | .blankingWindowClose bit => Sys2Proof.Machine.execBlankingWindowClose bit s
  | .injStart r v => Sys2Proof.Machine.execInjStart r v s
  | .injectionWindowClose => Sys2Proof.Machine.execInjectionWindowClose s
  | .faultNPulseEnd => Sys2Proof.Machine.execFaultNPulseEnd s
  | .dieThermalSample celsius => Sys2Proof.Machine.execDieThermalSample celsius s
  | .clockLoss => Sys2Proof.Machine.execClockLoss s
  | .watchdogExpiry pair => Sys2Proof.Machine.execWatchdogExpiry pair s
  | .fabricLaneDown lane => Sys2Proof.Machine.execFabricLaneDown lane s
  | .lane9BlockLock => Sys2Proof.Machine.execLane9BlockLock s
  | .guardLogFlush failA failB => Sys2Proof.Machine.execGuardLogFlush failA failB s
  | .glClear r v => Sys2Proof.Machine.execGlClear r v s
  | .ctrClear r v => Sys2Proof.Machine.execCtrClear r v s
  | .dtlsHandshake port identity msg addr => Sys2Proof.Machine.execDtlsHandshake port identity msg addr s
  | .handshakeTimeout k => Sys2Proof.Machine.execHandshakeTimeout k s
  | .vopOpen r => Sys2Proof.Machine.execVopOpen r s
  | .vopRead r staged idx sub len => Sys2Proof.Machine.execVopRead r staged idx sub len s
  | .vopWrite r idx sub data => Sys2Proof.Machine.execVopWrite r idx sub data s
  | .vopReadDomain r staged idx sub off len => Sys2Proof.Machine.execVopReadDomain r staged idx sub off len s
  | .vopWriteDomain r idx sub off data => Sys2Proof.Machine.execVopWriteDomain r idx sub off data s
  | .vopKeepalive r => Sys2Proof.Machine.execVopKeepalive r s
  | .vopClose r => Sys2Proof.Machine.execVopClose r s
  | .vopDescribe r idx sub => Sys2Proof.Machine.execVopDescribe r idx sub s
  | .notifySend k obj => Sys2Proof.Machine.execNotifySend k obj s
  | .reqIdHoldTimeout k => Sys2Proof.Machine.execReqIdHoldTimeout k s
  | .sessionTimeout k => Sys2Proof.Machine.execSessionTimeout k s
  | .mgmtLinkChange port up => Sys2Proof.Machine.execMgmtLinkChange port up s
  | .sessionLinkDown port => Sys2Proof.Machine.execSessionLinkDown port s
  | .tokenHolderWrite r v => Sys2Proof.Machine.execTokenHolderWrite r v s
  | .tokenLapse => Sys2Proof.Machine.execTokenLapse s
  | .stgCommit r v => Sys2Proof.Machine.execStgCommit r v s
  | .stgDiscard r v => Sys2Proof.Machine.execStgDiscard r v s
  | .commitAckTimeout => Sys2Proof.Machine.execCommitAckTimeout s
  | .stgRestoreDefaults r v => Sys2Proof.Machine.execStgRestoreDefaults r v s
  | .powerOnReset slotB => Sys2Proof.Machine.execPowerOnReset slotB s
  | .bootComplete lostA lostB pairsPass => Sys2Proof.Machine.execBootComplete lostA lostB pairsPass s
  | .imageConfirm => Sys2Proof.Machine.execImageConfirm s
  | .customerImageConfirm => Sys2Proof.Machine.execCustomerImageConfirm s
  | .guestStartTimeout => Sys2Proof.Machine.execGuestStartTimeout s
  | .controlPairLockstep pair => Sys2Proof.Machine.execControlPairLockstep pair s
  | .pairResume => Sys2Proof.Machine.execPairResume s
  | .appCoreException => Sys2Proof.Machine.execAppCoreException s
  | .guestWatchdogLapse => Sys2Proof.Machine.execGuestWatchdogLapse s
  | .appRestartRequest r v => Sys2Proof.Machine.execAppRestartRequest r v s
  | .updBegin r => Sys2Proof.Machine.execUpdBegin r s
  | .updEraseComplete => Sys2Proof.Machine.execUpdEraseComplete s
  | .updWindowWrite r off data => Sys2Proof.Machine.execUpdWindowWrite r off data s
  | .updVerify r => Sys2Proof.Machine.execUpdVerify r s
  | .updVerifyComplete => Sys2Proof.Machine.execUpdVerifyComplete s
  | .updCancel r => Sys2Proof.Machine.execUpdCancel r s
  | .activatePartner r => Sys2Proof.Machine.execActivatePartner r s
  | .activateSelf r => Sys2Proof.Machine.execActivateSelf r s
  | .attRequest r v ok => Sys2Proof.Machine.execAttRequest r v ok s
  | .attSignComplete => Sys2Proof.Machine.execAttSignComplete s
  | .ageingMonitor n reading => Sys2Proof.Machine.execAgeingMonitor n reading s
  | .auxInputFault n => Sys2Proof.Machine.execAuxInputFault n s
  | .auxOvervoltage n => Sys2Proof.Machine.execAuxOvervoltage n s
  | .powerFailWarning => Sys2Proof.Machine.execPowerFailWarning s
  | .powerRestart => Sys2Proof.Machine.execPowerRestart s
  | .auxInputReturn n => Sys2Proof.Machine.execAuxInputReturn n s
  | .auxReconnect n => Sys2Proof.Machine.execAuxReconnect n s
  | .holdUpEnd => Sys2Proof.Machine.execHoldUpEnd s
  | .fabricLaneBlockLock lane => Sys2Proof.Machine.execFabricLaneBlockLock lane s
  | .clockLockRegained => Sys2Proof.Machine.execClockLockRegained s
  | .canBusRecovery bus => Sys2Proof.Machine.execCanBusRecovery bus s
  | .backgroundPassComplete pass => Sys2Proof.Machine.execBackgroundPassComplete pass s
  | .persistentWriteComplete okA okB => Sys2Proof.Machine.execPersistentWriteComplete okA okB s
  | .allFireHeldStart => Sys2Proof.Machine.execAllFireHeldStart s
  | .cardDownlinkRepeat card => Sys2Proof.Machine.execCardDownlinkRepeat card s

end Sys2Proof.Machine
end

