-- ==== Sys2Proof/Safety.lean ====
section
/-! DEFINITION. What counts as a safe run, and the terms in which the statements speak: a command that completes, a
request whose turn has come, and what each command may change. -/

namespace Sys2Proof.Safety

open Sys2Proof.Machine

/-- The machine goes on. -/
def goesOn (o : Host.Outcome State Fault Refusal) : Prop := ∃ t, o = .next t

/-- `k` steps from `s` all go on. -/
def runsOn (s : State) (k : Nat) : Prop := goesOn (Sys2Proof.core.run k s)

/-- On these operands the command answers a next state with the queue unchanged, in which the module is as `P` says. -/
def Completes (c : Instr) (s : State) (P : Mach → Prop) : Prop :=
  ∃ t, exec c s = .next t ∧ t.pending = s.pending ∧ P t.m

/-- A request whose turn has come (R357, R359, R360, R366): it is of VERSION 1 and no reserved OP, its session is open, it
carries the REQ_ID expected, nothing of the session is held or waits for a page, and no lapse of the token is due. -/
def Turn (r : Req) (s : State) : Prop :=
  r.version = 1 ∧ r.badOp = none
    ∧ powerless s.m = false ∧ (session r.session.val s.m).st = 2 ∧ (s.m.mg.holder = 0 ∨ lapseDue s.m = none)
    ∧ r.reqId.toNat = (session r.session.val s.m).nextReq ∧ s.m.mg.waiting = none
    ∧ (session r.session.val s.m).held = []

/-- A write whose turn has come and that passes every check of Table 13.5, as the module stands once the message is
heard (R366). -/
def Admitted (r : Req) (idx sub off : Nat) (data : List Byte) (s : State) : Prop :=
  Turn r s ∧ ∃ d i j,
    writeChecks (decide (idx = 0x1120) || decide (holderSeen s.m = (session r.session.val s.m).mgr)) idx sub off data
      (heard r.session.val s.m) = .ok (d, i, j)
    ∧ groupPending d s.m = false ∧ writeBusy d idx sub s.m = false

/-- Bit `n` of FLT_STATUS. -/
def Latched (n : Nat) (s : Mach) : Prop := s.fc.status.testBit n = true

/-- An answer of kind `k` about REQUEST `seq` of requester `rid` is decided at this instant. -/
def Answered (k rid seq : Nat) (s : Mach) : Prop := ∃ a, (s.now, a) ∈ s.tk.recent ∧ a.kind = k ∧ a.rid = rid ∧ a.ref = seq

/-- The frame carries an accepted bundle of tray `t` with one genuine ticket, `l`, whose SEQ is new and whose reserved fields
are 0, to a module that answers it (R56, R61, R71, R74). -/
abbrev BringsTicket (macs frame src payload l : List Byte) (t : Nat) (fcs ok : Bool) (s : State) : Prop :=
  powerless s.m = false ∧ arbRuns s.m = true ∧ loops s.m = true ∧ keepsTickets s.m = false ∧
    bundleOf macs frame s.m = some (src, ok, payload) ∧ bundleBad payload (fcs && ok) s.m = none ∧
    tf (beNat (payload.take 16)) 111 106 = t ∧
    ticketsOf (tf (beNat (payload.take 16)) 105 96) (payload.drop 16) = [l] ∧
    ticketGenuine t l s.m = true ∧ tkReserved (beNat l) = false ∧ seqAhead (beNat l) s.m = true

/-- A good cell of type `kind` with the next number and no gap before it. -/
def NextCell (kind : Nat) (c : BitVec 1024) (s : State) : Prop :=
  powerless s.m = false ∧ s.m.mode ≠ .boot ∧ cellGood kind c.toNat = true ∧ s.m.ptn.gaps = [] ∧
    (s.m.ptn.rxSeq = none ∨ ∃ r, s.m.ptn.rxSeq = some r ∧ (nfld c.toNat 1007 976 + 2 ^ 32 - r) % 2 ^ 32 = 1)

/-- The payload of a cell (Table 11.2). -/
def cellPayload (c : BitVec 1024) : List Byte := ((toBytes 128 c.toNat).drop 16).take 108

/-- The parts of the module's state. -/
inductive Area where
  | now | mode | role | slotB | od | out | free | fc | det
  | gl | ctr | trk | tt | sig | tk | arb | cnv | bnk
  | grd | fdr | mg | lr | eng | ldr | ptn | life
  deriving DecidableEq, Repr

/-- A part is the same in two states of the module. -/
def Same (p : Area) (a b : Mach) : Prop :=
  match p with
  | .now => a.now = b.now
  | .mode => a.mode = b.mode
  | .role => a.role = b.role
  | .slotB => a.slotB = b.slotB
  | .od => a.od = b.od
  | .out => a.out = b.out
  | .free => a.free = b.free
  | .fc => a.fc = b.fc
  | .det => a.det = b.det
  | .gl => a.gl = b.gl
  | .ctr => a.ctr = b.ctr
  | .trk => a.trk = b.trk
  | .tt => a.tt = b.tt
  | .sig => a.sig = b.sig
  | .tk => a.tk = b.tk
  | .arb => a.arb = b.arb
  | .cnv => a.cnv = b.cnv
  | .bnk => a.bnk = b.bnk
  | .grd => a.grd = b.grd
  | .fdr => a.fdr = b.fdr
  | .mg => a.mg = b.mg
  | .lr => a.lr = b.lr
  | .eng => a.eng = b.eng
  | .ldr => a.ldr = b.ldr
  | .ptn => a.ptn = b.ptn
  | .life => a.life = b.life

/-- Every part. -/
def every : List Area :=
  [.now, .mode, .role, .slotB, .od, .out, .free, .fc, .det, .gl, .ctr, .trk, .tt,
   .sig, .tk, .arb, .cnv, .bnk, .grd, .fdr, .mg, .lr, .eng, .ldr, .ptn, .life]

/-- Every part but some. -/
def allBut (l : List Area) : List Area := every.filter fun p => !l.contains p

/-- What a latched fault bit may touch: the collector, the log, the counters and the notifications, and, where its class
is C3, what entry to TRIP changes (R322). -/
def ofFault : List Area :=
  [.mode, .od, .out, .fc, .gl, .ctr, .tk, .arb, .cnv, .bnk, .grd, .fdr, .mg, .ptn, .life]

/-- What every executed request may touch: the response, sessions and staging, the record of a session that closes, and
what is forwarded to the partner. -/
def ofRequest : List Area := [.out, .gl, .ctr, .mg, .ptn]

/-- The parts that a command may change; a request may change these where its turn has come and nothing is held behind
it. -/
def writes : Instr → List Area
  | .ingressBundle _ _ _ _ => allBut [.now, .role, .slotB, .free, .det]
  | .requestDecision _ => ofFault
  | .sidingOffer _ => ofFault
  | .preemptionTask => ofFault
  | .fallTask => [.od, .ctr, .tk, .arb, .cnv, .ptn]
  | .egressHoldExpiry _ _ => [.tk]
  | .egressSend _ => ofFault
  | .tktBrakeRequest _ _ => ofRequest ++ [.od, .tk, .arb, .cnv]
  | .brakeCheck _ => [.od, .gl, .ctr, .tk]
  | .traySeqReset _ _ _ => ofRequest ++ [.arb]
  | .arbCounterClear _ _ => ofRequest ++ [.arb]
  | .reqTableWindowWrite _ _ _ => ofRequest
  | .loadEvent => allBut [.now, .role, .slotB, .free, .det]
  | .trkSearchLimit => ofFault ++ [.trk]
  | .captureWindowClose => allBut [.now, .role, .slotB, .free, .det]
  | .stepBoundary => allBut [.now, .role, .slotB, .free, .det]
  | .binEnd => ofFault ++ [.trk, .tt, .sig]
  | .pageValidationComplete => allBut [.now, .slotB]
  | .shadowCopyComplete => [.tt]
  | .pwmComputePoint => allBut [.slotB, .free]
  | .diodeExit _ => [.cnv]
  | .phaseShed _ => [.ctr, .cnv]
  | .warmHoldExpiry _ => [.cnv]
  | .coldWakeExpiry _ => [.ctr, .cnv]
  | .overloadCreditExhausted _ => [.cnv]
  | .senseFrame _ => ofFault ++ [.det, .lr]
  | .allFireEnd => [.cnv, .ptn]
  | .senseTimeout _ => ofFault
  | .cardUplink _ _ => allBut [.now, .slotB]
  | .cardLinkLoss _ => ofFault
  | .cnvCardReadmit _ _ => ofRequest ++ [.cnv]
  | .cnvPwmPeriodWrite _ _ => ofRequest
  | .cnvBusSetWrite _ _ => ofRequest
  | .cnvRegulateEntry => ofFault ++ [.det]
  | .calOffset _ => [.cnv]
  | .calSequenceComplete _ => ofFault
  | .calEstimate _ => [.od, .free, .ctr, .cnv]
  | .calibrationStarved => ofFault
  | .forecastTickStart => ofFault ++ [.tt, .eng]
  | .tickPublication _ _ _ => [.od, .out, .ctr, .tt, .arb, .lr, .eng, .ptn]
  | .tickAbandon => ofFault ++ [.eng]
  | .rowRelease => [.od, .ctr, .tt, .eng]
  | .streamDescriptorComplete _ _ _ _ => allBut [.now, .role, .slotB, .det, .trk, .ldr]
  | .cartFailure _ _ => ofFault ++ [.tt, .eng]
  | .cartSelftest _ _ _ => ofFault ++ [.tt, .eng]
  | .coachmanLockstep _ => ofFault ++ [.tt, .eng]
  | .engineSramUe _ _ => ofFault ++ [.eng]
  | .hbmUe _ => allBut [.now, .role, .slotB, .free, .det, .trk, .tt]
  | .hbmCorrectableError _ _ => ofFault ++ [.lr, .eng]
  | .hbmRowRepair _ _ => ofFault ++ [.lr, .eng]
  | .pseudoChannelFailure _ => ofFault ++ [.lr, .eng]
  | .pseudoChannelRestoreComplete _ => ofFault ++ [.eng]
  | .backgroundStarved _ => ofFault
  | .timetableSramUe _ _ => ofFault ++ [.tt, .eng]
  | .longRecordBlockClose _ => [.lr]
  | .mdlBegin _ => ofRequest ++ [.od, .ldr]
  | .mdlEraseComplete => [.od, .ldr]
  | .mdlLoadWindowWrite _ _ _ => ofRequest ++ [.ldr]
  | .mdlVerify _ => ofRequest ++ [.od, .ldr]
  | .mdlVerifyComplete => [.od, .gl, .ctr]
  | .mdlSwitch _ => ofRequest ++ [.od]
  | .mdlCancel _ => ofRequest ++ [.od, .ldr]
  | .modelImageCopyComplete => [.eng]
  | .adaptPassComplete _ _ => ofFault ++ [.eng, .ldr]
  | .mdlAdaptRevert _ _ => ofRequest ++ [.ldr]
  | .adaptRevertCopyComplete => [.out, .ldr, .ptn]
  | .monitorFrame _ _ _ => ofFault
  | .monitorTimeout _ _ => ofFault
  | .stringTimeout _ => ofFault
  | .canBusError _ => ofFault
  | .estimatorSample _ => ofFault
  | .taperDeclaration _ => ofFault
  | .restRequest _ => [.bnk]
  | .restRequestOverdue _ => ofFault
  | .reportSlew => [.bnk]
  | .prechargeTimeout => ofFault
  | .lifetimeUpdate => [.bnk]
  | .estLifeReset _ _ => ofRequest ++ [.bnk]
  | .rectCommandFrame _ => [.od, .out, .free, .ctr, .grd, .fdr]
  | .rectStatusFrame _ _ => ofFault
  | .rectTimeout _ => ofFault
  | .rectModeEchoCheck _ => ofFault
  | .rectAlarm _ _ => ofFault
  | .rectReadmit _ _ => ofRequest ++ [.grd]
  | .rectReadmitComplete _ => ofFault
  | .gridCapWrite _ _ => ofRequest
  | .feedPresent _ => ofFault
  | .feedLoss _ => ofFault
  | .feedTransferRequest _ _ => ofRequest ++ [.grd]
  | .transferTimeout => [.gl, .ctr, .grd]
  | .transferRampEnd => [.od, .ctr, .arb, .grd, .ptn]
  | .feederDownlink => [.out, .trk, .grd, .fdr, .lr, .eng]
  | .feederUplink _ _ => ofFault ++ [.sig]
  | .feederLinkLoss _ => ofFault
  | .identityReadComplete _ _ => ofFault ++ [.sig]
  | .cstReverify _ _ => ofRequest ++ [.fdr]
  | .fdrOpenRequest _ _ => ofRequest ++ [.od, .tk, .arb, .cnv, .fdr]
  | .feederOpenAfterBrake _ => [.fdr]
  | .fdrCloseRequest _ _ => ofRequest ++ [.fdr]
  | .hotInsert _ => [.out, .fdr]
  | .feederCloseStart _ => [.gl, .ctr, .fdr]
  | .feederCloseTimeout _ => ofFault
  | .startRequest _ => ofFault
  | .stopRequest _ => ofRequest ++ [.mode, .od, .arb, .cnv, .bnk, .grd, .fdr, .life]
  | .commissionRequest _ => ofRequest ++ [.mode, .od, .life]
  | .moduleReset _ => allBut [.now, .slotB]
  | .discoveryEnd => ofFault ++ [.role]
  | .discoveryHoldTimeout => ofFault
  | .busRampStart => [.cnv, .grd, .fdr]
  | .busRampEnd => [.bnk, .grd, .fdr]
  | .privilegedOnDelay _ => [.fdr]
  | .runEntry => allBut [.now, .role, .slotB, .free, .det, .sig, .lr]
  | .ordinaryFeederOff _ => ofFault
  | .privilegedOffDelay _ => [.fdr]
  | .busRampDown => [.fc, .cnv, .grd, .fdr]
  | .identSend => [.out, .ptn]
  | .identCell _ => allBut [.now, .slotB]
  | .heartbeatCell _ => allBut [.now, .slotB]
  | .hbWPulse _ _ => ofFault ++ [.role]
  | .heartbeatPathLoss _ => ofFault
  | .partnerFailureDetect => allBut [.slotB, .free]
  | .tokenShareTimeout => ofFault ++ [.role]
  | .orderCell _ => allBut [.now, .slotB]
  | .senseCell _ => allBut [.now, .slotB]
  | .linkCell _ => allBut [.now, .slotB]
  | .canCell _ => allBut [.now, .slotB]
  | .epochEnd _ => allBut [.now, .slotB]
  | .bulkCell _ => allBut [.now, .slotB]
  | .ackCell _ => allBut [.now, .slotB]
  | .nakCell _ => allBut [.now, .slotB]
  | .fetchCell _ => allBut [.now, .slotB]
  | .ticketCell _ => allBut [.now, .slotB]
  | .demoteCell _ => allBut [.now, .slotB]
  | .switchCell _ => allBut [.now, .slotB]
  | .resyncCell _ => allBut [.now, .slotB]
  | .standbyEpochExecute => allBut [.slotB, .free]
  | .standbyFallBehind => allBut [.now, .slotB]
  | .fetchTimeout => [.od, .out, .ctr, .ptn]
  | .partnerLinkLoss => ofFault ++ [.role]
  | .partnerLaneSilence => ofFault
  | .ptnSwitchoverRequest _ _ => ofRequest
  | .ptnResyncRequest _ _ => ofRequest
  | .resyncComplete => ofFault ++ [.role, .eng]
  | .faultEvent _ _ _ => ofFault
  | .fltStatusClear _ _ => ofRequest
  | .fltPartnerClear _ _ => ofRequest
  | .blankingWindowClose _ => ofFault
  | .injStart _ _ => ofFault
  | .injectionWindowClose => ofFault
  | .faultNPulseEnd => [.fc]
  | .dieThermalSample _ => ofFault ++ [.det]
  | .clockLoss => ofFault
  | .watchdogExpiry _ => ofFault
  | .fabricLaneDown _ => ofFault
  | .lane9BlockLock => [.life]
  | .guardLogFlush _ _ => ofFault
  | .glClear _ _ => ofRequest
  | .ctrClear _ _ => ofRequest
  | .dtlsHandshake _ _ _ _ => [.od, .out, .gl, .ctr, .mg, .life]
  | .handshakeTimeout _ => [.mg]
  | .vopOpen _ => ofRequest
  | .vopRead _ _ _ _ _ => ofRequest ++ [.free]
  | .vopWrite _ _ _ _ => allBut [.now, .slotB]
  | .vopReadDomain _ _ _ _ _ _ => ofRequest ++ [.free]
  | .vopWriteDomain _ _ _ _ _ => allBut [.now, .slotB]
  | .vopKeepalive _ => ofRequest
  | .vopClose _ => ofRequest
  | .vopDescribe _ _ _ => ofRequest
  | .notifySend _ _ => [.out, .mg]
  | .reqIdHoldTimeout _ => [.gl, .ctr, .mg]
  | .sessionTimeout _ => [.gl, .ctr, .mg]
  | .mgmtLinkChange _ _ => [.mg]
  | .sessionLinkDown _ => [.gl, .ctr, .mg]
  | .tokenHolderWrite _ _ => ofRequest
  | .tokenLapse => ofFault ++ [.ldr]
  | .stgCommit _ _ => ofRequest ++ [.mode, .od, .tt, .life]
  | .stgDiscard _ _ => ofRequest
  | .commitAckTimeout => ofFault
  | .stgRestoreDefaults _ _ => ofFault ++ [.tt, .lr, .eng]
  | .powerOnReset _ => allBut [.now, .free]
  | .bootComplete _ _ _ => ofFault
  | .imageConfirm => [.gl, .ctr, .life]
  | .customerImageConfirm => [.od, .gl, .ctr, .life]
  | .guestStartTimeout => [.od, .gl, .ctr, .life]
  | .controlPairLockstep _ => ofFault
  | .pairResume => [.od, .gl, .ctr, .life]
  | .appCoreException => ofFault
  | .guestWatchdogLapse => ofFault
  | .appRestartRequest _ _ => ofFault
  | .updBegin _ => ofRequest ++ [.od, .life]
  | .updEraseComplete => [.od, .life]
  | .updWindowWrite _ _ _ => ofRequest ++ [.life]
  | .updVerify _ => ofRequest ++ [.od, .life]
  | .updVerifyComplete => [.od, .gl, .ctr]
  | .updCancel _ => ofRequest ++ [.od, .life]
  | .activatePartner _ => ofRequest
  | .activateSelf _ => allBut [.now, .slotB]
  | .attRequest _ _ _ => ofFault ++ [.free]
  | .attSignComplete => [.od, .gl, .ctr, .mg, .life]
  | .ageingMonitor _ _ => [.od, .gl, .ctr, .life]
  | .auxInputFault _ => ofFault
  | .auxOvervoltage _ => [.life]
  | .powerFailWarning => ofFault ++ [.free]
  | .powerRestart => [.mode, .role, .gl, .life]
  | .auxInputReturn _ => ofFault
  | .auxReconnect _ => [.life]
  | .holdUpEnd => [.gl, .life]
  | .fabricLaneBlockLock _ => ofFault
  | .clockLockRegained => ofFault
  | .canBusRecovery _ => ofFault
  | .backgroundPassComplete _ => ofFault ++ [.eng]
  | .persistentWriteComplete _ _ => ofFault ++ [.free]
  | .allFireHeldStart => ofFault
  | .cardDownlinkRepeat _ => [.out]

/-- The request that a management command carries. -/
def requestOf : Instr → Option Req
  | .ingressBundle _ _ _ _ => none
  | .requestDecision _ => none
  | .sidingOffer _ => none
  | .preemptionTask => none
  | .fallTask => none
  | .egressHoldExpiry _ _ => none
  | .egressSend _ => none
  | .tktBrakeRequest r _ => some r
  | .brakeCheck _ => none
  | .traySeqReset r _ _ => some r
  | .arbCounterClear r _ => some r
  | .reqTableWindowWrite r _ _ => some r
  | .loadEvent => none
  | .trkSearchLimit => none
  | .captureWindowClose => none
  | .stepBoundary => none
  | .binEnd => none
  | .pageValidationComplete => none
  | .shadowCopyComplete => none
  | .pwmComputePoint => none
  | .diodeExit _ => none
  | .phaseShed _ => none
  | .warmHoldExpiry _ => none
  | .coldWakeExpiry _ => none
  | .overloadCreditExhausted _ => none
  | .senseFrame _ => none
  | .allFireEnd => none
  | .senseTimeout _ => none
  | .cardUplink _ _ => none
  | .cardLinkLoss _ => none
  | .cnvCardReadmit r _ => some r
  | .cnvPwmPeriodWrite r _ => some r
  | .cnvBusSetWrite r _ => some r
  | .cnvRegulateEntry => none
  | .calOffset _ => none
  | .calSequenceComplete _ => none
  | .calEstimate _ => none
  | .calibrationStarved => none
  | .forecastTickStart => none
  | .tickPublication _ _ _ => none
  | .tickAbandon => none
  | .rowRelease => none
  | .streamDescriptorComplete _ _ _ _ => none
  | .cartFailure _ _ => none
  | .cartSelftest _ _ _ => none
  | .coachmanLockstep _ => none
  | .engineSramUe _ _ => none
  | .hbmUe _ => none
  | .hbmCorrectableError _ _ => none
  | .hbmRowRepair _ _ => none
  | .pseudoChannelFailure _ => none
  | .pseudoChannelRestoreComplete _ => none
  | .backgroundStarved _ => none
  | .timetableSramUe _ _ => none
  | .longRecordBlockClose _ => none
  | .mdlBegin r => some r
  | .mdlEraseComplete => none
  | .mdlLoadWindowWrite r _ _ => some r
  | .mdlVerify r => some r
  | .mdlVerifyComplete => none
  | .mdlSwitch r => some r
  | .mdlCancel r => some r
  | .modelImageCopyComplete => none
  | .adaptPassComplete _ _ => none
  | .mdlAdaptRevert r _ => some r
  | .adaptRevertCopyComplete => none
  | .monitorFrame _ _ _ => none
  | .monitorTimeout _ _ => none
  | .stringTimeout _ => none
  | .canBusError _ => none
  | .estimatorSample _ => none
  | .taperDeclaration _ => none
  | .restRequest _ => none
  | .restRequestOverdue _ => none
  | .reportSlew => none
  | .prechargeTimeout => none
  | .lifetimeUpdate => none
  | .estLifeReset r _ => some r
  | .rectCommandFrame _ => none
  | .rectStatusFrame _ _ => none
  | .rectTimeout _ => none
  | .rectModeEchoCheck _ => none
  | .rectAlarm _ _ => none
  | .rectReadmit r _ => some r
  | .rectReadmitComplete _ => none
  | .gridCapWrite r _ => some r
  | .feedPresent _ => none
  | .feedLoss _ => none
  | .feedTransferRequest r _ => some r
  | .transferTimeout => none
  | .transferRampEnd => none
  | .feederDownlink => none
  | .feederUplink _ _ => none
  | .feederLinkLoss _ => none
  | .identityReadComplete _ _ => none
  | .cstReverify r _ => some r
  | .fdrOpenRequest r _ => some r
  | .feederOpenAfterBrake _ => none
  | .fdrCloseRequest r _ => some r
  | .hotInsert _ => none
  | .feederCloseStart _ => none
  | .feederCloseTimeout _ => none
  | .startRequest r => some r
  | .stopRequest r => some r
  | .commissionRequest r => some r
  | .moduleReset r => some r
  | .discoveryEnd => none
  | .discoveryHoldTimeout => none
  | .busRampStart => none
  | .busRampEnd => none
  | .privilegedOnDelay _ => none
  | .runEntry => none
  | .ordinaryFeederOff _ => none
  | .privilegedOffDelay _ => none
  | .busRampDown => none
  | .identSend => none
  | .identCell _ => none
  | .heartbeatCell _ => none
  | .hbWPulse _ _ => none
  | .heartbeatPathLoss _ => none
  | .partnerFailureDetect => none
  | .tokenShareTimeout => none
  | .orderCell _ => none
  | .senseCell _ => none
  | .linkCell _ => none
  | .canCell _ => none
  | .epochEnd _ => none
  | .bulkCell _ => none
  | .ackCell _ => none
  | .nakCell _ => none
  | .fetchCell _ => none
  | .ticketCell _ => none
  | .demoteCell _ => none
  | .switchCell _ => none
  | .resyncCell _ => none
  | .standbyEpochExecute => none
  | .standbyFallBehind => none
  | .fetchTimeout => none
  | .partnerLinkLoss => none
  | .partnerLaneSilence => none
  | .ptnSwitchoverRequest r _ => some r
  | .ptnResyncRequest r _ => some r
  | .resyncComplete => none
  | .faultEvent _ _ _ => none
  | .fltStatusClear r _ => some r
  | .fltPartnerClear r _ => some r
  | .blankingWindowClose _ => none
  | .injStart r _ => some r
  | .injectionWindowClose => none
  | .faultNPulseEnd => none
  | .dieThermalSample _ => none
  | .clockLoss => none
  | .watchdogExpiry _ => none
  | .fabricLaneDown _ => none
  | .lane9BlockLock => none
  | .guardLogFlush _ _ => none
  | .glClear r _ => some r
  | .ctrClear r _ => some r
  | .dtlsHandshake _ _ _ _ => none
  | .handshakeTimeout _ => none
  | .vopOpen r => some r
  | .vopRead r _ _ _ _ => some r
  | .vopWrite r _ _ _ => some r
  | .vopReadDomain r _ _ _ _ _ => some r
  | .vopWriteDomain r _ _ _ _ => some r
  | .vopKeepalive r => some r
  | .vopClose r => some r
  | .vopDescribe r _ _ => some r
  | .notifySend _ _ => none
  | .reqIdHoldTimeout _ => none
  | .sessionTimeout _ => none
  | .mgmtLinkChange _ _ => none
  | .sessionLinkDown _ => none
  | .tokenHolderWrite r _ => some r
  | .tokenLapse => none
  | .stgCommit r _ => some r
  | .stgDiscard r _ => some r
  | .commitAckTimeout => none
  | .stgRestoreDefaults r _ => some r
  | .powerOnReset _ => none
  | .bootComplete _ _ _ => none
  | .imageConfirm => none
  | .customerImageConfirm => none
  | .guestStartTimeout => none
  | .controlPairLockstep _ => none
  | .pairResume => none
  | .appCoreException => none
  | .guestWatchdogLapse => none
  | .appRestartRequest r _ => some r
  | .updBegin r => some r
  | .updEraseComplete => none
  | .updWindowWrite r _ _ => some r
  | .updVerify r => some r
  | .updVerifyComplete => none
  | .updCancel r => some r
  | .activatePartner r => some r
  | .activateSelf r => some r
  | .attRequest r _ _ => some r
  | .attSignComplete => none
  | .ageingMonitor _ _ => none
  | .auxInputFault _ => none
  | .auxOvervoltage _ => none
  | .powerFailWarning => none
  | .powerRestart => none
  | .auxInputReturn _ => none
  | .auxReconnect _ => none
  | .holdUpEnd => none
  | .fabricLaneBlockLock _ => none
  | .clockLockRegained => none
  | .canBusRecovery _ => none
  | .backgroundPassComplete _ => none
  | .persistentWriteComplete _ _ => none
  | .allFireHeldStart => none
  | .cardDownlinkRepeat _ => none

/-- The objects that a command may change besides MOD_STATE_SINCE_S, which entry to a state dates; none where it may
change any, since it reads defaults, executes what a partner sent, ends a step or writes the object that it names. -/
def objWrites : Instr → Option (List ObjDef)
  | .ingressBundle _ _ _ _ => none
  | .requestDecision _ => some [Obj.ARB_GRANTS, Obj.ARB_MAX_OVERCOMMIT_W, Obj.ARB_MAX_SIDING, Obj.ARB_PARKS,
      Obj.ARB_STEP_VOIDS]
  | .sidingOffer _ => some [Obj.ARB_GRANTS, Obj.ARB_MAX_OVERCOMMIT_W, Obj.ARB_MAX_SIDING, Obj.ARB_RESUMES,
      Obj.ARB_SIDING_GRANTS, Obj.ARB_STEP_VOIDS]
  | .preemptionTask => some [Obj.ARB_GRANTS, Obj.ARB_MAX_OVERCOMMIT_W, Obj.ARB_MAX_SIDING, Obj.ARB_PARKS,
      Obj.ARB_REVOKE_PREEMPT, Obj.ARB_STEP_VOIDS]
  | .fallTask => some [Obj.ARB_MAX_SIDING, Obj.ARB_REVOKE_FALL, Obj.ARB_STEP_VOIDS]
  | .egressHoldExpiry _ _ => some []
  | .egressSend _ => some [Obj.TKT_BRAKE_SENT, Obj.TKT_LATE_ANSWER, Obj.TKT_MAX_ANSWER_NS]
  | .tktBrakeRequest _ _ => some [Obj.ARB_STEP_VOIDS, Obj.ARB_MAX_SIDING]
  | .brakeCheck _ => some [Obj.TKT_BRAKE_NONCOMPLIANT]
  | .traySeqReset _ _ _ => some []
  | .arbCounterClear _ _ => some []
  | .reqTableWindowWrite _ _ _ => some []
  | .loadEvent => none
  | .trkSearchLimit => some []
  | .captureWindowClose => none
  | .stepBoundary => none
  | .binEnd => some [Obj.ARB_MAX_OVERCOMMIT_W, Obj.EST_RESTS_TAKEN, Obj.TT_EXCURSION_STEPS]
  | .pageValidationComplete => none
  | .shadowCopyComplete => some []
  | .pwmComputePoint => none
  | .diodeExit _ => some []
  | .phaseShed _ => some []
  | .warmHoldExpiry _ => some []
  | .coldWakeExpiry _ => some []
  | .overloadCreditExhausted _ => some []
  | .senseFrame _ => some [Obj.CNV_ALLFIRE_COUNT]
  | .allFireEnd => some []
  | .senseTimeout _ => some []
  | .cardUplink _ _ => none
  | .cardLinkLoss _ => some []
  | .cnvCardReadmit _ _ => some []
  | .cnvPwmPeriodWrite _ _ => some []
  | .cnvBusSetWrite _ _ => some []
  | .cnvRegulateEntry => some [Obj.ARB_MAX_OVERCOMMIT_W]
  | .calOffset _ => some []
  | .calSequenceComplete _ => some [Obj.CNV_CAL_SEQUENCES]
  | .calEstimate _ => some [Obj.EST_CAL_DISCARDS, Obj.EST_CAL_UPDATES]
  | .calibrationStarved => some []
  | .forecastTickStart => some [Obj.ENG_TICKS_ABANDONED, Obj.ENG_TICK_COUNT, Obj.MDL_WARMUP_LEFT]
  | .tickPublication _ _ _ => some [Obj.ENG_CORRECTION_W, Obj.ENG_ROWS_RELEASED, Obj.ENG_TICK_MAX_NS,
      Obj.MDL_WARMUP_LEFT]
  | .tickAbandon => some [Obj.ENG_TICKS_ABANDONED, Obj.MDL_WARMUP_LEFT]
  | .rowRelease => some [Obj.ENG_ROWS_RELEASED]
  | .streamDescriptorComplete _ _ _ _ => some [Obj.ARB_MAX_OVERCOMMIT_W, Obj.ENG_HBM_UE, Obj.ENG_PCH_REPAIRS,
      Obj.ENG_TICKS_ABANDONED, Obj.MDL_WARMUP_LEFT, Obj.SPR_ENTRIES]
  | .cartFailure _ _ => some [Obj.ENG_CARTS_WORKING, Obj.ENG_COACHES_IN_SERVICE, Obj.ENG_COMMITS_WITHDRAWN,
      Obj.ENG_SPARE_CARTS, Obj.ENG_TICKS_ABANDONED, Obj.MDL_WARMUP_LEFT]
  | .cartSelftest _ _ _ => some [Obj.ENG_CARTS_WORKING, Obj.ENG_COACHES_IN_SERVICE, Obj.ENG_COMMITS_WITHDRAWN,
      Obj.ENG_SPARE_CARTS, Obj.ENG_TICKS_ABANDONED, Obj.MDL_WARMUP_LEFT]
  | .coachmanLockstep _ => some [Obj.ENG_COMMITS_WITHDRAWN, Obj.ENG_TICKS_ABANDONED, Obj.MDL_WARMUP_LEFT]
  | .engineSramUe _ _ => some [Obj.ENG_SRAM_UE, Obj.ENG_TICKS_ABANDONED, Obj.MDL_WARMUP_LEFT]
  | .hbmUe _ => some [Obj.ENG_HBM_UE, Obj.ENG_PCH_REPAIRS, Obj.ENG_TICKS_ABANDONED, Obj.MDL_ADAPT_GENERATION,
      Obj.MDL_WARMUP_LEFT, Obj.SPR_ENTRIES]
  | .hbmCorrectableError _ _ => some [Obj.ENG_HBM_CE, Obj.ENG_PCH_REPAIRS, Obj.SPR_ENTRIES]
  | .hbmRowRepair _ _ => some [Obj.ENG_PCH_REPAIRS, Obj.ENG_ROW_REPAIRS, Obj.SPR_ENTRIES]
  | .pseudoChannelFailure _ => some [Obj.ENG_PCH_REPAIRS, Obj.SPR_ENTRIES]
  | .pseudoChannelRestoreComplete _ => some []
  | .backgroundStarved _ => some []
  | .timetableSramUe _ _ => some [Obj.ARB_MAX_OVERCOMMIT_W, Obj.ENG_COMMITS_WITHDRAWN]
  | .longRecordBlockClose _ => some []
  | .mdlBegin _ => some [Obj.MDL_PARTNER_REASON, Obj.MDL_PARTNER_STATUS]
  | .mdlEraseComplete => some [Obj.MDL_LOAD_STATE]
  | .mdlLoadWindowWrite _ _ _ => some []
  | .mdlVerify _ => some [Obj.MDL_LOAD_STATE]
  | .mdlVerifyComplete => some [Obj.MDL_BUDGET_CYCLES, Obj.MDL_CHECK_WIDTH, Obj.MDL_LOAD_STATE,
      Obj.MDL_REFUSAL_COACH, Obj.MDL_REFUSAL_CODE, Obj.MDL_REFUSAL_EXCESS, Obj.MDL_REFUSAL_REASON,
      Obj.MDL_WORST_CYCLES]
  | .mdlSwitch _ => some [Obj.MDL_LOAD_STATE]
  | .mdlCancel _ => some [Obj.MDL_LOAD_STATE]
  | .modelImageCopyComplete => some []
  | .adaptPassComplete _ _ => some [Obj.MDL_ADAPT_REJECTED]
  | .mdlAdaptRevert _ _ => some []
  | .adaptRevertCopyComplete => some []
  | .monitorFrame _ _ _ => some []
  | .monitorTimeout _ _ => some []
  | .stringTimeout _ => some []
  | .canBusError _ => some []
  | .estimatorSample _ => some []
  | .taperDeclaration _ => some []
  | .restRequest _ => some []
  | .restRequestOverdue _ => some []
  | .reportSlew => some []
  | .prechargeTimeout => some []
  | .lifetimeUpdate => some []
  | .estLifeReset _ _ => some []
  | .rectCommandFrame _ => some [Obj.GRID_TARGET_W]
  | .rectStatusFrame _ _ => some [Obj.ARB_MAX_OVERCOMMIT_W]
  | .rectTimeout _ => some [Obj.ARB_MAX_OVERCOMMIT_W]
  | .rectModeEchoCheck _ => some [Obj.ARB_MAX_OVERCOMMIT_W]
  | .rectAlarm _ _ => some [Obj.ARB_MAX_OVERCOMMIT_W]
  | .rectReadmit _ _ => some []
  | .rectReadmitComplete _ => some [Obj.ARB_MAX_OVERCOMMIT_W]
  | .gridCapWrite _ _ => some []
  | .feedPresent _ => some []
  | .feedLoss _ => some [Obj.ARB_MAX_OVERCOMMIT_W, Obj.ARB_MAX_SIDING, Obj.ARB_STEP_VOIDS,
      Obj.FEED1_LOSSES_FEED2_LOSSES, Obj.RT_EVENTS]
  | .feedTransferRequest _ _ => some []
  | .transferTimeout => some []
  | .transferRampEnd => some [Obj.ARB_MAX_OVERCOMMIT_W]
  | .feederDownlink => some []
  | .feederUplink _ _ => some [Obj.ARB_MAX_OVERCOMMIT_W]
  | .feederLinkLoss _ => some []
  | .identityReadComplete _ _ => some [Obj.ARB_MAX_OVERCOMMIT_W]
  | .cstReverify _ _ => some []
  | .fdrOpenRequest _ _ => some [Obj.ARB_STEP_VOIDS, Obj.ARB_MAX_SIDING]
  | .feederOpenAfterBrake _ => some []
  | .fdrCloseRequest _ _ => some []
  | .hotInsert _ => some []
  | .feederCloseStart _ => some []
  | .feederCloseTimeout _ => some [Obj.ARB_MAX_OVERCOMMIT_W]
  | .startRequest _ => some [Obj.ARB_MAX_OVERCOMMIT_W]
  | .stopRequest _ => some []
  | .commissionRequest _ => some []
  | .moduleReset _ => none
  | .discoveryEnd => some [Obj.ARB_MAX_OVERCOMMIT_W, Obj.INJ_OPEN, Obj.PTN_RESYNC_REASON, Obj.PTN_RESYNC_STAGE]
  | .discoveryHoldTimeout => some [Obj.ARB_MAX_OVERCOMMIT_W]
  | .busRampStart => some []
  | .busRampEnd => some []
  | .privilegedOnDelay _ => some []
  | .runEntry => some [Obj.ENG_CARTS_WORKING, Obj.ENG_COACHES_IN_SERVICE, Obj.ENG_SPARE_CARTS,
      Obj.ENG_TICKS_ABANDONED, Obj.MDL_ACTIVE_MODEL, Obj.MDL_ADAPT_GENERATION, Obj.MDL_ADAPT_REJECTED,
      Obj.MDL_BUDGET_CYCLES, Obj.MDL_CHECK_WIDTH, Obj.MDL_LOADED_ID, Obj.MDL_LOADED_REVISION,
      Obj.MDL_REFUSAL_COACH, Obj.MDL_REFUSAL_CODE, Obj.MDL_REFUSAL_EXCESS, Obj.MDL_REFUSAL_REASON,
      Obj.MDL_WARMUP_LEFT, Obj.MDL_WORST_CYCLES]
  | .ordinaryFeederOff _ => some [Obj.ARB_MAX_OVERCOMMIT_W]
  | .privilegedOffDelay _ => some []
  | .busRampDown => some []
  | .identSend => some []
  | .identCell _ => none
  | .heartbeatCell _ => none
  | .hbWPulse _ _ => some [Obj.INJ_OPEN, Obj.PTN_RESYNC_REASON, Obj.PTN_RESYNC_STAGE]
  | .heartbeatPathLoss _ => some []
  | .partnerFailureDetect => none
  | .tokenShareTimeout => some [Obj.INJ_OPEN, Obj.PTN_RESYNC_REASON, Obj.PTN_RESYNC_STAGE]
  | .orderCell _ => none
  | .senseCell _ => none
  | .linkCell _ => none
  | .canCell _ => none
  | .epochEnd _ => none
  | .bulkCell _ => none
  | .ackCell _ => none
  | .nakCell _ => none
  | .fetchCell _ => none
  | .ticketCell _ => none
  | .demoteCell _ => none
  | .switchCell _ => none
  | .resyncCell _ => none
  | .standbyEpochExecute => none
  | .standbyFallBehind => none
  | .fetchTimeout => some [Obj.PTN_FETCHES]
  | .partnerLinkLoss => some [Obj.INJ_OPEN, Obj.PTN_RESYNC_REASON, Obj.PTN_RESYNC_STAGE]
  | .partnerLaneSilence => some [Obj.PTN_LANE, Obj.PTN_RESYNC_REASON, Obj.PTN_RESYNC_STAGE, Obj.SPR_ENTRIES]
  | .ptnSwitchoverRequest _ _ => some []
  | .ptnResyncRequest _ _ => some []
  | .resyncComplete => some [Obj.ARB_MAX_OVERCOMMIT_W, Obj.PTN_RESYNCS, Obj.PTN_RESYNC_REASON, Obj.PTN_RESYNC_STAGE]
  | .faultEvent _ _ _ => some []
  | .fltStatusClear _ _ => some []
  | .fltPartnerClear _ _ => some []
  | .blankingWindowClose _ => some []
  | .injStart _ _ => some [Obj.INJ_COUNT, Obj.INJ_OPEN]
  | .injectionWindowClose => some [Obj.INJ_OPEN]
  | .faultNPulseEnd => some []
  | .dieThermalSample _ => some []
  | .clockLoss => some []
  | .watchdogExpiry _ => some []
  | .fabricLaneDown _ => some []
  | .lane9BlockLock => some []
  | .guardLogFlush _ _ => some [Obj.AGE_PATH_PPM_TO_AGE_EYE_MV, Obj.SPR_ENTRIES]
  | .glClear _ _ => some []
  | .ctrClear _ _ => some []
  | .dtlsHandshake _ _ _ _ => some [Obj.MGMT_AUTH_FAIL]
  | .handshakeTimeout _ => some []
  | .vopOpen _ => some []
  | .vopRead _ _ _ _ _ => some []
  | .vopWrite _ _ _ _ => none
  | .vopReadDomain _ _ _ _ _ _ => some []
  | .vopWriteDomain _ _ _ _ _ => none
  | .vopKeepalive _ => some []
  | .vopClose _ => some []
  | .vopDescribe _ _ _ => some []
  | .notifySend _ _ => some []
  | .reqIdHoldTimeout _ => some []
  | .sessionTimeout _ => some []
  | .mgmtLinkChange _ _ => some []
  | .sessionLinkDown _ => some []
  | .tokenHolderWrite _ _ => some []
  | .tokenLapse => some [Obj.MDL_LOAD_STATE, Obj.TOKEN_LAPSES, Obj.TOKEN_LAST_CAUSE, Obj.UPD_STATE]
  | .stgCommit _ _ => some [Obj.STG_COMMITS, Obj.STG_REFUSALS, Obj.STG_RESULT_CODE, Obj.STG_RESULT_GROUPS,
      Obj.STG_RESULT_INDEX, Obj.STG_RESULT_SUB]
  | .stgDiscard _ _ => some []
  | .commitAckTimeout => some []
  | .stgRestoreDefaults _ _ => none
  | .powerOnReset _ => none
  | .bootComplete _ _ _ => none
  | .imageConfirm => some []
  | .customerImageConfirm => some [Obj.APP_SVN_FLOOR]
  | .guestStartTimeout => some [Obj.APP_RESTARTS]
  | .controlPairLockstep _ => some [Obj.CTL_PAIRS_FAILED]
  | .pairResume => some [Obj.SPR_ENTRIES]
  | .appCoreException => some [Obj.APP_RESTARTS]
  | .guestWatchdogLapse => some [Obj.APP_RESTARTS]
  | .appRestartRequest _ _ => some [Obj.APP_RESTARTS]
  | .updBegin _ => some [Obj.UPD_PARTNER_REASON, Obj.UPD_PARTNER_STATUS]
  | .updEraseComplete => some [Obj.UPD_STATE]
  | .updWindowWrite _ _ _ => some []
  | .updVerify _ => some [Obj.UPD_STATE]
  | .updVerifyComplete => some [Obj.UPD_REFUSAL_CODE, Obj.UPD_REFUSAL_REASON, Obj.UPD_STATE]
  | .updCancel _ => some [Obj.UPD_STATE]
  | .activatePartner _ => some []
  | .activateSelf _ => none
  | .attRequest _ _ _ => some [Obj.AGE_PATH_PPM_TO_AGE_EYE_MV, Obj.ATT_STATE, Obj.SPR_ENTRIES]
  | .attSignComplete => some [Obj.ATT_SIGNED, Obj.ATT_STATE]
  | .ageingMonitor _ _ => some [Obj.AGE_PATH_PPM_TO_AGE_EYE_MV]
  | .auxInputFault _ => some []
  | .auxOvervoltage _ => some []
  | .powerFailWarning => some [Obj.AGE_PATH_PPM_TO_AGE_EYE_MV, Obj.SPR_ENTRIES]
  | .powerRestart => some []
  | .auxInputReturn _ => some []
  | .auxReconnect _ => some []
  | .holdUpEnd => some []
  | .fabricLaneBlockLock _ => some []
  | .clockLockRegained => some []
  | .canBusRecovery _ => some []
  | .backgroundPassComplete _ => some [Obj.ENG_SRAM_CE]
  | .persistentWriteComplete _ _ => some [Obj.AGE_PATH_PPM_TO_AGE_EYE_MV, Obj.SPR_ENTRIES]
  | .allFireHeldStart => some [Obj.CNV_ALLFIRE_COUNT]
  | .cardDownlinkRepeat _ => some []

/-- The key of one of an object's values. -/
def keyOf (d : ObjDef) (k : Nat) : Prop := ∃ i < d.insts, ∃ j < d.subs, k = d.key i j

end Sys2Proof.Safety
end

