-- ==== Sys2Proof/Certificates/Slice0/Obligations.lean ====
section
/-! DEFINITION. The statements about the module: for every family of commands where each command completes and with what
effect, what commands leave alone, and what holds of the block as a whole. -/

open Sys2Proof Sys2Proof.Machine Sys2Proof.Safety

/-! ### Tickets and the arbiter -/

/-- R61, R58, R90, R99, R107, R83: a frame whose bundle has a reason to be discarded only counts it; an accepted bundle
changes nothing outside RUN and DRAIN, and there teaches the tray's address and port. A REQUEST of the step in
progress that it brings takes a queue slot and a place in the ingress order; a RELEASE that has reached its END_BIN
ends its LIVE grant, one of an unknown request is counted; a REPORT sets the power and a lower floor. -/
def Obligations.IngressBundleActs : Prop :=
  (∀ (lane : Fin 8) (macs frame src payload : List Byte) (fcs ok : Bool) (s : State),
    powerless s.m = false → s.m.mode ≠ .boot → bundleOf macs frame s.m = some (src, ok, payload) →
    bundleBad payload (fcs && ok) s.m = some false →
    exec (.ingressBundle lane macs frame fcs) s = .next { s with m := incObj Obj.TKT_BUNDLE_DISCARD s.m }) ∧
  (∀ (lane : Fin 8) (macs frame src payload : List Byte) (fcs ok : Bool) (s : State),
    powerless s.m = false → s.m.mode ≠ .boot → bundleOf macs frame s.m = some (src, ok, payload) →
    bundleBad payload (fcs && ok) s.m = some true →
    exec (.ingressBundle lane macs frame fcs) s = .next { s with m := incObj Obj.TKT_VERSION_DISCARD s.m }) ∧
  (∀ (lane : Fin 8) (macs frame src payload : List Byte) (fcs ok : Bool) (s : State),
    arbRuns s.m = false → bundleOf macs frame s.m = some (src, ok, payload) → bundleBad payload (fcs && ok) s.m = none →
    exec (.ingressBundle lane macs frame fcs) s = .next s) ∧
  (∀ (lane : Fin 8) (macs frame src payload l : List Byte) (t : Nat) (fcs ok : Bool) (s : State),
    BringsTicket macs frame src payload l t fcs ok s → tkKind (beNat l) = 1 → tkStep (beNat l) = s.m.trk.step →
    (requester (tkRid (beNat l)) s.m).slots.length < 4 →
    Completes (.ingressBundle lane macs frame fcs) s fun m =>
      (tray t m).addr = src ∧ (tray t m).port = lane.val ∧
      (tkRid (beNat l), tkSeq (beNat l)) ∈ m.arb.ingress ∧
      (requester (tkRid (beNat l)) m).lastSeq = some (tkSeq (beNat l)) ∧
      ∃ x ∈ (requester (tkRid (beNat l)) m).slots, x.seq = tkSeq (beNat l) ∧ x.st = .waiting
        ∧ x.dp = tf (beNat l) 199 184 ∧ x.eff = tf (beNat l) 183 166 ∧ x.dur = tf (beNat l) 165 148) ∧
  (∀ (lane : Fin 8) (macs frame src payload l : List Byte) (t : Nat) (fcs ok : Bool) (x : Slot) (s : State),
    BringsTicket macs frame src payload l t fcs ok s → tkKind (beNat l) = 2 → tkStep (beNat l) = s.m.trk.step →
    slotOf (tkRid (beNat l)) (tf (beNat l) 199 184) s.m = some x → x.st = .live → tf (beNat l) 183 166 ≤ s.m.trk.bin →
    Completes (.ingressBundle lane macs frame fcs) s fun m =>
      (tray t m).addr = src ∧ (tray t m).port = lane.val ∧
      slotOf (tkRid (beNat l)) (tf (beNat l) 199 184) m = none) ∧
  (∀ (lane : Fin 8) (macs frame src payload l : List Byte) (t : Nat) (fcs ok : Bool) (s : State),
    BringsTicket macs frame src payload l t fcs ok s → tkKind (beNat l) = 2 →
    slotOf (tkRid (beNat l)) (tf (beNat l) 199 184) s.m = none →
    Completes (.ingressBundle lane macs frame fcs) s fun m =>
      (tray t m).addr = src ∧ (tray t m).port = lane.val ∧
      obj Obj.TKT_RELEASE_UNKNOWN m = (obj Obj.TKT_RELEASE_UNKNOWN s.m + 1) % 2 ^ 64) ∧
  (∀ (lane : Fin 8) (macs frame src payload l : List Byte) (t : Nat) (fcs ok : Bool) (s : State),
    BringsTicket macs frame src payload l t fcs ok s → tkKind (beNat l) = 4 →
    Completes (.ingressBundle lane macs frame fcs) s fun m =>
      (tray t m).addr = src ∧ (tray t m).port = lane.val ∧
      (requester (tkRid (beNat l)) m).power = tf (beNat l) 199 184 ∧
      (tf (beNat l) 183 168 < floorOf (tkRid (beNat l)) s.m →
        (requester (tkRid (beNat l)) m).floor = some (tf (beNat l) 183 168)))

/-- R101, R102, R103: a lane that has not acted in this cycle decides the head of its ingress list: VOID for a request
out of its limits, PARK while its grants are stopped (R98), in DRAIN, on a NO_GRANT row, in ride-through and for
want of headroom, a task for the revocation unit where the class preempts, and a GRANT from the effective bin where
ΔP is at most H; a lane that has acted decides nothing. -/
def Obligations.RequestDecisionDecides : Prop :=
  (∀ (lane : Fin 8) (s : State), laneActed lane.val s.m = true → exec (.requestDecision lane) s = .next s) ∧
  (∀ (lane : Fin 8) (rid seq : Nat) (x : Slot) (s : State),
    powerless s.m = false → arbOpen s.m = true → laneActed lane.val s.m = false →
    headFirst lane.val s.m = some (rid, seq) → slotOf rid seq s.m = some x → x.st = .waiting → x.siding = false →
    Completes (.requestDecision lane) s fun t =>
      (rid, seq) ∉ t.arb.ingress ∧
      (s.m.arb.stopped.testBit (rid % 8) = true → Answered 9 rid seq t) ∧
      (s.m.arb.stopped.testBit (rid % 8) = false →
        (x.dp = 0 ∨ 32767 < x.dp ∨ oGet Obj.ARB_MAX_DELTA_P (requester rid s.m).cls 0 s.m < x.dp ∨ s.m.trk.n ≤ x.eff) →
        Answered 0xC rid seq t) ∧
      (s.m.arb.stopped.testBit (rid % 8) = false →
        ¬ (x.dp = 0 ∨ 32767 < x.dp ∨ oGet Obj.ARB_MAX_DELTA_P (requester rid s.m).cls 0 s.m < x.dp ∨ s.m.trk.n ≤ x.eff) →
        (s.m.mode = .drain ∨ rowNoGrant (row (effOf x) s.m) = true ∨ rideThrough s.m = true) → Answered 9 rid seq t) ∧
      (s.m.arb.stopped.testBit (rid % 8) = false →
        ¬ (x.dp = 0 ∨ 32767 < x.dp ∨ oGet Obj.ARB_MAX_DELTA_P (requester rid s.m).cls 0 s.m < x.dp ∨ s.m.trk.n ≤ x.eff) →
        s.m.mode ≠ .drain → rowNoGrant (row (effOf x) s.m) = false → rideThrough s.m = false →
        laneHeadroom (effOf x) s.m < x.dp →
        if oGet Obj.ARB_PREEMPT (requester rid s.m).cls 0 s.m = 1 then (rid, seq) ∈ t.arb.tasks else Answered 9 rid seq t) ∧
      (s.m.arb.stopped.testBit (rid % 8) = false →
        ¬ (x.dp = 0 ∨ 32767 < x.dp ∨ oGet Obj.ARB_MAX_DELTA_P (requester rid s.m).cls 0 s.m < x.dp ∨ s.m.trk.n ≤ x.eff) →
        s.m.mode ≠ .drain → rowNoGrant (row (effOf x) s.m) = false → rideThrough s.m = false →
        x.dp ≤ laneHeadroom (effOf x) s.m →
        Answered 8 rid seq t ∧
        (fltClass 18 s.m < 3 → ∃ y, slotOf rid seq t = some y ∧ y.st = .live ∧ y.bin = effOf x ∧ y.dp = x.dp
          ∧ y.span = spanFor rid x (effOf x) s.m)))

/-- R103 to R105, R109 and R112: an offer moves the lane's round-robin pointer of the class past the requester, and an
entry that does not fit is not offered again until the next rise. The revocation unit takes its oldest preemption
task and answers it: PARK in DRAIN, in ride-through and in a stopped lane, GRANT where ΔP is at most H, and
otherwise one of the two. It takes its oldest fall task and revokes its single candidate. -/
def Obligations.ArbiterUnitsAct : Prop :=
  (∀ (lane : Fin 8) (rid : Nat) (x : Slot) (s : State),
    powerless s.m = false → arbOpen s.m = true → laneActed lane.val s.m = false →
    offerFirst lane.val s.m = some (rid, x) →
    Completes (.sidingOffer lane) s fun t =>
      sget 0 t.arb.pointer (lane.val * 8 + (requester rid s.m).cls) = (rid + 1) % 32768 ∧
      ∀ y, slotOf rid x.seq t = some y → y.ready = false) ∧
  (∀ (rid seq : Nat) (x : Slot) (rest : List (Nat × Nat)) (s : State),
    powerless s.m = false → arbOpen s.m = true → s.m.arb.falls = [] → s.m.arb.tasks = (rid, seq) :: rest →
    slotOf rid seq s.m = some x → x.since < s.m.now →
    Completes .preemptionTask s fun t =>
      (rid, seq) ∉ t.arb.tasks ∧ (Answered 8 rid seq t ∨ Answered 9 rid seq t) ∧
      ((s.m.mode = .drain ∨ rideThrough s.m = true ∨ s.m.arb.stopped.testBit (rid % 8) = true) → Answered 9 rid seq t) ∧
      (s.m.mode ≠ .drain → rideThrough s.m = false → s.m.arb.stopped.testBit (rid % 8) = false →
        x.dp ≤ unitHeadroom (effOf x) s.m → Answered 8 rid seq t)) ∧
  (∀ (q : FallTask) (rest : List FallTask) (rid : Nat) (x y : Slot) (s : State),
    powerless s.m = false → arbOpen s.m = true → s.m.arb.falls = q :: rest → revokeBin s.m < s.m.trk.n →
    (takeUntil q.size (candidates (fun _ y => inForce s.m.trk.bin s.m.trk.n y) s.m)).1 = [(rid, x)] →
    slotOf rid x.seq s.m = some y →
    Completes .fallTask s fun t =>
      t.arb.falls = rest ∧ Answered 0xA rid x.seq t ∧
      ∃ z, slotOf rid x.seq t = some z ∧ z.st = .revoked ∧ z.revBin = revokeBin s.m)

/-- R68, R69, R73, R86: an open answers bundle whose hold is over leaves the open bundles and, unless it has become
empty, joins its port's queue; before that nothing happens. A port sends the bundle of its lowest priority number
with 16 bytes for each answer, and drops it unsent where the tray has no valid key slot. The check after a BRAKE is
made once, and a tray whose power is above its floors by more than the margin counts, one that is not does not. -/
def Obligations.EgressActs : Prop :=
  (∀ (t : Fin 64) (p : Fin 4) (b : OpenBundle) (s : State),
    powerless s.m = false →
    s.m.tk.open_.find? (fun b => decide (b.tray = t.val ∧ b.prio = p.val ∧ b.group = none)) = some b →
    b.first + obj Obj.TKT_EGRESS_HOLD_NS s.m ≤ s.m.now →
    Completes (.egressHoldExpiry t p) s fun m =>
      (∀ c ∈ m.tk.open_, ¬ (c.tray = t.val ∧ c.prio = p.val ∧ c.group = none)) ∧
      m.tk.ready = if b.answers = [] then s.m.tk.ready
        else s.m.tk.ready ++ [⟨(tray t.val s.m).port, p.val, s.m.tk.order, t.val, b.answers⟩]) ∧
  (∀ (t : Fin 64) (p : Fin 4) (b : OpenBundle) (s : State),
    s.m.tk.open_.find? (fun b => decide (b.tray = t.val ∧ b.prio = p.val ∧ b.group = none)) = some b →
    s.m.now < b.first + obj Obj.TKT_EGRESS_HOLD_NS s.m →
    exec (.egressHoldExpiry t p) s = .next s) ∧
  (∀ (port : Fin 8) (b : ReadyBundle) (s : State),
    powerless s.m = false → nextReady port.val s.m = some b → outputs s.m = true → keyValid b.tray s.m ≠ 0 →
    Completes (.egressSend port) s fun m =>
      (∀ c ∈ m.tk.ready, c.order ≠ b.order) ∧ (tray b.tray m).seq = ((tray b.tray s.m).seq + 1) % 65536 ∧
      ∃ bytes, encapsulated port.val b.tray bytes s.m ∈ m.out ∧ bytes.length = 16 + 16 * b.answers.length) ∧
  (∀ (port : Fin 8) (b : ReadyBundle) (s : State),
    powerless s.m = false → nextReady port.val s.m = some b → outputs s.m = true → keyValid b.tray s.m = 0 →
    exec (.egressSend port) s = .next { s with m := { s.m with tk := { s.m.tk with
      ready := s.m.tk.ready.filter fun c => decide (c.order ≠ b.order) } } }) ∧
  (∀ (t : Fin 64) (c : Nat) (r : List Nat) (s : State),
    powerless s.m = false → (tray t.val s.m).checks = c :: r → c ≤ s.m.now →
    Completes (.brakeCheck t) s fun m =>
      (tray t.val m).checks = r ∧
      (tray t.val m).noncomp =
        if keyValid t.val s.m ≠ 0 ∧ trayFloor t.val s.m + obj Obj.TKT_BRAKE_MARGIN_W s.m < feederPower t.val s.m
        then ((tray t.val s.m).noncomp + 1) % 2 ^ 32 else (tray t.val s.m).noncomp)

/-! ### Step phase and the timetable -/

/-- R25, R28: a load event disarms the detector, and in SEARCH and APERIODIC, with source 1, it begins a 64 µs step of
TRACK at the instant of the sample less the learned offset; with source 0, or where the latest sample does not
cross, nothing happens. -/
def Obligations.LoadEventActs : Prop :=
  (∀ (a x : Nat) (l : List (Nat × Nat)) (s : State), powerless s.m = false → tracking s.m = true → obj Obj.TRK_SOURCE s.m ≠ 0 →
    s.m.grd.agg = (a, x) :: l → crossed x s.m = true →
    Completes .loadEvent s fun t => t.trk.armed = false) ∧
  (∀ (a x : Nat) (l : List (Nat × Nat)) (s : State), powerless s.m = false → tracking s.m = true → obj Obj.TRK_SOURCE s.m = 1 →
    s.m.grd.agg = (a, x) :: l → crossed x s.m = true →
    (s.m.trk.st = .search ∨ s.m.trk.st = .aperiodic) → farEnough (a - s.m.trk.offset) s.m = true →
    Completes .loadEvent s fun t => t.trk.st = .track ∧ t.trk.bin = 0 ∧ t.trk.n = 262144 ∧ t.trk.wCode = 7
      ∧ t.trk.wrapT = ((a : Int) - s.m.trk.offset).toNat) ∧
  (∀ (a x : Nat) (l : List (Nat × Nat)) (s : State), s.m.grd.agg = (a, x) :: l →
    (obj Obj.TRK_SOURCE s.m = 0 ∨ crossed x s.m = false) → exec .loadEvent s = .next s)

/-- R28, R30, R32: SEARCH without an event for its limit becomes APERIODIC, and nothing happens before; a window of
LOCKED that closes without an event begins HOLDOVER, one of HOLDOVER counts a further miss, one with an event held
in it is LOCKED on that event; a stretched step of TRACK whose window closes without an event begins SEARCH.
TRACKER_UNLOCK latches where the SEARCH limit and the first miss say so. -/
def Obligations.TrackerTimersAct : Prop :=
  (∀ (s : State), powerless s.m = false → s.m.trk.st = .search → (s.m.mode = .run ∨ s.m.mode = .drain) →
    s.m.role ≠ .standby → s.m.trk.enteredAt + obj Obj.TRK_SEARCH_LIMIT_S s.m * 1000000000 ≤ s.m.now →
    Completes .trkSearchLimit s fun t => t.trk.st = .aperiodic ∧ t.trk.enteredAt = s.m.now
      ∧ (blanked 20 s.m = false → Latched 20 t)) ∧
  (∀ (s : State), s.m.now < s.m.trk.enteredAt + obj Obj.TRK_SEARCH_LIMIT_S s.m * 1000000000 →
    exec .trkSearchLimit s = .next s) ∧
  (∀ (s : State) (c : Nat), powerless s.m = false → tracking s.m = true → s.m.trk.st = .locked → s.m.trk.capClose = some c →
    c ≤ s.m.now → s.m.trk.heldLast = none →
    Completes .captureWindowClose s fun t => t.trk.st = .holdover ∧ t.trk.missed = 1 ∧ t.trk.capClose = none
      ∧ (blanked 20 s.m = false → Latched 20 t)) ∧
  (∀ (s : State) (c : Nat), powerless s.m = false → tracking s.m = true → s.m.trk.st = .holdover → s.m.trk.capClose = some c →
    c ≤ s.m.now → s.m.trk.heldLast = none →
    exec .captureWindowClose s = .next { s with m := { s.m with trk := { s.m.trk with
      missed := s.m.trk.missed + 1
      capClose := none
      toAper := decide (obj Obj.TRK_HOLDOVER_MAX s.m < s.m.trk.missed + 1) } } }) ∧
  (∀ (s : State) (c : Nat) (e : Int), powerless s.m = false → tracking s.m = true →
    (s.m.trk.st = .locked ∨ s.m.trk.st = .holdover) → s.m.trk.capClose = some c → c ≤ s.m.now → s.m.trk.heldLast = some e →
    Completes .captureWindowClose s fun t => t.trk.st = .locked ∧ t.trk.missed = 0 ∧ t.trk.lastEvt = some e
      ∧ t.trk.err = e - s.m.trk.wrapT ∧ t.trk.capClose = none) ∧
  (∀ (s : State), powerless s.m = false → tracking s.m = true → s.m.trk.st = .track → s.m.trk.period ≠ 0 →
    s.m.trk.stretch = true → predicted s.m + captureNs s.m ≤ s.m.now → s.m.trk.held = none →
    Completes .captureWindowClose s fun t => t.trk.st = .search ∧ t.trk.bin = 0 ∧ t.trk.wrapT = s.m.now)

/-- R29, R49, R17, R40: the end of the last bin begins the next step, in bin 0, at the instant at which the bin ended;
the end of any other bin begins the next bin, with a correction that was waiting for it. R46, R48, R370: a page of
the engine whose rows and header are valid is committed, one that is not is left open with its refusal; the page of
a COMMIT is committed with it, and the COMMIT answered; the copy after a swap leaves the shadow page open with the
live page's rows. -/
def Obligations.BoundaryAndPagesAct : Prop :=
  (∀ (s : State) (t' : Tracker) (rebin unlock : Bool), powerless s.m = false → tracking s.m = true →
    s.m.trk.bin + 1 = s.m.trk.n → s.m.trk.nextT ≤ s.m.now * 2 ^ 14 → s.m.trk.stretch = false →
    naturalWrap s.m = some (t', rebin, unlock) →
    Completes .stepBoundary s fun t => t.trk = t' ∧ t.trk.bin = 0 ∧ t.trk.binT = s.m.trk.nextT
      ∧ t.trk.wrapT = s.m.trk.nextT / 2 ^ 14 ∧ t.trk.step = (s.m.trk.adopt.getD (s.m.trk.step + 1)) % 65536
      ∧ t.trk.nextT = t.trk.binT + t.trk.d) ∧
  (∀ (s : State), powerless s.m = false → tracking s.m = true →
    s.m.trk.bin + 1 = s.m.trk.n → s.m.trk.nextT ≤ s.m.now * 2 ^ 14 → s.m.trk.stretch = false → naturalWrap s.m = none →
    exec .stepBoundary s = .next { s with m := { s.m with trk := { s.m.trk with stretch := true } } }) ∧
  (∀ (s : State), powerless s.m = false → tracking s.m = true →
    s.m.trk.bin + 1 < s.m.trk.n → s.m.trk.nextT ≤ s.m.now * 2 ^ 14 →
    Completes .binEnd s fun t => t.trk = { s.m.trk with
        bin := s.m.trk.bin + 1
        binT := s.m.trk.nextT
        nextT := s.m.trk.nextT + s.m.trk.d }
      ∧ t.arb.corr = s.m.arb.corrNext.getD s.m.arb.corr ∧ t.arb.corrNext = none) ∧
  (∀ (s : State), powerless s.m = false → s.m.tt.valid = some 0 →
    validatePage { s.m with tt := { s.m.tt with valid := none } } = none →
    Completes .pageValidationComplete s fun t => t.tt.valid = none ∧ t.tt.shadow = .committed ∧ t.eng.own = true
      ∧ livePage t = livePage s.m
      ∧ shadowPage t = { shadowPage s.m with seq := ((shadowPage s.m).seq + 1) % 2 ^ 32 }) ∧
  (∀ (s : State) (c r : Nat), powerless s.m = false → s.m.tt.valid = some 0 →
    validatePage { s.m with tt := { s.m.tt with valid := none } } = some (c, r) →
    Completes .pageValidationComplete s fun t => t.tt.valid = none ∧ t.tt.shadow = .opened
      ∧ livePage t = livePage s.m ∧ shadowPage t = shadowPage s.m ∧ (blanked 21 s.m = false → Latched 21 t)) ∧
  (∀ (m k reqId mask : Nat) (q : Mach) (s : State), powerless s.m = false → s.m.tt.valid = some (m + 1) →
    s.m.mg.waiting = some (k, reqId, mask) →
    q = { s.m with tt := { s.m.tt with valid := none }, mg := { s.m.mg with waiting := none } } →
    lapseDue q = none → q.mg.holder = m + 1 → (session k q).st = 2 → (session k q).mgr = m + 1 → (session k q).held = [] →
    commitFail mask q.mg.staged q = none → validatePage (withHeader q) = none →
    Completes .pageValidationComplete s fun t => t.tt.valid = none ∧ t.tt.shadow = .committed ∧ t.mg.waiting = none
      ∧ ∃ b, .vop k b ∈ t.out) ∧
  (∀ (s : State), powerless s.m = false → s.m.tt.shadow = .copying →
    Completes .shadowCopyComplete s fun t => t.tt.shadow = .opened ∧ shadowPage t = livePage s.m
      ∧ livePage t = livePage s.m)

/-! ### Writes of the ticket, arbiter and converter objects -/

/-- R85, R71, R120, R119, R149, R123, R132: what the accepted writes of the ticket, arbiter and converter objects do. -/
def Obligations.TicketAndConverterWritesAct : Prop :=
  (∀ (r : Req) (v : BitVec 64) (k : Fin 64) (s : State), Admitted r 0x210C 0 0 (toBytes 8 v.toNat) s →
    v.toNat.testBit k.val = true → keyValid k.val s.m ≠ 0 →
    Completes (.tktBrakeRequest r v) s fun t => (tray k.val t).holdStep = some s.m.trk.step ∧ s.m.tk.brakes < t.tk.brakes) ∧
  (∀ (r : Req) (k : Fin 64) (s : State), Admitted r (0x2140 + k.val) 7 0 (toBytes 1 1) s →
    Completes (.traySeqReset r k 1) s fun t => ∀ p ∈ t.arb.reqs, trayOf p.1 = k.val → p.1 < 32768 → p.2.lastSeq = none) ∧
  (∀ (r : Req) (s : State), Admitted r 0x2231 0 0 (toBytes 1 1) s →
    Completes (.arbCounterClear r 1) s fun t => t.arb.clearCtr = true) ∧
  (∀ (r : Req) (off : BitVec 64) (data : List Byte) (i w : Nat) (s : State), Admitted r 0x3030 0 off.toNat data s →
    (entriesOf off.toNat data) = [(i, w)] →
    Completes (.reqTableWindowWrite r off data) s fun t =>
      (2, ObjVal.req i (w / 2 ^ 253) (w / 2 ^ 235 % 2 ^ 18)) ∈ t.mg.staged ∧ t.arb = s.m.arb) ∧
  (∀ (r : Req) (v : BitVec 32) (c : Fin 25) (s : State), Admitted r 0x2330 5 0 (toBytes 4 v.toNat) s →
    v.toNat.testBit c.val = true →
    Completes (.cnvCardReadmit r v) s fun t => (card c.val t).readmit = true) ∧
  (∀ (r : Req) (v : BitVec 16) (s : State), Admitted r 0x2301 0 0 (toBytes 2 v.toNat) s →
    Completes (.cnvPwmPeriodWrite r v) s fun t =>
      ∃ p ∈ t.mg.pend, p.mask = 64 ∧ p.vals = [(6, .scalar (Obj.CNV_PWM_PERIOD.key 0 0) v.toNat)]) ∧
  (∀ (r : Req) (v : BitVec 32) (s : State), Admitted r 0x2302 1 0 (toBytes 4 v.toNat) s →
    Completes (.cnvBusSetWrite r v) s fun t =>
      ∃ p ∈ t.mg.pend, p.mask = 64 ∧ p.vals = [(6, .scalar (Obj.CNV_BUS_SET_MV.key 0 0) v.toNat)])

/-! ### The storage converter -/

/-- R123, R131: a compute point that is due takes the next frame number and places the frame's start on the grid; before
it is due nothing happens. R137, R143, R144, R135: the phases' own transitions: DIODE back to WORKING, WORKING to
WARM_SHED, WARM_SHED to COLD_SHED, COLD_SHED to WARM_SHED; and a bank's exhausted overload credit lowers its limit.
-/
def Obligations.FramesAndPhasesAct : Prop :=
  (∀ (s : State), powerless s.m = false → s.m.mode ≠ .boot → nextFrameAt s.m ≤ s.m.now * 8 + 8000 → replaced s.m = false →
    s.m.ptn.switchAt = none →
    Completes .pwmComputePoint s fun t => t.cnv.k = (s.m.cnv.k + 1) % 2 ^ 32 ∧ t.cnv.frameAt = nextFrameAt s.m
      ∧ t.cnv.downNo = t.cnv.k % 65536) ∧
  (∀ (s : State), s.m.now * 8 + 8000 < nextFrameAt s.m → exec .pwmComputePoint s = .next s) ∧
  (∀ (p : Fin 100) (s : State), powerless s.m = false → followsLoop s.m = false → (phase p.val s.m).st = .diode →
    (phase p.val s.m).missing = false → computeDue s.m = true →
    (measMa p.val s.m ≤ (obj Obj.CNV_BRAKE_EXIT_MA s.m : Int) ∨ obj Obj.CNV_BRAKE_MAX_FRAMES s.m ≤ (phase p.val s.m).dFrames) →
    Completes (.diodeExit p) s fun t => (phase p.val t).st = .working ∧ (phase p.val t).dFrames = 0
      ∧ (phase p.val t).iPrev = measMa p.val s.m
      ∧ ∀ q, q ≠ p.val → phase q t = phase q s.m) ∧
  (∀ (deep : Bool) (p : Nat) (s : State), powerless s.m = false → followsLoop s.m = false → s.m.cnv.st = .regulate →
    (phasesIn deep .working s.m).getLast? = some p → obj Obj.CNV_SHED_DWELL s.m ≤ (bankReg deep s.m).dwell →
    nNeed deep s.m < nWork deep s.m → rowShed (frameRow s.m) = true → (bankReg deep s.m).shedAt ≠ s.m.cnv.k →
    Completes (.phaseShed deep) s fun t => (phase p t).st = .warmShed ∧ (phase p t).wEntry = s.m.cnv.k
      ∧ (bankReg deep t).shedAt = s.m.cnv.k ∧ ∀ q, q ≠ p → phase q t = phase q s.m) ∧
  (∀ (p : Fin 100) (s : State), powerless s.m = false → followsLoop s.m = false → (phase p.val s.m).st = .warmShed →
    obj Obj.CNV_WARM_HOLD s.m ≤ (phase p.val s.m).wFrames →
    Completes (.warmHoldExpiry p) s fun t => (phase p.val t).st = .coldShed ∧ ∀ q, q ≠ p.val → phase q t = phase q s.m) ∧
  (∀ (p : Fin 100) (a : Nat) (s : State), powerless s.m = false → followsLoop s.m = false → (phase p.val s.m).st = .coldShed →
    (phase p.val s.m).idleAt = some a → a + obj Obj.CNV_COLD_WAKE_US s.m * 1000 ≤ s.m.now →
    Completes (.coldWakeExpiry p) s fun t => (phase p.val t).st = .warmShed ∧ (phase p.val t).wEntry = s.m.cnv.k
      ∧ ∀ q, q ≠ p.val → phase q t = phase q s.m) ∧
  (∀ (deep : Bool) (s : State), powerless s.m = false → followsLoop s.m = false → (bankReg deep s.m).credit = 0 →
    Completes (.overloadCreditExhausted deep) s fun t =>
      (bankReg deep t).lim = min (bankReg deep s.m).lim (bankLimit deep s.m) ∧ bankReg (!deep) t = bankReg (!deep) s.m)

/-- R421, R422, R236: a sense frame advances the set number, dates the set 1 µs back and brings its valid channels'
samples; a watched channel without a sample for 3 µs counts as missing and asserts the sense-link line. R129, R147:
an uplink frame whose CHECK fails counts toward the third in a row, which loses the card; a good one brings the
card's data; a silent card's link is lost. -/
def Obligations.SenseAndCardLinksAct : Prop :=
  (∀ (frame : BitVec 336) (s : State), powerless s.m = false → s.m.mode ≠ .boot →
    Completes (.senseFrame frame) s fun t => t.cnv.setNo = nextSetNo frame.toNat s.m ∧
      (followsLoop s.m = false → t.cnv.setAt = s.m.now - 1000 ∧ ∀ c < 16, ∀ x, (frameSamples frame.toNat s.m).getD c none = some x →
        sget 0 t.cnv.chan c = x)) ∧
  (∀ (ch : Fin 16) (s : State), powerless s.m = false → followsLoop s.m = false → s.m.ptn.executing = false →
    s.m.mode ≠ .boot → (watched s.m).contains ch.val = true →
    max (sget 0 s.m.cnv.lastAt ch.val) s.m.gl.upAt + 3000 ≤ s.m.now →
    Completes (.senseTimeout ch) s fun t => sget 0 t.cnv.missing ch.val = 1 ∧ t.fc.lines.testBit 48 = true) ∧
  (∀ (c : Fin 25) (frame : BitVec 128) (s : State), powerless s.m = false → s.m.mode ≠ .boot → followsLoop s.m = false →
    s.m.ptn.claimAt = none → s.m.ptn.switchAt = none → ¬ (frame.toNat / 2 ^ 124 = 1 ∧ frame.toNat % 65536 = crc16 ((toBytes 16 frame.toNat).take 14)) →
    Completes (.cardUplink c frame) s fun t =>
      (card c.val t).badRun = min 3 ((card c.val s.m).badRun + 1) ∧
      (2 ≤ (card c.val s.m).badRun → (card c.val t).fitted = false)) ∧
  (∀ (c : Fin 25) (frame : BitVec 128) (s : State), powerless s.m = false → s.m.mode ≠ .boot → followsLoop s.m = false →
    s.m.ptn.claimAt = none → s.m.ptn.switchAt = none →
    frame.toNat / 2 ^ 124 = 1 → frame.toNat % 65536 = crc16 ((toBytes 16 frame.toNat).take 14) →
    Completes (.cardUplink c frame) s fun t =>
      (card c.val t).badRun = 0 ∧ (card c.val t).lastUp = s.m.now ∧ (card c.val t).temp = frame.toNat / 2 ^ 104 % 256
        ∧ (card c.val t).sampleNo = frame.toNat / 2 ^ 96 % 256 ∧ (card c.val t).sampleAt = s.m.now - 1000
        ∧ (card c.val t).fitted = decide (frame.toNat / 2 ^ 27 % 32 = c.val)) ∧
  (∀ (c : Fin 25) (s : State), powerless s.m = false → followsLoop s.m = false → (card c.val s.m).fitted = true →
    (3 ≤ (card c.val s.m).badRun ∨ (card c.val s.m).lastUp + 30000 ≤ s.m.now) →
    Completes (.cardLinkLoss c) s fun t => (card c.val t).fitted = false ∧ (card c.val t).linkBad = true)

/-- R138, R140, R307: an all-fire frame held behind a separation begins when it is due and latches ALL_FIRE, and, where
the class of that bit is below C3, it is in progress from the end of the separation; it ends with the grid restarted
at its end; a downlink owed in the middle of a long frame is repeated. -/
def Obligations.AllFireAndDownlinksAct : Prop :=
  (∀ (s : State), powerless s.m = false → followsLoop s.m = false → s.m.cnv.fire.active = true →
    s.m.cnv.fire.ends ≤ s.m.now * 8 →
    Completes .allFireEnd s fun t => t.cnv.fire.active = false ∧ t.cnv.frameAt = s.m.cnv.fire.ends) ∧
  (∀ (s : State), powerless s.m = false → followsLoop s.m = false → s.m.cnv.fire.held = true → s.m.cnv.fire.active = false →
    s.m.cnv.fire.sepEnd ≤ s.m.now * 8 → s.m.cnv.st = .regulate →
    Completes .allFireHeldStart s fun t => (blanked 6 s.m = false → Latched 6 t) ∧
      t.cnv.frameAt = s.m.cnv.fire.sepEnd ∧ t.cnv.fire.held = false ∧
      (fltClass 6 s.m < 3 → t.cnv.fire.active = true ∧ t.cnv.fire.ends = s.m.cnv.fire.sepEnd + frameLen s.m)) ∧
  (∀ (c : Fin 25) (s : State), powerless s.m = false → s.m.mode ≠ .boot → 16000 < s.m.cnv.period →
    s.m.cnv.frameAt + frameLen s.m / 2 ≤ s.m.now * 8 → s.m.ptn.gate = false →
    exec (.cardDownlinkRepeat c) s = .next { s with m := { s.m with
      out := .card c.val (cardFrame c.val (decide (s.m.cnv.st = .safe)) s.m) :: s.m.out } })

/-- R151, R153, R254: REGULATE is entered once the bus has settled; 256 idle samples correct a phase's offset; a whole
sequence adds to its card's sums and frees the background activity of the day; the sums of enough sequences are
cleared, and their estimates are kept or discarded and counted so; a day without a sequence asserts the background
line. -/
def Obligations.CalibrationActs : Prop :=
  (∀ (s : State), powerless s.m = false → followsLoop s.m = false → s.m.mode = .start → s.m.cnv.st = .track →
    s.m.bnk.st = .ready → 100 ≤ s.m.cnv.settled →
    Completes .cnvRegulateEntry s fun t => t.cnv.st = .regulate ∧ t.cnv.cal.lastDone = s.m.now
      ∧ (t.fdr.seq = .privileged ∨ t.fdr.seq = .ordinary)) ∧
  (∀ (p : Fin 100) (s : State), powerless s.m = false → followsLoop s.m = false → 256 ≤ (phase p.val s.m).offN →
    Completes (.calOffset p) s fun t =>
      (phase p.val t).offs = -(tdiv (phase p.val s.m).offSum (phase p.val s.m).offN) ∧ (phase p.val t).offN = 0) ∧
  (∀ (c : Fin 25) (s : State), powerless s.m = false → c.val = s.m.cnv.cal.card → 127 ≤ s.m.cnv.cal.frames.length →
    Completes (.calSequenceComplete c) s fun t => t.cnv.cal.frames = [] ∧ t.cnv.cal.lastDone = s.m.now
      ∧ sget 0 t.cnv.cal.seqs c.val = sget 0 s.m.cnv.cal.seqs c.val + 1 ∧ t.bnk.calLate = false) ∧
  (∀ (c : Fin 25) (s : State), powerless s.m = false → obj Obj.EST_CAL_SEQ s.m ≤ sget 0 s.m.cnv.cal.seqs c.val →
    drives s.m = true →
    Completes (.calEstimate c) s fun t => sget 0 t.cnv.cal.seqs c.val = 0 ∧
      ((t.cnv.cal.updates = s.m.cnv.cal.updates ∧ obj Obj.EST_CAL_DISCARDS t = (obj Obj.EST_CAL_DISCARDS s.m + 1) % 2 ^ 32) ∨
        (s.m.cnv.cal.updates.length < t.cnv.cal.updates.length ∧
          obj Obj.EST_CAL_UPDATES t = (obj Obj.EST_CAL_UPDATES s.m + 1) % 2 ^ 32))) ∧
  (∀ (s : State), powerless s.m = false → s.m.cnv.cal.lastDone + 86400 * 1000000000 ≤ s.m.now →
    Completes .calibrationStarved s fun t => t.bnk.calLate = true ∧ t.fc.lines.testBit 51 = true)

/-! ### The engine, its memories and the Long Record -/

/-- R167 to R170, R226: a tick of the grid starts with a snapshot and not before its instant; a publication in time
marks the tick done and, on the module that drives, hands the correction to the arbiter's next bin: the reserve
model's own plan, one of at most 0 W in warm-up, or the published one; a late one is ignored; an unfinished tick is
dropped at its end; rows that waited for the shadow page are released, or discarded by R169. R159, R160: a stream
descriptor with reserved bits has no effect; one that no certified schedule holds is answered FAULT; any other
leaves a completion record of its coach and identifier, and a read of a signature entry puts it into coach SRAM. -/
def Obligations.EngineTicksAndDescriptorsAct : Prop :=
  (∀ (s : State) (a : Nat), powerless s.m = false → s.m.eng.nextAt = some a → engRuns s.m = true → s.m.eng.active ≠ 0 →
    s.m.eng.suspended = false → s.m.eng.copying = false → a ≤ s.m.now →
    Completes .forecastTickStart s fun t => t.eng.nextAt = some (a + tickNs s.m) ∧ t.eng.done = [] ∧
      ∃ q, t.eng.tick = some q ∧ q.start = a ∧ q.stop = a + tickNs s.m ∧ q.done = false ∧ q.dead = false ∧ q.rows = []
        ∧ (s.m.eng.tick = none → q.snap = snapshot s.m ∧ q.mute = !drives s.m)) ∧
  (∀ (s : State) (a : Nat), s.m.eng.nextAt = some a → s.m.now < a → exec .forecastTickStart s = .next s) ∧
  (∀ (corr : BitVec 32) (chans : List (Fin 256 × BitVec 32)) (st : List Byte) (q : Tick) (s : State),
    powerless s.m = false → s.m.eng.tick = some q → q.done = false → q.dead = false → s.m.now < q.stop → engRuns s.m = true →
    Completes (.tickPublication corr chans st) s fun t => t.eng.state = st ∧ (∃ p, t.eng.tick = some p ∧ p.done = true) ∧
      t.arb.corrNext =
        if drives s.m = true ∧ q.mute = false then
          some (clampCorr (if s.m.eng.active = 2 then reserveCorr q s.m
            else if 0 < s.m.eng.warm then min (corrOf corr.toNat) 0 else corrOf corr.toNat) s.m)
        else s.m.arb.corrNext) ∧
  (∀ (corr : BitVec 32) (chans : List (Fin 256 × BitVec 32)) (st : List Byte) (q : Tick) (s : State),
    s.m.eng.tick = some q → q.stop ≤ s.m.now → exec (.tickPublication corr chans st) s = .next s) ∧
  (∀ (q : Tick) (s : State), powerless s.m = false → s.m.eng.tick = some q → q.stop ≤ s.m.now →
    Completes .tickAbandon s fun t => t.eng.tick = none ∧
      (engRuns s.m = true → q.done = false → blanked 22 s.m = false → Latched 22 t) ∧
      (engRuns s.m = true → q.done = false → q.dead = false →
        obj Obj.ENG_TICKS_ABANDONED t = (obj Obj.ENG_TICKS_ABANDONED s.m + 1) % 2 ^ objBits Obj.ENG_TICKS_ABANDONED)) ∧
  (∀ (q : Tick) (s : State), powerless s.m = false → s.m.eng.held = some q → s.m.tt.shadow = .opened →
    Completes .rowRelease s fun t => t.eng.held = none ∧
      (rowsDiscarded q s.m = true → (shadowPage t).rows = (shadowPage s.m).rows) ∧
      (rowsDiscarded q s.m = false → ∀ b r, q.rows = [(b, r)] → b < 262144 →
        sget rowReset (shadowPage t).rows b = rowChecked r)) ∧
  (∀ (c : Fin 64) (d : BitVec 256) (ue : Option UeMet) (ops : List EngOp) (s : State),
    descReserved d.toNat = true → exec (.streamDescriptorComplete c d ue ops) s = .next s) ∧
  (∀ (c : Fin 64) (d : BitVec 256) (ue : Option UeMet) (ops : List EngOp) (s : State),
    powerless s.m = false → descReserved d.toNat = false → descOutside d.toNat s.m = true →
    exec (.streamDescriptorComplete c d ue ops) s = .next { s with m := complete c.val (descId d.toNat) 3 0 0 s.m }) ∧
  (∀ (c : Fin 64) (d : BitVec 256) (ue : Option UeMet) (ops : List EngOp) (s : State),
    powerless s.m = false → descReserved d.toNat = false →
    Completes (.streamDescriptorComplete c d ue ops) s fun t =>
      ∃ q ∈ t.eng.done, q.coach = c.val ∧ q.id = descId d.toNat) ∧
  (∀ (c : Fin 64) (d : BitVec 256) (q : Tick) (s : State),
    powerless s.m = false → descReserved d.toNat = false → descOutside d.toNat s.m = false →
    s.m.eng.tick = some q → q.dead = false → q.done = false → s.m.now < q.stop →
    descKind d.toNat = 4 → descCount d.toNat = 1 → descRows d.toNat = 1 →
    Completes (.streamDescriptorComplete c d none []) s fun t =>
      t.eng.done = ⟨c.val, descId d.toNat, 0, 0, 0⟩ :: s.m.eng.done ∧
      sgetRun 0 t.eng.sram (c.val * 2 ^ 22 + descPlace d.toNat 0) 4
        = toBytes 4 (sget sigUnknown s.m.sig.tab (descItem d.toNat 0)))

/-- R174 to R177: carts and coaches that fail are noted, a spare that fails unused is only reported, a self-test keeps
its outcome; an error in an SRAM of the engine is counted, the word of a coach is invalid, the line of the Depot
gone. R163, R164, R200, R204: an uncorrectable HBM error is counted, its row is to be repaired, and what the word
held is lost or restored; correctable errors are counted and rows due repaired in bins with MAINT; a failed pseudo-
channel takes its stack's spare, its Long Record slots become lost blocks and a restore begins, which ends with its
own command; a lost timetable row is synthesised on the live page and copied from it, or reset, on the shadow page.
-/
def Obligations.CoachAndMemoryEventsAct : Prop :=
  (∀ (c : Fin 64) (k : Fin 33) (s : State), powerless s.m = false → (coach c.val s.m).failed.testBit k.val = false →
    (coach c.val s.m).removed = false →
    Completes (.cartFailure c k) s fun t => (coach c.val t).failed.testBit k.val = true
      ∧ (k.val = 32 → (coach c.val s.m).spareFor = 0x3F → blanked 24 s.m = false → Latched 24 t)
      ∧ (¬ (k.val = 32 ∧ (coach c.val s.m).spareFor = 0x3F) → k.val ∈ (coach c.val t).due
          ∧ (blanked 23 s.m = false → Latched 23 t))
      ∧ ∀ x, x ≠ c.val → coach x t = coach x s.m) ∧
  (∀ (c : Fin 64) (k : Fin 33) (pass : Bool) (s : State), powerless s.m = false → obj Obj.ENG_SELFTEST_ENABLE s.m ≠ 0 →
    (coach c.val s.m).removed = false → (coach c.val s.m).failed.testBit k.val = false →
    rowMaint (row s.m.trk.bin s.m) = true →
    Completes (.cartSelftest c k pass) s fun t => (coach c.val t).lastFail.testBit k.val = !pass ∧
      (coach c.val t).failed.testBit k.val = (!pass && (coach c.val s.m).lastFail.testBit k.val)) ∧
  (∀ (c : Fin 64) (s : State), powerless s.m = false → (coach c.val s.m).removed = false → (coach c.val s.m).dueGone = false →
    Completes (.coachmanLockstep c) s fun t => (coach c.val t).dueGone = true ∧ (blanked 34 s.m = false → Latched 34 t)) ∧
  (∀ (c : Fin 64) (k : Fin 524288) (used : Bool) (s : State), powerless s.m = false →
    Completes (.engineSramUe (.sram c k) used) s fun t =>
      obj Obj.ENG_SRAM_UE t = (obj Obj.ENG_SRAM_UE s.m + 1) % 2 ^ objBits Obj.ENG_SRAM_UE ∧
      (coach c.val t).sramUe = (coach c.val s.m).sramUe + 1 ∧
      sget false t.eng.sramBad (c.val * 2 ^ 19 + k.val) = true ∧ (blanked 23 s.m = false → Latched 23 t)) ∧
  (∀ (line : BitVec 29) (used : Bool) (s : State), powerless s.m = false →
    Completes (.engineSramUe (.depot line) used) s fun t =>
      obj Obj.ENG_SRAM_UE t = (obj Obj.ENG_SRAM_UE s.m + 1) % 2 ^ objBits Obj.ENG_SRAM_UE ∧
      depotHit line.toNat t = none ∧ (blanked 23 s.m = false → Latched 23 t)) ∧
  (∀ (hit : HbmHit) (row : HbmRow) (s : State), powerless s.m = false → (∀ c, hit ≠ .ingest c) →
    Completes (.hbmUe ⟨hit, row⟩) s fun t =>
      obj Obj.ENG_HBM_UE t = (obj Obj.ENG_HBM_UE s.m + 1) % 2 ^ objBits Obj.ENG_HBM_UE ∧
      (blanked 25 s.m = false → Latched 25 t) ∧
      (repairsLeft row.pch.val s.m ≠ 0 → row.pch.val * 2 ^ 32 + row.row.toNat ∈ t.eng.repairDue) ∧
      (∀ tr b, hit = .signature tr b → sget sigUnknown t.sig.tab (sigKey tr.val b.val) = sigUnknown) ∧
      (hit = .adaptation false → t.ldr.cand = none) ∧
      (hit = .adaptation true → t.ldr.curBuf = 0 ∧ t.ldr.cand = none) ∧
      (hit = .recurrentState → t.eng.state = firstOf 6 s.m.ldr.inUse)) ∧
  (∀ (c : Fin 512) (row : HbmRow) (s : State), powerless s.m = false →
    Completes (.hbmUe ⟨.ingest c, row⟩) s fun t => (lrChan c.val t).lost = true ∧ (blanked 27 s.m = false → Latched 27 t)) ∧
  (∀ (pch : Fin 128) (r : BitVec 32) (s : State), powerless s.m = false →
    Completes (.hbmCorrectableError pch r) s fun t =>
      sget 0 t.eng.rowCe (pch.val * 2 ^ 32 + r.toNat) = sget 0 s.m.eng.rowCe (pch.val * 2 ^ 32 + r.toNat) + 1 ∧
      (obj Obj.ENG_ROW_REPAIR_CE s.m ≤ sget 0 s.m.eng.rowCe (pch.val * 2 ^ 32 + r.toNat) + 1 → repairsLeft pch.val s.m ≠ 0 →
        pch.val * 2 ^ 32 + r.toNat ∈ t.eng.repairDue)) ∧
  (∀ (pch : Fin 128) (r : BitVec 32) (s : State), powerless s.m = false → rowMaint (row s.m.trk.bin s.m) = true →
    repairsLeft pch.val s.m ≠ 0 → s.m.eng.repairDue.contains (pch.val * 2 ^ 32 + r.toNat) = true →
    Completes (.hbmRowRepair pch r) s fun t =>
      sget 0 t.eng.repairs pch.val = sget 0 s.m.eng.repairs pch.val + 1 ∧
      sget 0 t.eng.rowCe (pch.val * 2 ^ 32 + r.toNat) = 0 ∧ pch.val * 2 ^ 32 + r.toNat ∉ t.eng.repairDue ∧
      obj Obj.ENG_ROW_REPAIRS t = (obj Obj.ENG_ROW_REPAIRS s.m + 1) % 2 ^ objBits Obj.ENG_ROW_REPAIRS) ∧
  (∀ (pch : Fin 128) (unread : List (BitVec 32)) (s : State), powerless s.m = false →
    Completes (.pseudoChannelFailure ⟨pch, unread⟩) s fun t =>
      (∀ g ∈ unread, g.toNat < 512 * 131072 → sget false t.lr.lost g.toNat = true) ∧
      if s.m.eng.pchUsed.testBit (pch.val / 64) then t.eng.noSpare = true ∧ (blanked 25 s.m = false → Latched 25 t)
      else t.eng.pchUsed.testBit (pch.val / 64) = true ∧ (⟨pch.val, s.m.now⟩ : Restore) ∈ t.eng.restores
        ∧ sget 0 t.eng.pchMap (pch.val + 1) = 1 ∧ (blanked 26 s.m = false → Latched 26 t)) ∧
  (∀ (pch : Fin 128) (s : State), powerless s.m = false →
    s.m.eng.restores.any (fun r => decide (r.pch = pch.val)) = true →
    Completes (.pseudoChannelRestoreComplete pch) s fun t =>
      t.eng.restores = s.m.eng.restores.filter (fun r => decide (r.pch ≠ pch.val)) ∧ sget 0 t.eng.bgAt 4 = s.m.now ∧
      (t.eng.restores = [] → t.eng.restored = true)) ∧
  (∀ (b : Fin 262144) (s : State), powerless s.m = false →
    Completes (.timetableSramUe true b) s fun t => t.tt.bad.contains b.val = true ∧ livePage t = livePage s.m) ∧
  (∀ (b : Fin 262144) (s : State), powerless s.m = false →
    Completes (.timetableSramUe false b) s fun t =>
      sget rowReset (shadowPage t).rows b.val =
        (if b.val < (livePage s.m).count then sget rowReset (livePage s.m).rows b.val else rowReset) ∧
      livePage t = livePage s.m ∧ (s.m.tt.shadow = .committed → t.tt.shadow = .opened))

/-- R173: a finished pass of a background activity dates it, and a scrub of SRAM counts the words it corrected; an
activity more than 86,400 s old asserts BACKGROUND_STARVED's line, a younger one does not change it. R197: 80
samples close a block of their channel in the oldest slot. -/
def Obligations.BackgroundAndLongRecordAct : Prop :=
  (∀ (a : Fin 5) (corrected : List (Option (Fin 64))) (s : State), powerless s.m = false →
    Completes (.backgroundPassComplete ⟨a, corrected⟩) s fun t => sget 0 t.eng.bgAt a.val = s.m.now ∧
      (∀ q, a.val = 1 → corrected = [q] → obj Obj.ENG_SRAM_CE t = (obj Obj.ENG_SRAM_CE s.m + 1) % 2 ^ objBits Obj.ENG_SRAM_CE)) ∧
  (∀ (a : Fin 5) (s : State), powerless s.m = false → 86400 < bgAge a.val s.m →
    Completes (.backgroundStarved a) s fun t => t.fc.lines.testBit 52 = true) ∧
  (∀ (a : Fin 5) (s : State), bgAge a.val s.m ≤ 86400 → exec (.backgroundStarved a) s = .next s) ∧
  (∀ (c : Fin 512) (s : State), powerless s.m = false → 80 ≤ (lrChan c.val s.m).buf.length →
    Completes (.longRecordBlockClose c) s fun t => (lrChan c.val t).blocks = (lrChan c.val s.m).blocks + 1 ∧
      (lrChan c.val t).buf = (lrChan c.val s.m).buf.take ((lrChan c.val s.m).buf.length - 80) ∧
      sget 0 t.lr.slots (c.val * 131072 + (lrChan c.val s.m).blocks % 131072) =
        lrEncode (lrChan c.val s.m).k (lrChan c.val s.m).kPrior (lrChan c.val s.m).split (lrChan c.val s.m).blocks
          ((lrChan c.val s.m).buf.reverse.take 80)
          (sget 0 s.m.lr.slots (c.val * 131072 + (lrChan c.val s.m).blocks % 131072)) ∧
      ∀ x, x ≠ c.val → lrChan x t = lrChan x s.m) ∧
  (∀ (c : Fin 512) (s : State), (lrChan c.val s.m).buf.length < 80 → exec (.longRecordBlockClose c) s = .next s)

/-! ### Models -/

/-- Table 8.5, R217, R219, R222: the loader's commands move its state as the table says: BEGIN erases, the erasure's end
opens RECEIVING, windows append, VERIFY and its end lead to VALID or to REFUSED with the reason, SWITCH arms and
CANCEL empties; an end that is not awaited changes nothing. -/
def Obligations.LoaderCommandsAct : Prop :=
  (∀ (r : Req) (s : State), Admitted r 0x2440 0 0 (toBytes 1 1) s → loaderOpen s.m = true → s.m.ldr.erasing = false →
    (loadState s.m = 0 ∨ loadState s.m = 5) → obj Obj.MDL_LOAD_LENGTH s.m ≠ 0 →
    Completes (.mdlBegin r) s fun t => t.ldr.erasing = true ∧ t.ldr.inc = [] ∧ t.ldr.incLen = obj Obj.MDL_LOAD_LENGTH s.m) ∧
  (∀ (s : State), powerless s.m = false → s.m.ldr.erasing = true →
    Completes .mdlEraseComplete s fun t => loadState t = 1 ∧ t.ldr.erasing = false) ∧
  (∀ (s : State), s.m.ldr.erasing = false → exec .mdlEraseComplete s = .next s) ∧
  (∀ (r : Req) (off : BitVec 64) (data : List Byte) (s : State), Admitted r 0x3060 0 off.toNat data s →
    loaderOpen s.m = true → loadState s.m = 1 → off.toNat = s.m.ldr.inc.length → off.toNat + data.length ≤ s.m.ldr.incLen →
    Completes (.mdlLoadWindowWrite r off data) s fun t => t.ldr.inc = s.m.ldr.inc ++ data) ∧
  (∀ (r : Req) (s : State), Admitted r 0x2440 0 0 (toBytes 1 2) s → loaderOpen s.m = true → loadState s.m = 1 →
    s.m.ldr.inc.length = s.m.ldr.incLen →
    Completes (.mdlVerify r) s fun t => loadState t = 2 ∧ t.ldr.at_ = s.m.now) ∧
  (∀ (s : State), powerless s.m = false → loadState s.m = 2 →
    Completes .mdlVerifyComplete s fun t =>
      match incomingFail s.m with
      | none => loadState t = 3
      | some f => loadState t = 5 ∧ obj Obj.MDL_REFUSAL_REASON t = f.reason) ∧
  (∀ (s : State), loadState s.m ≠ 2 → exec .mdlVerifyComplete s = .next s) ∧
  (∀ (r : Req) (s : State), Admitted r 0x2440 0 0 (toBytes 1 3) s → loaderOpen s.m = true → loadState s.m = 3 →
    Completes (.mdlSwitch r) s fun t => loadState t = 4) ∧
  (∀ (r : Req) (s : State), Admitted r 0x2440 0 0 (toBytes 1 4) s → loaderOpen s.m = true → loadState s.m ≠ 0 →
    Completes (.mdlCancel r) s fun t => loadState t = 0 ∧ t.ldr.inc = [])

/-- R223, R229, R231: a copied model image lets the grid go on; an adaptation pass leaves its candidate or counts its
rejection; a revert drops a candidate, and its copy puts the original parameters forward as the next one. -/
def Obligations.AdaptationActs : Prop :=
  (∀ (s : State), powerless s.m = false → s.m.eng.copying = true →
    Completes .modelImageCopyComplete s fun t => t.eng.copying = false ∧ t.eng.nextAt = some s.m.now) ∧
  (∀ (s : State), s.m.eng.copying = false → exec .modelImageCopyComplete s = .next s) ∧
  (∀ (adopt : Bool) (cand : List Byte) (s : State), powerless s.m = false → engRuns s.m = true →
    obj Obj.MDL_ADAPT_ENABLE s.m ≠ 0 → s.m.eng.warm = 0 → s.m.eng.active = 1 → mdlAdaptive s.m.ldr.inUse = true →
    drives s.m = true → s.m.ldr.cand = none → s.m.ldr.revert = false →
    Completes (.adaptPassComplete adopt cand) s fun t => sget 0 t.eng.bgAt 3 = s.m.now ∧
      if adopt then t.ldr.cand = some (padTo (adaptBytes s.m.ldr.inUse) cand) ∧ t.ldr.candAck = false
      else t.ldr.cand = none ∧
        obj Obj.MDL_ADAPT_REJECTED t = (obj Obj.MDL_ADAPT_REJECTED s.m + 1) % 2 ^ objBits Obj.MDL_ADAPT_REJECTED) ∧
  (∀ (r : Req) (s : State), Admitted r 0x2460 3 0 (toBytes 1 1) s → s.m.ldr.loaded = true →
    mdlAdaptive s.m.ldr.inUse = true →
    Completes (.mdlAdaptRevert r 1) s fun t => t.ldr.revert = true ∧ t.ldr.cand = none ∧ t.ldr.candAck = false) ∧
  (∀ (s : State), powerless s.m = false → s.m.ldr.revert = true → s.m.ldr.cand = none →
    Completes .adaptRevertCopyComplete s fun t => t.ldr.cand = some (adaptOriginal s.m) ∧ t.ldr.candAck = false)

/-! ### Banks and charge -/

/-- R235, R236, R265: a monitor's new frame is kept outside BOOT; a monitor that falls silent, a string whose monitors
all are, and a CAN bus in error assert their lines; a recovered bus no longer counts. -/
def Obligations.MonitorsAndBusesAct : Prop :=
  (∀ (k : Fin 4) (m : Fin 20) (frame : BitVec 128) (s : State), powerless s.m = false → s.m.mode ≠ .boot →
    followsLoop s.m = false →
    ¬ ((sget {} s.m.bnk.monitors (20 * k.val + m.val)).seen = true
      ∧ (sget {} s.m.bnk.monitors (20 * k.val + m.val)).frame / 2 ^ 48 % 256 = frame.toNat / 2 ^ 48 % 256) →
    Completes (.monitorFrame k m frame) s fun t =>
      sget {} t.bnk.monitors (20 * k.val + m.val) = { seen := true, lastAt := s.m.now, frame := frame.toNat, silent := false }) ∧
  (∀ (k : Fin 4) (m : Fin 20) (frame : BitVec 128) (s : State), s.m.mode = .boot →
    exec (.monitorFrame k m frame) s = .next s) ∧
  (∀ (k : Fin 4) (m : Fin 20) (s : State), powerless s.m = false → followsLoop s.m = false → s.m.ptn.executing = false →
    obj Obj.BNK_MON_TIMEOUT_MS s.m * 1000000 ≤ monitorAge k.val m.val s.m →
    Completes (.monitorTimeout k m) s fun t =>
      (sget {} t.bnk.monitors (20 * k.val + m.val)).silent = true ∧ t.fc.lines.testBit 47 = true) ∧
  (∀ (k : Fin 4) (s : State), powerless s.m = false → followsLoop s.m = false →
    (∀ m < 20, 1000000000 ≤ monitorAge k.val m s.m) →
    Completes (.stringTimeout k) s fun t => t.bnk.allSilent.testBit k.val = true ∧ t.fc.lines.testBit 14 = true) ∧
  (∀ (b : Fin 2) (s : State), powerless s.m = false →
    Completes (.canBusError b) s fun t => t.grd.canErr.testBit b.val = true ∧
      (s.m.ptn.executing = false → t.fc.lines.testBit (46 + b.val) = true)) ∧
  (∀ (b : Fin 2) (s : State), powerless s.m = false →
    Completes (.canBusRecovery b) s fun t => t.grd.canErr.testBit b.val = false)

/-- R241, R246, R250, R253, R256, R238: a unit's sample that is due ends its interval and dates the next; a unit whose
taper time is over declares; a rest is asked for after 86,400 s of operation, and one asked for as long ago is
overdue; reports slew by one hundredth of a percent in 0.6 s; a precharge that is late fails and stops the start;
lifetime records are updated every 60 s and reset by their write. What is not due changes nothing. -/
def Obligations.EstimatorActs : Prop :=
  (∀ (u : Fin 5) (s : State), powerless s.m = false → s.m.mode ≠ .boot →
    (((unit u.val s.m).started = false ∧ sget 0 s.m.bnk.winN u.val ≠ 0) ∨
      ((unit u.val s.m).started = true ∧ (unit u.val s.m).lastAt + (unit u.val s.m).dt * 1000 ≤ s.m.now)) →
    Completes (.estimatorSample u) s fun t => sget 0 t.bnk.winN u.val = 0 ∧ sget 0 t.bnk.winSum u.val = 0
      ∧ (unit u.val t).started = true
      ∧ (unit u.val t).lastAt = if (unit u.val s.m).started = true
          then (unit u.val s.m).lastAt + (unit u.val s.m).dt * 1000 else s.m.now) ∧
  (∀ (u : Fin 5) (s : State), (unit u.val s.m).started = true →
    s.m.now < (unit u.val s.m).lastAt + (unit u.val s.m).dt * 1000 → exec (.estimatorSample u) s = .next s) ∧
  (∀ (u : Fin 5) (full : Bool) (s : State), powerless s.m = false → taperDue u.val s.m = some full →
    Completes (.taperDeclaration u) s fun t => (unit u.val t).declared = true ∧ (unit u.val t).lastFull = some full) ∧
  (∀ (u : Fin 5) (s : State), taperDue u.val s.m = none → exec (.taperDeclaration u) s = .next s) ∧
  (∀ (deep : Bool) (s : State), restAge deep s.m < 86400 → exec (.restRequest deep) s = .next s) ∧
  (∀ (deep : Bool) (s : State), powerless s.m = false → s.m.bnk.reqBits.testBit (b2n deep) = false →
    86400 ≤ restAge deep s.m →
    Completes (.restRequest deep) s fun t => t.bnk.reqBits.testBit (b2n deep) = true
      ∧ sget 0 t.bnk.reqAt (b2n deep) = opSeconds s.m) ∧
  (∀ (deep : Bool) (s : State), powerless s.m = false → s.m.bnk.reqBits.testBit (b2n deep) = true →
    sget 0 s.m.bnk.reqAt (b2n deep) + 86400 ≤ opSeconds s.m →
    Completes (.restRequestOverdue deep) s fun t => t.bnk.overdue.testBit (b2n deep) = true ∧ t.fc.lines.testBit 51 = true) ∧
  (∀ (u : Fin 5) (s : State), powerless s.m = false → (unit u.val s.m).j ≠ 0 →
    (unit u.val s.m).jAt + 600000000 ≤ s.m.now →
    Completes .reportSlew s fun t => (unit u.val t).j = towardZero (unit u.val s.m).j
      ∧ (unit u.val t).jAt = (unit u.val s.m).jAt + 600000000) ∧
  (∀ (s : State), powerless s.m = false → prechargeLate s.m = true →
    Completes .prechargeTimeout s fun t => t.bnk.st = .failed ∧ t.fc.lines.testBit 13 = true
      ∧ (t.mode = .stop ∨ t.mode = .trip)) ∧
  (∀ (s : State), prechargeLate s.m = false → exec .prechargeTimeout s = .next s) ∧
  (∀ (u : Fin 5) (s : State), powerless s.m = false → s.m.bnk.lifeAt + 60 ≤ opSeconds s.m →
    Completes .lifetimeUpdate s fun t => t.bnk.lifeAt = s.m.bnk.lifeAt + 60 ∧
      (sget {} t.bnk.life u.val).upd = ((sget {} s.m.bnk.life u.val).upd + 1) % 2 ^ 32) ∧
  (∀ (r : Req) (v : BitVec 8) (u : Fin 5) (s : State), Admitted r 0x2540 1 0 (toBytes 1 v.toNat) s →
    v.toNat.testBit u.val = true →
    Completes (.estLifeReset r v) s fun t => sget {} t.bnk.life u.val = {} ∧ sget {} t.bnk.lifeMir u.val = {})

/-! ### Feeds, rectifiers, feeders and trays -/

/-- R262, R264, R265: a command frame that is due carries the next sequence number and leaves a driving module; a status
frame is kept; a silent or unfaithful rectifier, or one with its alarm line low, is unhealthy and asserts its line
or latches its bit; a readmission test starts at its write and ends after 1 s of good conditions. -/
def Obligations.RectifiersAct : Prop :=
  (∀ (f : Fin 2) (s : State), powerless s.m = false → frameDue f.val s.m = true → s.m.mode ≠ .boot →
    Completes (.rectCommandFrame f) s fun t => (feed f.val t).seq = ((feed f.val s.m).seq + 1) % 256
      ∧ (feed f.val t).lastCmd = s.m.now ∧ (outputs s.m = true → ∃ w, Sent.rect f.val w ∈ t.out)) ∧
  (∀ (f : Fin 2) (s : State), frameDue f.val s.m = false → exec (.rectCommandFrame f) s = .next s) ∧
  (∀ (r : Fin 24) (w : BitVec 128) (s : State), powerless s.m = false → s.m.mode ≠ .boot → followsLoop s.m = false →
    Completes (.rectStatusFrame r w) s fun t => (rect r.val t).frame = w.toNat ∧ (rect r.val t).seen = true ∧
      ((rect r.val s.m).seen = false → (rect r.val t).lastAt = s.m.now)) ∧
  (∀ (r : Fin 24) (s : State), powerless s.m = false → followsLoop s.m = false → s.m.ptn.executing = false →
    max (rect r.val s.m).lastAt s.m.gl.upAt + 30000000 < s.m.now → fitted r.val s.m = true →
    Completes (.rectTimeout r) s fun t => (rect r.val t).silent = true ∧ (rect r.val t).healthy = false
      ∧ t.fc.lines.testBit 46 = true) ∧
  (∀ (r : Fin 24) (s : State), powerless s.m = false → (rect r.val s.m).echoed = false →
    (rect r.val s.m).modeAt + 100000000 ≤ s.m.now → fitted r.val s.m = true →
    Completes (.rectModeEchoCheck r) s fun t =>
      if echoOf r.val s.m = (rect r.val s.m).mode then (rect r.val t).echoed = true
      else (rect r.val t).healthy = false ∧ (blanked 12 s.m = false → Latched 12 t)) ∧
  (∀ (r : Fin 24) (low : Bool) (s : State), powerless s.m = false →
    Completes (.rectAlarm r low) s fun t => (rect r.val t).alarm = low ∧
      (low = true → (rect r.val s.m).alarm = false → fitted r.val s.m = true →
        (rect r.val t).healthy = false ∧ (blanked 12 s.m = false → Latched 12 t))) ∧
  (∀ (q : Req) (v : BitVec 32) (r : Fin 24) (s : State), Admitted q 0x2622 2 0 (toBytes 4 v.toNat) s →
    v.toNat.testBit r.val = true → fitted r.val s.m = true → (rect r.val s.m).healthy = false →
    Completes (.rectReadmit q v) s fun t => (rect r.val t).readmit = some s.m.now) ∧
  (∀ (r : Fin 24) (a b : Nat) (s : State), powerless s.m = false → (rect r.val s.m).readmit = some a →
    (rect r.val s.m).goodAt = some b → max a b + 1000000000 ≤ s.m.now → s.m.now ≤ (rect r.val s.m).lastAt + 30000000 →
    echoOf r.val s.m = (rect r.val s.m).mode → (rect r.val s.m).alarm = false →
    Completes (.rectReadmitComplete r) s fun t => (rect r.val t).healthy = true ∧ (rect r.val t).failed = false)

/-- R266, R270 to R273: the cap waits for its epoch; a feed that returns is present; one that is lost by its voltage or
by three alarm lines is not, and the loss of the feed in service begins a ride-through; a transfer begins, is given
up, or ends with the feeds exchanged, each at its time and not before. -/
def Obligations.FeedsAct : Prop :=
  (∀ (r : Req) (v : BitVec 32) (s : State), Admitted r 0x2610 0 0 (toBytes 4 v.toNat) s →
    Completes (.gridCapWrite r v) s fun t =>
      ∃ p ∈ t.mg.pend, p.mask = 64 ∧ p.vals = [(6, .scalar (Obj.GRID_CAP_W.key 0 0) v.toNat)]) ∧
  (∀ (f : Fin 2) (a : Nat) (s : State), powerless s.m = false → (feed f.val s.m).aboveAt = some a →
    (feed f.val s.m).present = false → a + obj Obj.FEED_RETURN_MS s.m * 1000000 ≤ s.m.now →
    ((feed f.val s.m).lost = true → (feed f.val s.m).lostAt + obj Obj.FEED_RETURN_MS s.m * 1000000 ≤ s.m.now) →
    Completes (.feedPresent f) s fun t => (feed f.val t).present = true ∧ (feed f.val t).lost = false) ∧
  (∀ (f : Fin 2) (s : State), powerless s.m = false → (feed f.val s.m).lost = false → monitored f.val s.m = true →
    ((∃ b, (feed f.val s.m).belowAt = some b ∧ b + obj Obj.FEED_LOSS_US s.m * 1000 ≤ s.m.now) ∨ alarmLoss f.val s.m = true) →
    Completes (.feedLoss f) s fun t => (feed f.val t).present = false ∧ (feed f.val t).lost = true ∧
      (s.m.grd.inService = some f.val → (s.m.mode = .run ∨ s.m.mode = .drain) → s.m.role ≠ .standby →
        t.grd.st = .rideThrough ∧ t.grd.inService = none)) ∧
  (∀ (r : Req) (v : BitVec 8) (s : State), Admitted r 0x2601 3 0 (toBytes 1 v.toNat) s →
    Completes (.feedTransferRequest r v) s fun t => t.grd.st = .transfer ∧ t.grd.incoming = some (v.toNat - 1)
      ∧ t.grd.xferAt = s.m.now) ∧
  (∀ (f g : Nat) (s : State), powerless s.m = false → s.m.grd.st = .transfer → s.m.grd.tx = none →
    s.m.grd.incoming = some f → s.m.grd.inService = some g → s.m.grd.xferAt + 100000000 ≤ s.m.now →
    Completes .transferTimeout s fun t => t.grd.st = feedStateOf g ∧ t.grd.incoming = none ∧ t.grd.inService = some g) ∧
  (∀ (s : State), s.m.now < s.m.grd.xferAt + 100000000 → exec .transferTimeout s = .next s) ∧
  (∀ (a f g : Nat) (s : State), powerless s.m = false → s.m.grd.st = .transfer → s.m.grd.tx = some a →
    s.m.grd.incoming = some f → s.m.grd.inService = some g → a + obj Obj.FEED_XFER_MS s.m * 1000000 ≤ s.m.now →
    Completes .transferRampEnd s fun t => t.grd.st = feedStateOf f ∧ t.grd.inService = some f ∧ t.grd.incoming = none) ∧
  (∀ (a : Nat) (s : State), s.m.grd.tx = some a → s.m.now < a + obj Obj.FEED_XFER_MS s.m * 1000000 →
    exec .transferRampEnd s = .next s)

/-- R276, R278, R279: the downlinks leave together each 10 µs; an uplink frame whose CHECK fails counts, a good one
brings the data of a feeder in its own slot; a silent or bad link asserts its line. R281 to R283: a good identity
record is kept and decides STATE of the tray's entry; the third failed read ends the reading; a re-verification
starts reads. -/
def Obligations.FeederLinksAndReadsAct : Prop :=
  (∀ (s : State), powerless s.m = false → s.m.mode ≠ .boot → s.m.fdr.downAt ≤ s.m.now →
    Completes .feederDownlink s fun t => t.fdr.downAt = s.m.now + 10000 ∧ t.fdr.downNo = (s.m.fdr.downNo + 1) % 256 ∧
      (s.m.ptn.gate = false → ∀ k < 64, ∃ w, Sent.feeder k w ∈ t.out)) ∧
  (∀ (s : State), s.m.now < s.m.fdr.downAt → exec .feederDownlink s = .next s) ∧
  (∀ (k : Fin 64) (w : BitVec 64) (s : State), powerless s.m = false → s.m.mode ≠ .boot → followsLoop s.m = false →
    ¬ (w.toNat / 2 ^ 60 = 1 ∧ w.toNat % 65536 = crc16 ((toBytes 8 w.toNat).take 6)) →
    Completes (.feederUplink k w) s fun t => (feeder k.val t).badRun = min 3 ((feeder k.val s.m).badRun + 1)
      ∧ (feeder k.val t).curr = (feeder k.val s.m).curr) ∧
  (∀ (k : Fin 64) (w : BitVec 64) (s : State), powerless s.m = false → s.m.mode ≠ .boot → followsLoop s.m = false →
    w.toNat / 2 ^ 60 = 1 → w.toNat % 65536 = crc16 ((toBytes 8 w.toNat).take 6) →
    Completes (.feederUplink k w) s fun t => (feeder k.val t).badRun = 0 ∧ (feeder k.val t).lastUp = s.m.now
      ∧ (feeder k.val t).slotBad = decide (w.toNat / 2 ^ 49 % 64 ≠ k.val)
      ∧ (feeder k.val t).curr = (if w.toNat / 2 ^ 49 % 64 = k.val then w.toNat / 2 ^ 32 % 65536 else (feeder k.val s.m).curr)
      ∧ (feeder k.val t).st = (if w.toNat / 2 ^ 49 % 64 = k.val then upState (w.toNat / 2 ^ 58 % 4) else (feeder k.val s.m).st)) ∧
  (∀ (k : Fin 64) (s : State), powerless s.m = false → followsLoop s.m = false → s.m.ptn.executing = false →
    (3 ≤ (feeder k.val s.m).badRun ∨ max (feeder k.val s.m).lastUp s.m.gl.upAt + 30000 ≤ s.m.now) →
    Completes (.feederLinkLoss k) s fun t => (feeder k.val t).linkBad = true ∧ t.fc.lines.testBit 50 = true) ∧
  (∀ (k : Fin 64) (w : BitVec 256) (s : State), powerless s.m = false → followsLoop s.m = false →
    (feeder k.val s.m).reading = true → recordGood w.toNat = true →
    Completes (.identityReadComplete k (some w)) s fun t => (feeder k.val t).reading = false
      ∧ (feeder k.val t).identity = w.toNat ∧ cst k.val t = cstWithState (cst k.val s.m) (matchOf (cst k.val s.m) w.toNat)) ∧
  (∀ (k : Fin 64) (s : State), powerless s.m = false → followsLoop s.m = false → (feeder k.val s.m).reading = true →
    Completes (.identityReadComplete k none) s fun t =>
      if (feeder k.val s.m).tries < 2 then (feeder k.val t).tries = (feeder k.val s.m).tries + 1
      else (feeder k.val t).reading = false ∧ (feeder k.val t).readBad = true) ∧
  (∀ (r : Req) (v : BitVec 64) (k : Fin 64) (s : State), Admitted r 0x2651 0 0 (toBytes 8 v.toNat) s →
    v.toNat.testBit k.val = true →
    Completes (.cstReverify r v) s fun t => (feeder k.val t).reading = true ∧ (feeder k.val t).tries = 0)

/-- R284, R285, R287, R289: requests to open and close, the opening after the BRAKE, hot insertion, and the start, in
RUN, in DRAIN or in the feeder's place of START, and the time-out of a closing; a feeder that may not close does
not. -/
def Obligations.FeederSwitchingActs : Prop :=
  (∀ (r : Req) (v : BitVec 64) (k : Fin 64) (s : State), Admitted r 0x2642 0 0 (toBytes 8 v.toNat) s →
    v.toNat.testBit k.val = true →
    Completes (.fdrOpenRequest r v) s fun t =>
      (feeder k.val t).openAt = some (s.m.now + obj Obj.TKT_BRAKE_CHECK_US s.m * 1000) ∧ (feeder k.val t).wantClose = false) ∧
  (∀ (k : Fin 64) (a : Nat) (s : State), powerless s.m = false → (feeder k.val s.m).openAt = some a → a ≤ s.m.now →
    linkGood k.val s.m = true →
    Completes (.feederOpenAfterBrake k) s fun t => (feeder k.val t).cmd = 0 ∧ (feeder k.val t).openAt = none
      ∧ (feeder k.val t).ramp = obj Obj.FDR_ORD_OFF_RAMP_MS s.m ∧ ∀ j, j ≠ k.val → feeder j t = feeder j s.m) ∧
  (∀ (r : Req) (v : BitVec 64) (k : Fin 64) (s : State), Admitted r 0x2643 0 0 (toBytes 8 v.toNat) s →
    v.toNat.testBit k.val = true →
    Completes (.fdrCloseRequest r v) s fun t => (feeder k.val t).wantClose = true ∧ (feeder k.val t).closeAt = s.m.now
      ∧ (feeder k.val t).reading = true ∧ (feeder k.val t).ocHold = false) ∧
  (∀ (k : Fin 64) (s : State), powerless s.m = false → obj Obj.FDR_HOT_INSERT s.m = 1 → cstPlanned (cst k.val s.m) = true →
    (feeder k.val s.m).seated = true → (feeder k.val s.m).st = .opened → (feeder k.val s.m).used = false →
    (feeder k.val s.m).wantClose = false → (feeder k.val s.m).cmd ≠ 1 → (s.m.mode = .run ∨ s.m.mode = .drain) →
    (feeder k.val s.m).seatedAt + obj Obj.FDR_SETTLE_MS s.m * 1000000 ≤ s.m.now →
    Completes (.hotInsert k) s fun t => (feeder k.val t).wantClose = true ∧ (feeder k.val t).closeAt = s.m.now
      ∧ (feeder k.val t).reading = true) ∧
  (∀ (k : Fin 64) (s : State), powerless s.m = false → (feeder k.val s.m).wantClose = true →
    (feeder k.val s.m).closeAt ≤ s.m.now → (feeder k.val s.m).reading = false → mayClose k.val s.m = true →
    linkGood k.val s.m = true → inrushRoom s.m = true →
    (((s.m.mode = .run ∨ s.m.mode = .drain) ∧ s.m.fdr.seq ≠ .ordinary) ∨
      (s.m.mode = .start ∧ s.m.fdr.seq = .privileged ∧ cstPriv (cst k.val s.m) = true) ∨
      (s.m.mode = .start ∧ s.m.fdr.seq = .ordinary ∧ ∀ j < k.val, (feeder j s.m).wantClose = false)) →
    Completes (.feederCloseStart k) s fun t => (feeder k.val t).cmd = 1 ∧ (feeder k.val t).wantClose = false
      ∧ (feeder k.val t).deadline = some (s.m.now + ((feeder k.val s.m).ramp + 50) * 1000000)
      ∧ ∀ j, j ≠ k.val → feeder j t = feeder j s.m) ∧
  (∀ (k : Fin 64) (s : State), mayClose k.val s.m = false → exec (.feederCloseStart k) s = .next s) ∧
  (∀ (k : Fin 64) (d : Nat) (s : State), powerless s.m = false → (feeder k.val s.m).deadline = some d → d ≤ s.m.now →
    (feeder k.val s.m).st ≠ .closed →
    Completes (.feederCloseTimeout k) s fun t => (feeder k.val t).cmd = 2 ∧ (feeder k.val t).deadline = none
      ∧ (blanked 9 s.m = false → Latched 9 t)) ∧
  (∀ (k : Fin 64) (d : Nat) (s : State), (feeder k.val s.m).deadline = some d → s.m.now < d →
    exec (.feederCloseTimeout k) s = .next s)

/-! ### Operating states -/

/-- R21, Table 1.6: the four requests for a state. R294: discovery ends with a role: RESYNC where the partner holds one
or, in slot B, starts as well; SOLO where nobody answers in 200 ms or, with a hold of 300 ms, in slot A; the hold of
slot A ends in verification. -/
def Obligations.StatesAndDiscoveryAct : Prop :=
  (∀ (r : Req) (s : State), Admitted r 0x1011 0 0 (toBytes 1 1) s →
    Completes (.startRequest r) s fun t => t.fdr.seqAt = s.m.now ∧ t.grd.tLast = 0 ∧
      (s.m.role = .none → t.mode = .start ∧ t.fdr.seq = .discovery ∧ t.ptn.discAt = s.m.now)) ∧
  (∀ (r : Req) (s : State), Admitted r 0x1011 0 0 (toBytes 1 2) s →
    Completes (.stopRequest r) s fun t => t.mode = if s.m.mode = .run then .drain else .stop) ∧
  (∀ (r : Req) (s : State), Admitted r 0x1011 0 0 (toBytes 1 3) s →
    Completes (.commissionRequest r) s fun t => t.mode = .commission) ∧
  (∀ (r : Req) (s : State), Admitted r 0x1011 0 0 (toBytes 1 4) s →
    Completes (.moduleReset r) s fun t => (t.mode = .boot ∨ t.mode = .safe) ∧ t.role = .none ∧ t.now = s.m.now) ∧
  (∀ (s : State), powerless s.m = false → s.m.role = .none → s.m.mode = .start → s.m.ptn.ident = none →
    s.m.ptn.discAt + 200000000 ≤ s.m.now →
    Completes .discoveryEnd s fun t => t.role = .solo ∧ t.fdr.seqAt = s.m.now) ∧
  (∀ (m r : Nat) (s : State), powerless s.m = false → s.m.role = .none → s.m.mode = .start → s.m.ptn.ident = some (m, r) →
    (r = 1 ∨ r = 3) →
    Completes .discoveryEnd s fun t => t.role = .resync ∧
      obj Obj.PTN_RESYNC_REASON t = if s.m.ptn.pRelease = some (ownRelease s.m) then 0 else 2) ∧
  (∀ (r : Nat) (s : State), powerless s.m = false → s.m.role = .none → s.m.mode = .start → s.m.ptn.ident = some (3, r) →
    r ≠ 1 → r ≠ 3 →
    Completes .discoveryEnd s fun t =>
      if s.m.slotB then t.role = .resync else t.role = .solo ∧ t.ptn.holdAt = some s.m.now) ∧
  (∀ (s : State), s.m.ptn.ident = none → s.m.now < s.m.ptn.discAt + 200000000 → exec .discoveryEnd s = .next s) ∧
  (∀ (a : Nat) (s : State), s.m.ptn.holdAt = some a → s.m.now < a + 300000000 → exec .discoveryHoldTimeout s = .next s) ∧
  (∀ (a : Nat) (s : State), powerless s.m = false → s.m.mode = .start → s.m.ptn.holdAt = some a → a + 300000000 ≤ s.m.now →
    Completes .discoveryHoldTimeout s fun t => t.ptn.holdAt = none ∧ t.fdr.seqAt = s.m.now)

/-- R286, R238, R21, R151: the start sequence's ramp of the bus, its privileged feeders and entry to RUN; the stop
sequence's feeders and ramp down. -/
def Obligations.SequencesAct : Prop :=
  (∀ (f : Nat) (s : State), powerless s.m = false → s.m.fdr.seq = .rectOn → s.m.grd.inService = some f →
    healthyOf f s.m ≠ [] → (∀ r ∈ healthyOf f s.m, echoOf r s.m = 2) →
    (obj Obj.BNK_FAST_MIN_MV s.m : Int) ≤ bankMv false s.m →
    Completes .busRampStart s fun t => t.fdr.seq = .busRamp ∧ t.grd.rampAt = some s.m.now ∧ t.cnv.st = .track) ∧
  (∀ (a : Nat) (s : State), powerless s.m = false → s.m.fdr.seq = .busRamp → s.m.grd.rampAt = some a →
    a + obj Obj.RECT_BUS_RAMP_MS s.m * 1000000 ≤ s.m.now →
    Completes .busRampEnd s fun t => t.fdr.seq = .precharge ∧ t.grd.rampAt = none ∧ t.bnk.preAt = s.m.now
      ∧ (t.bnk.st = .precharge ∨ t.bnk.st = .ready)) ∧
  (∀ (k : Fin 64) (s : State), powerless s.m = false → s.m.fdr.seq = .privileged → cstPriv (cst k.val s.m) = true →
    mayClose k.val s.m = true → (feeder k.val s.m).cmd = 0 → (feeder k.val s.m).wantClose = false →
    (feeder k.val s.m).used = false → s.m.fdr.seqAt + cstOnDelay (cst k.val s.m) * 1000000 ≤ s.m.now →
    Completes (.privilegedOnDelay k) s fun t => (feeder k.val t).wantClose = true ∧ (feeder k.val t).closeAt = s.m.now
      ∧ ∀ j, j ≠ k.val → feeder j t = feeder j s.m) ∧
  (∀ (s : State), powerless s.m = false → s.m.mode = .start → s.m.fdr.seq = .ordinary → allClosed s.m = true →
    Completes .runEntry s fun t => (fltClass 40 s.m < 3 → fltClass 22 s.m < 3 → t.mode = .run) ∧ t.trk.st = .search ∧ t.trk.bin = 0 ∧ t.trk.n = 250000
      ∧ t.trk.wrapT = s.m.now ∧ t.trk.step = s.m.trk.step ∧ t.tt.synth = true) ∧
  (∀ (k : Fin 64) (s : State), powerless s.m = false → s.m.fdr.seq = .stopOrdinary →
    ((liveTrays false s.m).filter fun j => decide ((feeder j s.m).cmd = 1) && linkGood j s.m).getLast? = some k.val →
    s.m.fdr.stopAt + 1000000 ≤ s.m.now →
    Completes (.ordinaryFeederOff k) s fun t => (feeder k.val t).cmd = 0 ∧ t.fdr.stopAt = s.m.fdr.stopAt + 1000000
      ∧ ∀ j, j ≠ k.val → feeder j t = feeder j s.m) ∧
  (∀ (k : Fin 64) (s : State), powerless s.m = false → s.m.fdr.seq = .stopPrivileged → cstPriv (cst k.val s.m) = true →
    (feeder k.val s.m).cmd = 1 → s.m.fdr.seqAt + cstOffDelay (cst k.val s.m) * 1000000 ≤ s.m.now →
    Completes (.privilegedOffDelay k) s fun t => (feeder k.val t).cmd = 0
      ∧ (feeder k.val t).ramp = cstOffRamp (cst k.val s.m) ∧ ∀ j, j ≠ k.val → feeder j t = feeder j s.m) ∧
  (∀ (s : State), powerless s.m = false → s.m.fdr.seq = .stopPrivileged → allOpen true s.m = true → allOpen false s.m = true →
    Completes .busRampDown s fun t => t.fdr.seq = .stopRamp ∧ t.grd.rampAt = some s.m.now ∧ t.grd.rampDown = true
      ∧ (s.m.cnv.st = .regulate → t.cnv.st = .track))

/-! ### Partner modules -/

/-- R294, R303, R305, R312, R315: IDENT, HEARTBEAT, DEMOTE, SWITCH and RESYNC cells. -/
def Obligations.ControlCellsAct : Prop :=
  (∀ (c : BitVec 1024) (s : State), NextCell 1 c s →
    Completes (.identCell c) s fun t => t.ptn.pMode = byteNum (cellPayload c) 1 1
      ∧ t.ptn.pRelease = some (byteNum (cellPayload c) 3 2) ∧ t.ptn.rxSeq = some (nfld c.toNat 1007 976)
      ∧ t.ptn.lastCell = s.m.now ∧ (s.m.role = .none → s.m.mode = .start → 2 < byteNum (cellPayload c) 1 1 →
        t.ptn.ident = some (byteNum (cellPayload c) 1 1, byteNum (cellPayload c) 2 1))) ∧
  (∀ (c : BitVec 1024) (s : State), NextCell 2 c s → s.m.ptn.switchAt = none →
    Completes (.heartbeatCell c) s fun t => t.ptn.gotL = true ∧ t.fc.partner = byteNum (cellPayload c) 6 8
      ∧ obj Obj.PTN_PARTNER_ROLE t = byteNum (cellPayload c) 0 1 ∧ t.ptn.pMode = byteNum (cellPayload c) 1 1) ∧
  (∀ (c : BitVec 1024) (s : State), NextCell 0xD c s → s.m.role = .active →
    Completes (.demoteCell c) s fun t => t.role = .resync ∧ obj Obj.PTN_RESYNC_REASON t = 4 ∧ t.ptn.claimAt = none) ∧
  (∀ (c : BitVec 1024) (s : State), NextCell 0xE c s → s.m.role = .standby → s.m.ptn.switchAt = none →
    Completes (.switchCell c) s fun t => t.ptn.switchAt = some (byteNum (cellPayload c) 0 4)) ∧
  (∀ (c : BitVec 1024) (s : State), NextCell 0xF c s →
    Completes (.resyncCell c) s fun t => t.ptn.pReason = byteNum (cellPayload c) 1 1 ∧
      (s.m.role = .active → s.m.ptn.claimAt = none → t.role = .solo) ∧
      (s.m.role = .standby → byteNum (cellPayload c) 1 1 = 3 → t.role = .resync))

/-- R297 to R301: what a following module takes from ORDER, SENSE, LINK, CAN, EPOCH_END and TICKET cells. -/
def Obligations.ForwardedCellsAct : Prop :=
  (∀ (c : BitVec 1024) (s : State), NextCell 3 c s → follows s.m = true →
    Completes (.orderCell c) s fun t => t.ptn.got = s.m.ptn.got + min 27 (nfld c.toNat 959 952) ∧ t.ptn.own = []) ∧
  (∀ (c : BitVec 1024) (s : State), NextCell 4 c s → follows s.m = true →
    Completes (.senseCell c) s fun t => t.ptn.items = s.m.ptn.items ++
      [.sense (byteNum (cellPayload c) 76 8) (byteNum (cellPayload c) 0 2) (byteNum (cellPayload c) 2 36),
       .sense (byteNum (cellPayload c) 76 8 + 1000) (byteNum (cellPayload c) 38 2) (byteNum (cellPayload c) 40 36)]) ∧
  (∀ (c : BitVec 1024) (s : State), NextCell 5 c s → follows s.m = true → nfld c.toNat 959 952 = 1 →
    byteNum (cellPayload c) 0 2 < 25 →
    Completes (.linkCell c) s fun t => t.ptn.items = s.m.ptn.items ++
      [.card (byteNum (cellPayload c) 0 2) (byteNum (cellPayload c) 2 16)]) ∧
  (∀ (c : BitVec 1024) (s : State), NextCell 6 c s → follows s.m = true → nfld c.toNat 959 952 = 1 →
    Completes (.canCell c) s fun t => t.ptn.items = s.m.ptn.items ++
      [.can (byteNum (cellPayload c) 0 4) (byteNum (cellPayload c) 4 8) (byteNum (cellPayload c) 12 16)]) ∧
  (∀ (c : BitVec 1024) (s : State), NextCell 7 c s → follows s.m = true →
    Completes (.epochEnd c) s fun t => t.ptn.epochs = s.m.ptn.epochs ++
      [{ start := s.m.ptn.lastEnd, items := s.m.ptn.items, words := s.m.ptn.got, close := beNat (cellPayload c), at_ := s.m.now }]
      ∧ t.ptn.items = [] ∧ t.ptn.lastEnd = s.m.now) ∧
  (∀ (c : BitVec 1024) (cyc since : Nat) (f : Bool) (s : State), NextCell 0xC c s → follows s.m = true →
    s.m.ptn.epochs = [] → s.m.ptn.items = [.wait cyc (tkRid (beNat ((cellPayload c).take 32)))
      (tkSeq (beNat ((cellPayload c).take 32)) % 256) since f] →
    Completes (.ticketCell c) s fun t => t.ptn.items = [.ticket cyc (0 :: (cellPayload c).take 32)])

/-- R297, R298, R301, R221: a BULK cell's bytes join their object; an ACK lets what waited go on; a NAK sends the cell
that it names again; a FETCH is answered with the ticket. -/
def Obligations.ServiceCellsAct : Prop :=
  (∀ (c : BitVec 1024) (s : State), NextCell 8 c s → byteNum (cellPayload c) 0 4 / 2 ^ 24 ≠ bulkResync →
    0 < byteNum (cellPayload c) 4 8 →
    byteNum (cellPayload c) 4 8 = (sget [] s.m.ptn.bulkIn (byteNum (cellPayload c) 0 4)).length →
    (sget [] s.m.ptn.bulkIn (byteNum (cellPayload c) 0 4) ++
        ((cellPayload c).drop 12).take (min 96 (nfld c.toNat 959 952))).length ≠
      8 + byteNum (sget [] s.m.ptn.bulkIn (byteNum (cellPayload c) 0 4) ++
        ((cellPayload c).drop 12).take (min 96 (nfld c.toNat 959 952))) 0 8 →
    Completes (.bulkCell c) s fun t => sget [] t.ptn.bulkIn (byteNum (cellPayload c) 0 4) =
      sget [] s.m.ptn.bulkIn (byteNum (cellPayload c) 0 4) ++ ((cellPayload c).drop 12).take (min 96 (nfld c.toNat 959 952))) ∧
  (∀ (c : BitVec 1024) (s : State), NextCell 9 c s → s.m.ptn.outBulk.contains (byteNum (cellPayload c) 0 4) = true →
    byteNum (cellPayload c) 0 4 / 2 ^ 24 ≠ bulkResync →
    Completes (.ackCell c) s fun t => byteNum (cellPayload c) 0 4 ∉ t.ptn.outBulk ∧
      (byteNum (cellPayload c) 0 4 / 2 ^ 24 = bulkPage → t.tt.acked = true) ∧
      (byteNum (cellPayload c) 0 4 / 2 ^ 24 = bulkCommit →
        ∀ p ∈ t.mg.pend, p.bulk = byteNum (cellPayload c) 0 4 → p.acked = true)) ∧
  (∀ (c : BitVec 1024) (q : Nat × Nat × List Byte) (s : State), NextCell 0xA c s → nfld c.toNat 959 952 = 1 →
    s.m.ptn.sent.find? (fun q => decide (q.1 = byteNum (cellPayload c) 0 4)) = some q →
    Completes (.nakCell c) s fun t => t.out = .cell q.2.1 q.1 q.2.2 :: s.m.out) ∧
  (∀ (c : BitVec 1024) (l : List Byte) (s : State), NextCell 0xB c s →
    s.m.ptn.seen.find? (fun l => decide (tkRid (beNat l) = byteNum (cellPayload c) 0 2
      ∧ tkSeq (beNat l) % 256 = byteNum (cellPayload c) 2 1)) = some l →
    Completes (.fetchCell c) s fun t => ∃ n b, t.out = .cell 0xC n b :: s.m.out)

/-- R294, R303, R312, R314: IDENT leaves a module without a role; a heartbeat pulse and a demoting pulse on path W,
where a negative pulse is none; a path that misses its heartbeats asserts its line, and not before; the two requests
of a manager. -/
def Obligations.HeartbeatsAndRequestsAct : Prop :=
  (∀ (s : State), powerless s.m = false → s.m.role = .none →
    Completes .identSend s fun t => ∃ n b, t.out = .cell 1 n b :: s.m.out) ∧
  (∀ (w : BitVec 16) (s : State), powerless s.m = false → s.m.mode ≠ .boot →
    (s.m.role = .resync ∨ s.m.role = .none ∨ partnerHalf s.m = true) → 800 ≤ w.toNat → w.toNat ≤ 1200 →
    Completes (.hbWPulse w true) s fun t => t = { s.m with ptn := { s.m.ptn with gotW := true, heard := s.m.ptn.heard ||| 2 } }) ∧
  (∀ (w : BitVec 16) (s : State), powerless s.m = false → s.m.mode ≠ .boot → partnerHalf s.m = true →
    2600 ≤ w.toNat → w.toNat ≤ 3400 → s.m.role = .active →
    Completes (.hbWPulse w true) s fun t => t.role = .resync ∧ t.ptn.gate = true) ∧
  (∀ (w : BitVec 16) (s : State), exec (.hbWPulse w false) s = .next s) ∧
  (∀ (wire : Bool) (s : State), (if wire then s.m.ptn.missW else s.m.ptn.missL) < obj Obj.PTN_HB_FRAMES s.m →
    exec (.heartbeatPathLoss wire) s = .next s) ∧
  (∀ (wire : Bool) (s : State), powerless s.m = false →
    obj Obj.PTN_HB_FRAMES s.m ≤ (if wire then s.m.ptn.missW else s.m.ptn.missL) →
    Completes (.heartbeatPathLoss wire) s fun t => t.fc.lines.testBit (if wire then 31 else 30) = true) ∧
  (∀ (r : Req) (s : State), Admitted r 0x2709 0 0 (toBytes 1 1) s →
    Completes (.ptnSwitchoverRequest r 1) s fun t => t.ptn.switchDue = true) ∧
  (∀ (r : Req) (s : State), Admitted r 0x2707 0 0 (toBytes 1 1) s →
    Completes (.ptnResyncRequest r 1) s fun t => t.ptn.asked = true)

/-- R301, R302, R304, R305, R308, R315: a silent partner's work is taken over or shed; a claim that is not confirmed in
40 µs, a STANDBY that falls behind and a lost link end in RESYNC; epochs are executed; a complete resynchronisation
makes a STANDBY module in its partner's operating state, whose own START goes on. -/
def Obligations.RoleChangesAct : Prop :=
  (∀ (s : State), powerless s.m = false → s.m.role = .standby → partnerSilent s.m = true →
    Completes .partnerFailureDetect s fun t => t.role = .active) ∧
  (∀ (s : State), powerless s.m = false → s.m.role = .active → partnerSilent s.m = true → s.m.ptn.claimAt = none →
    Completes .partnerFailureDetect s fun t => t.role = .solo ∧ t.ptn.claimAt = some s.m.now) ∧
  (∀ (a : Nat) (s : State), powerless s.m = false → s.m.ptn.claimAt = some a → a + 40000 ≤ s.m.now →
    Completes .tokenShareTimeout s fun t => t.role = .resync ∧ obj Obj.PTN_RESYNC_REASON t = 4 ∧ t.ptn.claimAt = none) ∧
  (∀ (a : Nat) (s : State), s.m.ptn.claimAt = some a → s.m.now < a + 40000 → exec .tokenShareTimeout s = .next s) ∧
  (∀ (e : Epoch) (rest : List Epoch) (s : State), powerless s.m = false → s.m.role = .standby →
    s.m.ptn.epochs = e :: rest → epochReady e = true →
    Completes .standbyEpochExecute s fun t => t.role = .standby → obj Obj.PTN_LAG_NS t = (s.m.now - e.at_) % 2 ^ 32) ∧
  (∀ (s : State), powerless s.m = false → s.m.role = .standby → s.m.ptn.gaps = [] → s.m.ptn.unheard = 0 →
    s.m.cnv.frameAt + frameLen s.m ≤ s.m.now * 8 + 24000 → s.m.ptn.lostCell = true →
    Completes .standbyFallBehind s fun t => t.role = .resync ∧ obj Obj.PTN_RESYNC_REASON t = 3
      ∧ t.fc.lines.testBit 29 = true) ∧
  (∀ (s : State), powerless s.m = false →
    Completes .fetchTimeout s fun t => ∀ c r l since, LoopInput.wait c r l since false ∈ t.ptn.items →
      s.m.now < since + 1000) ∧
  (∀ (s : State), powerless s.m = false → s.m.role ≠ .none → s.m.mode ≠ .boot → s.m.ptn.lastCell ≠ 0 →
    s.m.ptn.lastCell * 8 + 3 * frameLen s.m ≤ s.m.now * 8 →
    Completes .partnerLinkLoss s fun t => t.fc.lines.testBit 29 = true ∧
      (s.m.role = .standby → s.m.ptn.missW < obj Obj.PTN_HB_FRAMES s.m → t.role = .resync)) ∧
  (∀ (s : State), powerless s.m = false → s.m.mode ≠ .boot → s.m.ptn.lastCell ≠ 0 →
    s.m.ptn.lastCell + 100000000 ≤ s.m.now → obj Obj.PTN_LANE s.m ≠ 9 →
    Completes .partnerLaneSilence s fun t =>
      if s.m.mode = .run ∧ s.m.role ≠ .resync then t.ptn.laneDue = true
      else t.ptn.laneDue = false ∧ (s.m.life.lane9 = 0 → t.life.lane9 = 2 ∧ obj Obj.PTN_LANE t = 9)) ∧
  (∀ (s : State), powerless s.m = false → s.m.role = .resync → obj Obj.PTN_RESYNC_STAGE s.m = 4 →
    s.m.ptn.epochs.length ≤ 1 →
    Completes .resyncComplete s fun t => t.role = .standby ∧ obj Obj.PTN_RESYNC_STAGE t = 0 ∧
      (¬ (modeOf s.m.ptn.pMode = .start ∧ s.m.fdr.seq = .discovery) → t.mode = modeOf s.m.ptn.pMode) ∧
      (modeOf s.m.ptn.pMode = .start → s.m.fdr.seq = .discovery → t.fdr.seqAt = s.m.now))

/-! ### Faults, the Guard Log and counters -/

/-- R318, R321, R325: an event of a line that no window covers latches its bit, and a level line stays up until its own
command ends it, but BANK_FAST's, which falls where its own C3 event disarms it (R236); reserved bits have no event.
-/
def Obligations.FaultEventsLatch : Prop :=
  (∀ (n : Fin 64) (src : BitVec 16) (data : BitVec 32) (s : State), powerless s.m = false → n.val < 54 →
    levelBits.contains n.val = false → blanked n.val s.m = false →
    Completes (.faultEvent n src data) s fun t => Latched n.val t) ∧
  (∀ (n : Fin 64) (src : BitVec 16) (data : BitVec 32) (s : State), powerless s.m = false →
    levelBits.contains n.val = true → s.m.ptn.executing = false →
    Completes (.faultEvent n src data) s fun t =>
      ((n.val = 13 → fltClass 13 s.m < 3) → t.fc.lines.testBit n.val = true) ∧
      (s.m.fc.lines.testBit n.val = false → blanked n.val s.m = false → Latched n.val t)) ∧
  (∀ (n : Fin 64) (src : BitVec 16) (data : BitVec 32) (s : State), 54 ≤ n.val →
    exec (.faultEvent n src data) s = .next s) ∧
  (∀ (s : State), powerless s.m = false →
    Completes .clockLoss s fun t => t.fc.lines.testBit 37 = true ∧
      (s.m.fc.lines.testBit 37 = false → blanked 37 s.m = false → Latched 37 t)) ∧
  (∀ (s : State), powerless s.m = false →
    Completes .clockLockRegained s fun t => t.fc.lines.testBit 37 = false ∧ t.fc.status = s.m.fc.status) ∧
  (∀ (p : Fin 14) (s : State), powerless s.m = false → s.m.life.pairsWork.testBit p.val = true → blanked 36 s.m = false →
    Completes (.watchdogExpiry p) s fun t => Latched 36 t) ∧
  (∀ (p : Fin 14) (s : State), s.m.life.pairsWork.testBit p.val = false → exec (.watchdogExpiry p) s = .next s) ∧
  (∀ (l : Fin 8) (s : State), powerless s.m = false →
    Completes (.fabricLaneDown l) s fun t => t.life.lanesDown.testBit l.val = true ∧ t.fc.lines.testBit 28 = true) ∧
  (∀ (l : Fin 8) (s : State), powerless s.m = false →
    Completes (.fabricLaneBlockLock l) s fun t => t.life.lanesDown = clrBit s.m.life.lanesDown l.val ∧
      (t.life.lanesDown = 0 → t.fc.lines.testBit 28 = false)) ∧
  (∀ (s : State), powerless s.m = false →
    Completes .lane9BlockLock s fun t => t = { s.m with life := { s.m.life with lane9Lock := true } }) ∧
  (∀ (c : BitVec 8) (s : State), powerless s.m = false →
    Completes (.dieThermalSample c) s fun t =>
      t.det.tripHi = countRun (decide (objI Obj.FLT_THERMAL_TRIP_C 8 s.m < toSigned 8 c.toNat)) s.m.det.tripHi 10 ∧
      t.det.warnHi = countRun (decide (objI Obj.FLT_THERMAL_WARN_C 8 s.m < toSigned 8 c.toNat)) s.m.det.warnHi 10 ∧
      (t.det.tripHi = 10 → t.fc.lines.testBit 39 = true))

/-- R324, R326, R328 to R332: clears wait for their epoch and spare asserted lines; windows and pulses that are over are
gone, and not before; an injection opens its window and its end closes it. R337, R341, R342: the oldest queued
record goes to its slot of both rings; a clear empties both; named counters return to 0. -/
def Obligations.CollectorLogAndCountersAct : Prop :=
  (∀ (r : Req) (v : BitVec 64) (s : State), Admitted r 0x2800 0 0 (toBytes 8 v.toNat) s →
    Completes (.fltStatusClear r v) s fun t =>
      ∃ p ∈ t.mg.pend, p.mask = 64 ∧ p.vals = [(6, .scalar (Obj.FLT_STATUS.key 0 0) (without v.toNat s.m.fc.lines))]) ∧
  (∀ (r : Req) (v : BitVec 64) (s : State), Admitted r 0x2802 0 0 (toBytes 8 v.toNat) s →
    Completes (.fltPartnerClear r v) s fun t =>
      ∃ p ∈ t.mg.pend, p.mask = 64 ∧ p.vals = [(6, .scalar (Obj.FLT_PARTNER_CLEAR.key 0 0) v.toNat)]) ∧
  (∀ (n : Fin 64) (s : State), powerless s.m = false →
    Completes (.blankingWindowClose n) s fun t => ∀ w ∈ t.fc.wins, ¬ (w.src = n.val ∧ w.ends ≤ s.m.now)) ∧
  (∀ (r : Req) (s : State), Admitted r 0x2830 4 0 (toBytes 1 1) s → s.m.fc.inj = none →
    Completes (.injStart r 1) s fun t => ∃ w, t.fc.inj = some w ∧ w.mask = obj Obj.INJ_MASK s.m
      ∧ w.dry = decide (obj Obj.INJ_DRY s.m = 1) ∧ w.ends = s.m.now + obj Obj.INJ_WINDOW_US s.m * 1000) ∧
  (∀ (w : InjWin) (s : State), powerless s.m = false → s.m.fc.inj = some w → w.ends ≤ s.m.now →
    Completes .injectionWindowClose s fun t => t.fc.inj = none ∧ obj Obj.INJ_OPEN t = 0) ∧
  (∀ (a : Nat) (s : State), powerless s.m = false → s.m.fc.pulseEnd = some a → a ≤ s.m.now →
    Completes .faultNPulseEnd s fun t => t.fc.pulseEnd = none ∧ t.fc.staticN = consistStatic s.m) ∧
  (∀ (w : InjWin) (s : State), s.m.fc.inj = some w → s.m.now < w.ends → exec .injectionWindowClose s = .next s) ∧
  (∀ (a : Nat) (s : State), s.m.fc.pulseEnd = some a → s.m.now < a → exec .faultNPulseEnd s = .next s) ∧
  (∀ (a b : Bool) (s : State), s.m.gl.queue = [] → exec (.guardLogFlush a b) s = .next s) ∧
  (∀ (q : GRec) (rest : List GRec) (s : State), powerless s.m = false → s.m.gl.queue = q :: rest → s.m.gl.lost = 0 →
    s.m.gl.primBad = false → s.m.gl.mirrBad = false →
    Completes (.guardLogFlush false false) s fun t => t.gl.queue = rest ∧ sget 0 t.gl.prim (q.no % 131072) = recWord q
      ∧ sget 0 t.gl.mirr (q.no % 131072) = recWord q) ∧
  (∀ (q : GRec) (rest : List GRec) (s : State), powerless s.m = false → s.m.gl.queue = q :: rest →
    s.m.gl.primBad = false → s.m.life.blocksA = 0 →
    Completes (.guardLogFlush true false) s fun t => t.gl.primBad = true ∧ t.fc.lines.testBit 41 = true) ∧
  (∀ (r : Req) (s : State), Admitted r 0x2851 0 0 (toBytes 1 1) s → s.m.mg.pend = [] →
    Completes (.glClear r 1) s fun t => t.gl.prim = [] ∧ t.gl.mirr = [] ∧ t.gl.queue.length = 1) ∧
  (∀ (r : Req) (v : BitVec 64) (c : Fin 64) (s : State), Admitted r 0x2862 0 0 (toBytes 8 v.toNat) s → s.m.mg.pend = [] →
    v.toNat.testBit c.val = true →
    Completes (.ctrClear r v) s fun t => sget 0 t.ctr.val c.val = 0 ∧ sget 0 t.ctr.inStep c.val = 0
      ∧ sget 0 t.ctr.cyc c.val = 0)

/-! ### Management -/

/-- R353 to R357, R392: a ClientHello that offers what the profile needs takes a free record and is asked to return a
cookie, another is refused; a handshake with a key that proves its identity opens a free record, one with a wrong
key is counted for its manager; on loopback the guest's does without one; records whose handshake or session has
timed out are free again, and not before; links come and go. -/
def Obligations.SessionsAct : Prop :=
  (∀ (p : Fin 3) (ident key addr : List Byte) (m slot k : Nat) (s : State), powerless s.m = false → s.m.mode ≠ .boot →
    p.val ≠ 2 → s.m.mg.linkUp.testBit p.val = true → answersOn p.val (addr.drop 16) s.m = true →
    identityOf ident = some (m, slot) → keyProves m slot key s.m = true → handshakeOf p.val addr s.m = none →
    freeSession s.m = some k → sessionsOf m s.m < 4 →
    Completes (.dtlsHandshake p ident (.finished key) addr) s fun t => (session k t).st = 2 ∧ (session k t).mgr = m
      ∧ (session k t).port = p.val ∧ (session k t).keySlot = slot ∧ t.out = .dtls p.val true :: s.m.out) ∧
  (∀ (p : Fin 3) (ident key addr : List Byte) (m slot k : Nat) (s : State), powerless s.m = false → s.m.mode ≠ .boot →
    p.val ≠ 2 → s.m.mg.linkUp.testBit p.val = true → answersOn p.val (addr.drop 16) s.m = true →
    identityOf ident = some (m, slot) → keyProves m slot key s.m = false → handshakeOf p.val addr s.m = none →
    freeSession s.m = some k → sessionsOf m s.m < 4 →
    Completes (.dtlsHandshake p ident (.finished key) addr) s fun t => t.mg.sessions = s.m.mg.sessions
      ∧ t.out = .dtls p.val false :: s.m.out ∧
      oGet Obj.MGMT_AUTH_FAIL (m - 1) 0 t = (oGet Obj.MGMT_AUTH_FAIL (m - 1) 0 s.m + 1) % 2 ^ objBits Obj.MGMT_AUTH_FAIL) ∧
  (∀ (p : Fin 3) (ident addr : List Byte) (groups suites : List (BitVec 16)) (dhe c : Bool) (m slot : Nat) (s : State),
    powerless s.m = false → s.m.mode ≠ .boot → p.val ≠ 2 → s.m.mg.linkUp.testBit p.val = true →
    answersOn p.val (addr.drop 16) s.m = true → identityOf ident = some (m, slot) → helloFits groups suites dhe = false →
    exec (.dtlsHandshake p ident (.hello groups suites dhe c) addr) s = .next { s with m := send (.dtls p.val false) s.m }) ∧
  (∀ (p : Fin 3) (ident addr : List Byte) (groups suites : List (BitVec 16)) (dhe c : Bool) (m slot k : Nat) (s : State),
    powerless s.m = false → s.m.mode ≠ .boot → p.val ≠ 2 → s.m.mg.linkUp.testBit p.val = true →
    answersOn p.val (addr.drop 16) s.m = true → identityOf ident = some (m, slot) → helloFits groups suites dhe = true →
    handshakeOf p.val addr s.m = none → freeSession s.m = some k → sessionsOf m s.m < 4 →
    Completes (.dtlsHandshake p ident (.hello groups suites dhe c) addr) s fun t => (session k t).st = 1
      ∧ (session k t).mgr = m ∧ (session k t).port = p.val ∧ (session k t).openedAt = s.m.now
      ∧ t.out = .helloRetry p.val :: s.m.out) ∧
  (∀ (ident addr : List Byte) (msg : DtlsMsg) (k : Nat) (s : State), powerless s.m = false → s.m.mode ≠ .boot →
    (s.m.life.guest = 1 ∨ s.m.life.guest = 2 ∨ s.m.life.guest = 3) → obj Obj.MGMT_LOOPBACK_AS s.m ≠ 0 → handshakeOf 2 addr s.m = none → freeSession s.m = some k →
    sessionsOf (obj Obj.MGMT_LOOPBACK_AS s.m) s.m < 4 →
    Completes (.dtlsHandshake 2 ident msg addr) s fun t => (session k t).st = 2
      ∧ (session k t).mgr = obj Obj.MGMT_LOOPBACK_AS s.m ∧ (session k t).port = 2 ∧ t.life.guest = 2) ∧
  (∀ (k : Fin 8) (s : State), s.m.now < (session k.val s.m).openedAt + 1000000000 →
    exec (.handshakeTimeout k) s = .next s) ∧
  (∀ (k : Fin 8) (s : State), s.m.now < (session k.val s.m).lastMsg + obj Obj.MGMT_SESSION_TIMEOUT_S s.m * 1000000000 →
    exec (.sessionTimeout k) s = .next s) ∧
  (∀ (k : Fin 8) (s : State), powerless s.m = false → (session k.val s.m).st = 1 →
    (session k.val s.m).openedAt + 1000000000 ≤ s.m.now →
    Completes (.handshakeTimeout k) s fun t => session k.val t = {} ∧ ∀ j, j ≠ k.val → session j t = session j s.m) ∧
  (∀ (k : Fin 8) (s : State), powerless s.m = false → (session k.val s.m).st = 2 →
    (session k.val s.m).lastMsg + obj Obj.MGMT_SESSION_TIMEOUT_S s.m * 1000000000 ≤ s.m.now →
    Completes (.sessionTimeout k) s fun t => session k.val t = {} ∧ ∀ j, j ≠ k.val → session j t = session j s.m) ∧
  (∀ (k : Fin 8) (q : Nat × Nat × VopOp) (s : State), powerless s.m = false → (session k.val s.m).st = 2 →
    s.m.mg.waiting = none → q ∈ (session k.val s.m).held → q.2.1 + 50000000 ≤ s.m.now →
    Completes (.reqIdHoldTimeout k) s fun t => session k.val t = {} ∧ ∀ j, j ≠ k.val → session j t = session j s.m) ∧
  (∀ (p : Fin 2) (s : State), powerless s.m = false → oGet Obj.MGMT_ENABLE p.val 0 s.m ≠ 0 →
    Completes (.mgmtLinkChange p true) s fun t => t.mg.linkUp.testBit p.val = true) ∧
  (∀ (p : Fin 2) (s : State), powerless s.m = false → s.m.mg.linkUp.testBit p.val = true →
    Completes (.mgmtLinkChange p false) s fun t => t.mg.linkUp.testBit p.val = false ∧ sget 0 t.mg.linkAt p.val = s.m.now) ∧
  (∀ (p : Fin 2) (k : Fin 8) (s : State), powerless s.m = false → s.m.mg.linkUp.testBit p.val = false →
    sget 0 s.m.mg.linkAt p.val + 1000000000 ≤ s.m.now → (session k.val s.m).st ≠ 0 → (session k.val s.m).port = p.val →
    Completes (.sessionLinkDown p) s fun t => session k.val t = {})

/-- R358 to R361: in its turn a request is answered with what its operation gives, and the next REQ_ID is expected; OPEN
is answered whatever its number; CLOSE closes; a notification leaves where a change is untold and the last is 10 ms
old. -/
def Obligations.RequestsAnswered : Prop :=
  (∀ (r : Req) (s : State), r.version = 1 → r.badOp = none → powerless s.m = false → (session r.session.val s.m).st = 2 →
    (s.m.mg.holder = 0 ∨ lapseDue s.m = none) →
    Completes (.vopOpen r) s fun t => (∃ b, .vop r.session.val b ∈ t.out) ∧ t.od = s.m.od ∧ t.mg.staged = s.m.mg.staged) ∧
  (∀ (r : Req) (st : Bool) (idx : BitVec 16) (sub : BitVec 8) (n : BitVec 16) (l : List Byte) (b : Bool) (s : State),
    Turn r s → readObject st idx.toNat sub.toNat 0 n.toNat false (heard r.session.val s.m) = .ok (l, b) →
    Completes (.vopRead r st idx sub n) s fun t =>
      .vop r.session.val (response r.reqId.toNat (.read st idx.toNat sub.toNat n.toNat) ⟨0, b, l⟩) ∈ t.out ∧ t.od = s.m.od) ∧
  (∀ (r : Req) (st : Bool) (idx : BitVec 16) (sub : BitVec 8) (off : BitVec 64) (n : BitVec 16) (l : List Byte) (b : Bool)
    (s : State), Turn r s → readObject st idx.toNat sub.toNat off.toNat n.toNat true (heard r.session.val s.m) = .ok (l, b) →
    Completes (.vopReadDomain r st idx sub off n) s fun t =>
      .vop r.session.val (response r.reqId.toNat (.readDomain st idx.toNat sub.toNat off.toNat n.toNat) ⟨0, b, l⟩) ∈ t.out
      ∧ t.od = s.m.od) ∧
  (∀ (r : Req) (idx : BitVec 16) (sub : BitVec 8) (data : List Byte) (d : ObjDef) (i j g : Nat) (s : State),
    Admitted r idx.toNat sub.toNat 0 data s → lookup idx.toNat sub.toNat = .ok (d, i, j) → d.acc = .rws →
    d.ty ≠ .domain → d.group = some g → idx.toNat ≠ 0x3030 → idx.toNat ≠ 0x3080 →
    Completes (.vopWrite r idx sub data) s fun t =>
      (g, ObjVal.scalar (idx.toNat * 256 + sub.toNat) (beNat data)) ∈ t.mg.staged ∧ t.od = s.m.od
      ∧ .vop r.session.val (response r.reqId.toNat (.write (true, true) idx.toNat sub.toNat data) ⟨0, true, []⟩) ∈ t.out) ∧
  (∀ (r : Req) (idx : BitVec 16) (sub : BitVec 8) (off : BitVec 64) (data : List Byte) (d : ObjDef) (i j g : Nat) (s : State),
    Admitted r idx.toNat sub.toNat off.toNat data s → lookup idx.toNat sub.toNat = .ok (d, i, j) → d.acc = .rws →
    d.ty = .domain → d.group = some g → idx.toNat ≠ 0x3030 → idx.toNat ≠ 0x3080 →
    Completes (.vopWriteDomain r idx sub off data) s fun t =>
      (g, ObjVal.bytes idx.toNat sub.toNat off.toNat data) ∈ t.mg.staged ∧ t.od = s.m.od ∧ t.mg.dom = s.m.mg.dom) ∧
  (∀ (r : Req) (s : State), Turn r s →
    Completes (.vopKeepalive r) s fun t => .vop r.session.val (response r.reqId.toNat .keepalive (bare 0)) ∈ t.out ∧
      (s.m.mg.pend = [] → (session r.session.val t).nextReq = (r.reqId.toNat + 1) % 2 ^ 32
        ∧ (session r.session.val t).lastMsg = s.m.now)) ∧
  (∀ (r : Req) (s : State), Turn r s →
    Completes (.vopClose r) s fun t => session r.session.val t = {} ∧
      .vop r.session.val (response r.reqId.toNat .close (bare 0)) ∈ t.out) ∧
  (∀ (r : Req) (idx : BitVec 16) (sub : BitVec 8) (d : ObjDef) (i j : Nat) (s : State), Turn r s →
    lookup idx.toNat sub.toNat = .ok (d, i, j) →
    Completes (.vopDescribe r idx sub) s fun t =>
      .vop r.session.val (response r.reqId.toNat (.describe idx.toNat sub.toNat) ⟨0, false, toBytes 8 (descriptor d)⟩) ∈ t.out) ∧
  (∀ (k : Fin 8) (o : Fin 5) (s : State), powerless s.m = false → (session k.val s.m).st = 2 →
    (session k.val s.m).dirty.testBit o.val = true →
    (∀ p, (session k.val s.m).sentAt.find? (fun p => decide (p.1 = o.val)) = some p → p.2 + 10000000 ≤ s.m.now) →
    Completes (.notifySend k o) s fun t => (session k.val t).dirty.testBit o.val = false
      ∧ t.mg.ntfNo = (s.m.mg.ntfNo + 1) % 2 ^ 32 ∧ ∃ b, t.out = .vop k.val b :: s.m.out) ∧
  (∀ (k : Fin 8) (o : Fin 5) (s : State), (session k.val s.m).dirty.testBit o.val = false →
    exec (.notifySend k o) s = .next s)

/-- R359, R360: a request without an open session is discarded; in its turn one of another VERSION or with a reserved OP
is answered RANGE, the next REQ_ID is expected, and nothing else of the module changes but the token's and the
session's clocks. -/
def Obligations.UnknownRequests : Prop :=
  (∀ (c : Instr) (r : Req) (s : State), requestOf c = some r → (session r.session.val s.m).st ≠ 2 → exec c s = .next s) ∧
  (∀ (c : Instr) (r : Req) (s : State), requestOf c = some r → (r.version ≠ 1 ∨ r.badOp ≠ none) → powerless s.m = false →
    (session r.session.val s.m).st = 2 → (s.m.mg.holder = 0 ∨ lapseDue s.m = none) →
    r.reqId.toNat = (session r.session.val s.m).nextReq → s.m.mg.waiting = none → (session r.session.val s.m).held = [] →
    s.m.mg.pend = [] →
    Completes c s fun t => (∃ op, .vop r.session.val (response r.reqId.toNat (.unknown op) (bare 5)) ∈ t.out)
      ∧ (session r.session.val t).nextReq = (r.reqId.toNat + 1) % 2 ^ 32
      ∧ t.mg.holder = s.m.mg.holder ∧ t.mg.staged = s.m.mg.staged ∧ t.mg.dom = s.m.mg.dom
      ∧ ∀ p, p ∉ [Area.out, .mg] → Same p s.m t)

/-- R362: the code of a refused write is answered, and it changes neither objects nor staging nor anything pending.
Table 13.5 (R362): the order of the checks, as far as the access, the token, the state and the length. -/
def Obligations.RefusedWrites : Prop :=
  (∀ (r : Req) (idx : BitVec 16) (sub : BitVec 8) (data : List Byte) (c : Nat) (s : State), Turn r s →
    writeChecks (decide (idx.toNat = 0x1120) || decide (holderSeen s.m = (session r.session.val s.m).mgr))
      idx.toNat sub.toNat 0 data s.m = .error c →
    Completes (.vopWrite r idx sub data) s fun t =>
      .vop r.session.val (response r.reqId.toNat (.write (true, true) idx.toNat sub.toNat data) (bare c)) ∈ t.out ∧
      t.od = s.m.od ∧ t.mg.staged = s.m.mg.staged ∧ t.mg.pend = s.m.mg.pend ∧ t.mg.dom = s.m.mg.dom ∧ t.mg.holder = s.m.mg.holder
      ∧ t.arb = s.m.arb ∧ t.cnv = s.m.cnv ∧ t.fdr = s.m.fdr ∧ t.grd = s.m.grd ∧ t.bnk = s.m.bnk ∧ t.tt = s.m.tt
      ∧ t.eng = s.m.eng ∧ t.ldr = s.m.ldr ∧ t.life = s.m.life ∧ t.fc = s.m.fc ∧ t.mode = s.m.mode ∧ t.role = s.m.role) ∧
  (∀ (tok : Bool) (idx sub off : Nat) (data : List Byte) (s : Mach),
    (∀ c, lookup idx sub = .error c → writeChecks tok idx sub off data s = .error c ∧ (c = 0x01 ∨ c = 0x02)) ∧
    (∀ d i j, lookup idx sub = .ok (d, i, j) →
      writeChecks tok idx sub off data s =
        if idx = 0x3011 then .error 0x08
        else if d.acc = .ro then .error 0x03
        else if tok = false then .error 0x04
        else if stateBad idx sub off data s = true then .error 0x09
        else if lengthBad d idx data = true then .error 0x06
        else if reservedBad d idx sub off data s = true then .error 0x0A
        else if rangeBad d idx sub off data s = true then .error 0x05
        else .ok (d, i, j)))

/-- R364 to R374, R351: the token is taken, released and lapses with what was staged under it; COMMIT takes the named
groups' values out of the staging; a STANDBY module that does not acknowledge is waited for no longer; a restore
returns the requesters to their class and burst. -/
def Obligations.TokenAndStagingAct : Prop :=
  (∀ (r : Req) (v : BitVec 8) (s : State), Admitted r 0x1120 0 0 (toBytes 1 v.toNat) s → grantsToken s.m = true →
    s.m.mg.holder = 0 → v.toNat ≠ 0 → v.toNat = (session r.session.val s.m).mgr →
    Completes (.tokenHolderWrite r v) s fun t => t.mg.holder = v.toNat ∧ t.mg.heldAt = s.m.now) ∧
  (∀ (r : Req) (s : State), Admitted r 0x1120 0 0 (toBytes 1 0) s → grantsToken s.m = true →
    s.m.mg.holder = (session r.session.val s.m).mgr →
    Completes (.tokenHolderWrite r 0) s fun t => t.mg.holder = 0 ∧ t.mg.staged = [] ∧ t.mg.pend = s.m.mg.pend) ∧
  (∀ (c : Nat) (s : State), powerless s.m = false → s.m.mg.holder ≠ 0 → lapseDue s.m = some c →
    Completes .tokenLapse s fun t => t.mg.holder = 0 ∧ t.mg.staged = [] ∧ obj Obj.TOKEN_LAST_CAUSE t = c
      ∧ (blanked 43 s.m = false → Latched 43 t)) ∧
  (∀ (s : State), lapseDue s.m = none → exec .tokenLapse s = .next s) ∧
  (∀ (r : Req) (v : BitVec 8) (s : State), Admitted r 0x2F00 0 0 (toBytes 1 v.toNat) s → pageNamed v.toNat s.m = false →
    commitFail v.toNat s.m.mg.staged s.m = none →
    Completes (.stgCommit r v) s fun t => t.mg.staged = s.m.mg.staged.filter (fun p => !v.toNat.testBit p.1)
      ∧ obj Obj.STG_RESULT_CODE t = 0 ∧
      (s.m.mg.staged.filter (fun p => v.toNat.testBit p.1) ≠ [] →
        ∃ p ∈ t.mg.pend, p.vals = s.m.mg.staged.filter (fun p => v.toNat.testBit p.1))) ∧
  (∀ (r : Req) (v : BitVec 8) (f : Fail) (s : State), Admitted r 0x2F00 0 0 (toBytes 1 v.toNat) s →
    ¬ (pageNamed v.toNat s.m = true ∧ s.m.tt.valid.isSome = true) → commitFail v.toNat s.m.mg.staged s.m = some f →
    Completes (.stgCommit r v) s fun t => t.mg.staged = s.m.mg.staged ∧ t.mg.pend = s.m.mg.pend
      ∧ obj Obj.STG_RESULT_CODE t = f.1) ∧
  (∀ (s : State), powerless s.m = false →
    Completes .commitAckTimeout s fun t => ∀ p ∈ t.mg.pend, pendReady p = true ∨ s.m.now < p.at_ + 100000000) ∧
  (∀ (r : Req) (s : State), Admitted r 0x2F10 0 0 (toBytes 1 1) s → pendMask s.m = 0 →
    Completes (.stgRestoreDefaults r 1) s fun t => ∀ i, (requester i t).cls = 4 ∧ (requester i t).burst = 0)

/-! ### Boot, service life and power -/

/-- R386 to R393: the power-on reset, where it is awaited, the end of BOOT, and the confirmation of images once their
time has come. -/
def Obligations.BootAndConfirmAct : Prop :=
  (∀ (b : Bool) (s : State), s.m.life.held = true →
    Completes (.powerOnReset b) s fun t => t.slotB = b ∧ t.life.held = false ∧ (t.mode = .boot ∨ t.mode = .safe)
      ∧ t.role = .none ∧ t.gl.cycles = (s.m.gl.cycles + 1) % 2 ^ 24) ∧
  (∀ (la lb : Bool) (pass : BitVec 14) (s : State), powerless s.m = false → s.m.mode = .boot →
    Completes (.bootComplete la lb pass) s fun t => t.mode ≠ .boot ∧
      t.life.pairsWork = ((bitsBelow pass.toNat 14).take 12).foldl setBit 0
      ∧ t.life.pairsSpare = ((bitsBelow pass.toNat 14).drop 12).foldl setBit 0) ∧
  (∀ (b : Bool) (s : State), s.m.life.held = false → exec (.powerOnReset b) s = .next s) ∧
  (∀ (la lb : Bool) (pass : BitVec 14) (s : State), s.m.mode ≠ .boot → exec (.bootComplete la lb pass) s = .next s) ∧
  (∀ (s : State), powerless s.m = false → s.m.life.trial = true → s.m.life.preferred = s.m.life.running →
    (imgSlot s.m.life.running s.m).st = 1 → obj Obj.BOOT_CONFIRM_S s.m * 1000000000 ≤ confirmedNs s.m →
    Completes .imageConfirm s fun t => t.life.trial = false ∧ (imgSlot s.m.life.running t).st = 2
      ∧ s.m.life.svn ≤ t.life.svn) ∧
  (∀ (s : State), confirmedNs s.m < obj Obj.BOOT_CONFIRM_S s.m * 1000000000 → exec .imageConfirm s = .next s) ∧
  (∀ (k : Nat) (s : State), powerless s.m = false → s.m.life.guestImg = k + 1 →
    (cusSlot k s.m).st = 1 → guestRunning s.m = true → guestSince s.m + obj Obj.BOOT_CONFIRM_S s.m * 1000000000 ≤ s.m.now →
    Completes .customerImageConfirm s fun t => t.life.cusTrial = false ∧ (cusSlot k t).st = 2)

/-- R391, R393, R394: a control pair that fails halts, in BOOT the ROM goes on with the next, and without a spare the
module trips; outside RUN and DRAIN a spare resumes its tasks at once; a guest that does not start is started again,
and one that fails latches APP_CORE and restarts. -/
def Obligations.PairsAndGuestAct : Prop :=
  (∀ (p : Fin 14) (s : State), powerless s.m = false → s.m.mode ≠ .boot → s.m.life.pairsWork.testBit p.val = true →
    Completes (.controlPairLockstep p) s fun t => t.life.pairsWork = clrBit s.m.life.pairsWork p.val
      ∧ t.life.pairWait = s.m.life.pairWait ++ [(p.val, s.m.now)] ∧ (blanked 34 s.m = false → Latched 34 t) ∧
      (popBelow s.m.life.pairsSpare 14 ≤ s.m.life.pairWait.length → s.m.mode ≠ .safe → t.mode = .trip)) ∧
  (∀ (p : Fin 14) (s : State), powerless s.m = false → s.m.mode = .boot → p.val = s.m.life.romPair → p.val < 13 →
    exec (.controlPairLockstep p) s = .next { s with m := { s.m with life := { s.m.life with romPair := p.val + 1 } } }) ∧
  (∀ (p a k : Nat) (rest : List Nat) (s : State), powerless s.m = false → s.m.mode ≠ .run → s.m.mode ≠ .drain →
    s.m.life.pairWait = [(p, a)] → bitsBelow s.m.life.pairsSpare 14 = k :: rest →
    Completes .pairResume s fun t => t.life.pairWait = [] ∧ t.life.pairsWork = setBit s.m.life.pairsWork k
      ∧ t.life.pairsSpare = clrBit s.m.life.pairsSpare k) ∧
  (∀ (s : State), powerless s.m = false → (s.m.life.guest = 1 ∨ s.m.life.guest = 3) →
    s.m.life.guestAt + 60000000000 ≤ s.m.now →
    Completes .guestStartTimeout s fun t => t.life.guest = 1 ∧ t.life.guestAt = s.m.now
      ∧ t.life.guestFails = if s.m.life.guestFails = 2 then 0 else s.m.life.guestFails + 1) ∧
  (∀ (s : State), s.m.life.guest = 0 → exec .appCoreException s = .next s) ∧
  (∀ (s : State), s.m.now < s.m.life.guestAt + 60000000000 → exec .guestStartTimeout s = .next s) ∧
  (∀ (s : State), powerless s.m = false → s.m.life.guest ≠ 0 →
    Completes .appCoreException s fun t => t.life.guest = 3 ∧ t.life.guestAt = s.m.now
      ∧ (blanked 35 s.m = false → Latched 35 t)) ∧
  (∀ (s : State), powerless s.m = false → guestRunning s.m = true →
    Completes .guestWatchdogLapse s fun t => t.life.guest = 3 ∧ t.life.guestAt = s.m.now
      ∧ (blanked 35 s.m = false → Latched 35 t)) ∧
  (∀ (r : Req) (s : State), Admitted r 0x121A 3 0 (toBytes 1 1) s → s.m.life.guest ≠ 0 →
    Completes (.appRestartRequest r 1) s fun t => t.life.guest = 3 ∧ t.life.guestAt = s.m.now
      ∧ (blanked 35 s.m = false → Latched 35 t))

/-- R385, R395, R397: the commands of an image load: BEGIN erases, windows append, VERIFY and its end lead to VERIFIED
or to REFUSED with the reason, CANCEL empties; ACTIVATE_PARTNER is forwarded, and ACTIVATE_SELF restarts the module,
in RUN of an ACTIVE module after a switchover. -/
def Obligations.ImageLoadActs : Prop :=
  (∀ (r : Req) (s : State), Admitted r 0x1208 0 0 (toBytes 1 1) s → s.m.life.upd.erasing = false →
    (updState s.m = 0 ∨ updState s.m = 5) → obj Obj.UPD_LENGTH s.m ≠ 0 →
    Completes (.updBegin r) s fun t => t.life.upd.erasing = true ∧ t.life.upd.bytes = []
      ∧ t.life.upd.len = obj Obj.UPD_LENGTH s.m) ∧
  (∀ (s : State), powerless s.m = false → s.m.life.upd.erasing = true →
    Completes .updEraseComplete s fun t => updState t = 1 ∧ t.life.upd.erasing = false) ∧
  (∀ (s : State), s.m.life.upd.erasing = false → exec .updEraseComplete s = .next s) ∧
  (∀ (s : State), updState s.m ≠ 2 → exec .updVerifyComplete s = .next s) ∧
  (∀ (r : Req) (off : BitVec 64) (data : List Byte) (s : State), Admitted r 0x1210 0 off.toNat data s →
    updState s.m = 1 → off.toNat = s.m.life.upd.bytes.length → off.toNat + data.length ≤ s.m.life.upd.len →
    Completes (.updWindowWrite r off data) s fun t => t.life.upd.bytes = s.m.life.upd.bytes ++ data) ∧
  (∀ (r : Req) (s : State), Admitted r 0x1208 0 0 (toBytes 1 2) s → updState s.m = 1 →
    s.m.life.upd.bytes.length = s.m.life.upd.len →
    Completes (.updVerify r) s fun t => updState t = 2 ∧ t.life.upd.at_ = s.m.now) ∧
  (∀ (s : State), powerless s.m = false → updState s.m = 2 →
    Completes .updVerifyComplete s fun t =>
      match imageFail s.m.life.upd.bytes s.m with
      | none => updState t = 3
      | some q => updState t = 5 ∧ obj Obj.UPD_REFUSAL_REASON t = q) ∧
  (∀ (r : Req) (s : State), Admitted r 0x1208 0 0 (toBytes 1 3) s → (updState s.m ≠ 0 ∨ s.m.life.upd.erasing = true) →
    Completes (.updCancel r) s fun t => updState t = 0 ∧ t.life.upd = {}) ∧
  (∀ (r : Req) (s : State), Admitted r 0x1208 0 0 (toBytes 1 4) s → s.m.role = .active →
    obj Obj.UPD_PARTNER_STATUS s.m = 1 →
    Completes (.activatePartner r) s fun t => ∃ n b, Sent.cell 8 n b ∈ t.out) ∧
  (∀ (r : Req) (s : State), Admitted r 0x1208 0 0 (toBytes 1 5) s → updState s.m = 3 →
    (s.m.mode = .commission ∨ s.m.mode = .stop ∨ s.m.mode = .trip ∨ s.m.mode = .safe ∨
      (s.m.role = .solo ∧ loopOpen s.m = true ∧ partnerHolds s.m = true)) →
    Completes (.activateSelf r) s fun t => (t.mode = .boot ∨ t.mode = .safe) ∧ t.role = .none ∧ t.life.autoStart = true) ∧
  (∀ (r : Req) (s : State), Admitted r 0x1208 0 0 (toBytes 1 5) s → updState s.m = 3 → switchoverOk s.m = true →
    Completes (.activateSelf r) s fun t => t.ptn.switchDue = true ∧ t.life.activate = some s.m.life.upd.kind ∧ t.mode = .run)

/-- R399, R400, R403, R350, R402: attestation reserves a leaf in both memories before it signs, and signs nothing where
a memory does not take it; an ageing monitor past its limit dates its record; a transaction leaves the queue, and
one that neither memory takes latches OD_COMMIT. R409 to R413: the AUX inputs, the power-fail warning, the end of
the hold-up and the restart. -/
def Obligations.ServiceAndPowerAct : Prop :=
  (∀ (r : Req) (k leaf : Nat) (s : State), Admitted r 0x1221 0 0 (toBytes 1 1) s → nextLeaf s.m = some (k, leaf) →
    (∀ a, s.m.life.attAt = some a → a + obj Obj.ATT_MIN_INTERVAL_S s.m * 1000000000 ≤ s.m.now) → s.m.life.attTree = none →
    Completes (.attRequest r 1 (true, true)) s fun t => t.life.attTree = some (k, leaf) ∧ sget 0 t.life.leafA k = leaf + 1
      ∧ sget 0 t.life.leafB k = leaf + 1 ∧ obj Obj.ATT_STATE t = 1) ∧
  (∀ (r : Req) (okB : Bool) (k leaf : Nat) (s : State), Admitted r 0x1221 0 0 (toBytes 1 1) s →
    nextLeaf s.m = some (k, leaf) →
    (∀ a, s.m.life.attAt = some a → a + obj Obj.ATT_MIN_INTERVAL_S s.m * 1000000000 ≤ s.m.now) → s.m.life.attTree = none →
    s.m.life.blocksA = 0 →
    Completes (.attRequest r 1 (false, okB)) s fun t => t.life.attTree = none ∧ obj Obj.ATT_STATE t = 3) ∧
  (∀ (q : Nat × Nat) (s : State), powerless s.m = false → s.m.life.attTree = some q → tasksWait s.m = false →
    Completes .attSignComplete s fun t => t.life.attTree = none ∧ t.life.attAt = some s.m.now ∧ obj Obj.ATT_STATE t = 2) ∧
  (∀ (v : BitVec 32) (u : Fin 128) (s : State), powerless s.m = false →
    Completes (.ageingMonitor 0 ⟨v, u⟩) s fun t => oGet Obj.AGE_PATH_PPM_TO_AGE_EYE_MV 0 0 t = v.toNat ∧
      (oGet Obj.AGE_LIMIT_1_TO_AGE_LIMIT_5 0 0 s.m < v.toNat → sget 0 s.m.life.ageAt 0 = 0 →
        sget 0 t.life.ageAt 0 = s.m.now + 1)) ∧
  (∀ (a b : Bool) (q : NvTx) (rest : List NvTx) (s : State), powerless s.m = false → s.m.mg.nvQueue = q :: rest →
    Completes (.persistentWriteComplete a b) s fun t => t.mg.nvQueue = rest ∧
      (a = false → b = false → s.m.life.blocksA = 0 → s.m.life.blocksB = 0 → blanked 42 s.m = false → Latched 42 t)) ∧
  (∀ (a b : Bool) (s : State), s.m.mg.nvQueue = [] → exec (.persistentWriteComplete a b) s = .next s) ∧
  (∀ (n : Fin 2) (s : State), powerless s.m = false →
    Completes (.auxInputFault n) s fun t => t.fc.lines.testBit (2 + n.val) = true) ∧
  (∀ (n : Fin 2) (s : State), powerless s.m = false →
    Completes (.auxInputReturn n) s fun t => t.fc.lines.testBit (2 + n.val) = false ∧ t.fc.status = s.m.fc.status) ∧
  (∀ (n : Fin 2) (s : State), powerless s.m = false →
    Completes (.auxOvervoltage n) s fun t => t.life.auxOff = setBit s.m.life.auxOff n.val
      ∧ sget 0 t.life.auxOffAt n.val = s.m.now) ∧
  (∀ (n : Fin 2) (s : State), powerless s.m = false → sget 0 s.m.life.auxOffAt n.val + 100000000 ≤ s.m.now →
    Completes (.auxReconnect n) s fun t => t.life.auxOff = clrBit s.m.life.auxOff n.val) ∧
  (∀ (n : Fin 2) (s : State), s.m.now < sget 0 s.m.life.auxOffAt n.val + 100000000 → exec (.auxReconnect n) s = .next s) ∧
  (∀ (s : State), s.m.life.warnAt = none → exec .holdUpEnd s = .next s ∧ exec .powerRestart s = .next s) ∧
  (∀ (s : State), powerless s.m = false → s.m.life.warnAt = none →
    Completes .powerFailWarning s fun t => t.life.warnAt = some s.m.now ∧ t.ptn.gate = true ∧ t.mg.nvQueue = []) ∧
  (∀ (a : Nat) (s : State), s.m.life.warnAt = some a → s.m.life.stopped = false →
    Completes .holdUpEnd s fun t => t.life.stopped = true ∧ t.gl.opBase = opSeconds s.m) ∧
  (∀ (a : Nat) (s : State), s.m.life.warnAt = some a → a + 100000000 ≤ s.m.now →
    Completes .powerRestart s fun t => t.life.held = true ∧ t.mode = .boot ∧ t.role = .none)

/-! ### The block as a whole -/

/-- A step takes the command at the front of the queue and runs it with the rest; on an empty queue a nanosecond passes
(the model's choice: log entry 1). -/
def Obligations.StepTakesFront : Prop :=
  (∀ (c : Instr) (rest : List Instr) (s : State), step { s with pending := c :: rest } = exec c { s with pending := rest }) ∧
  (∀ (s : State), s.pending = [] → step s = .next { s with m := { s.m with now := s.m.now + 1 } })

/-- Every command answers a next state whatever the state: the queue stays as it is and no time passes. -/
def Obligations.EveryCommandAnswers : Prop :=
  ∀ (c : Instr) (s : State), ∃ t, exec c s = .next t ∧ t.pending = s.pending ∧ t.m.now = s.m.now

/-- R411, R412: nothing reaches a module that is held in its power-on reset or has stopped, but what its power supply
does. Table 1.7, R301: a module that follows another's loop, or resynchronises, does not act on the loop's own
timers. -/
def Obligations.IgnoredCommandsChangeNothing : Prop :=
  (∀ (c : Instr) (s : State), powerless s.m = true → (∀ b, c ≠ .powerOnReset b) → c ≠ .holdUpEnd → c ≠ .powerRestart →
    exec c s = .next s) ∧
  (∀ (c : Instr) (s : State), (s.m.role = .standby ∨ s.m.role = .resync) →
    ((∃ k, c = .stringTimeout k) ∨ (∃ p, c = .diodeExit p) ∨ (∃ d, c = .phaseShed d) ∨ (∃ p, c = .warmHoldExpiry p)
      ∨ (∃ p, c = .coldWakeExpiry p) ∨ (∃ d, c = .overloadCreditExhausted d) ∨ c = .allFireEnd ∨ c = .allFireHeldStart
      ∨ c = .cnvRegulateEntry ∨ (∃ p, c = .calOffset p) ∨ c = .binEnd) →
    exec c s = .next s)

/-- R22, R61: in every state other than RUN and DRAIN the module discards tickets without answering them; only a bundle
that has a reason to be discarded is counted. -/
def Obligations.TicketsDiscardedOutsideRun : Prop :=
  ∀ (lane : Fin 8) (macs frame : List Byte) (fcs : Bool) (s : State), s.m.mode ≠ .run → s.m.mode ≠ .drain →
    exec (.ingressBundle lane macs frame fcs) s = .next s ∨
    exec (.ingressBundle lane macs frame fcs) s = .next { s with m := incObj Obj.TKT_BUNDLE_DISCARD s.m } ∨
    exec (.ingressBundle lane macs frame fcs) s = .next { s with m := incObj Obj.TKT_VERSION_DISCARD s.m }

/-- R374: the staged values of the named groups are discarded; pending commits are as they were. -/
def Obligations.DiscardDropsStaged : Prop :=
  ∀ (r : Req) (v : BitVec 8) (s : State), Admitted r 0x2F01 0 0 (toBytes 1 v.toNat) s →
    Completes (.stgDiscard r v) s fun t => t.mg.staged = s.m.mg.staged.filter (fun p => !v.toNat.testBit p.1)
      ∧ t.mg.pend = s.m.mg.pend

/-- R365: outside these roles a write of TOKEN_HOLDER leaves the holder as it was; the module hears its partner while
fewer than three frames have brought nothing of it (the model's reading: log entry 79). -/
def Obligations.TokenGrantedByRole : Prop :=
  ∀ (r : Req) (v : BitVec 8) (s : State), Turn r s →
    ¬ (s.m.role = .active ∨ s.m.role = .solo ∨ s.m.role = .none ∨ (s.m.role = .resync ∧ 3 ≤ s.m.ptn.unheard)) →
    Completes (.tokenHolderWrite r v) s fun t => t.mg.holder = s.m.mg.holder

/-- R39: MAINT is set in every bin that the interval names, whatever the row holds; rows may set it in further bins. -/
def Obligations.MaintenanceBins : Prop :=
  (∀ (b : Nat) (s : Mach), b % obj Obj.TT_MAINT_INTERVAL s = obj Obj.TT_MAINT_INTERVAL s - 1 → rowMaint (row b s) = true) ∧
  (∀ (b : Nat) (s : Mach), s.tt.synth = false → s.tt.bad.contains b = false → rowMaint (pageRow (livePage s) b) = true →
    rowMaint (row b s) = true)

/-- R18, R49: the wrap leaves no task, no fall and no brake hold, ends every grant and voids every request that waits;
only a REQUEST that came early for the new step stays. -/
def Obligations.StepEndClearsArbiter : Prop :=
  ∀ (n0 : Nat) (s : Mach), (arbiterWrap n0 s).arb.tasks = [] ∧ (arbiterWrap n0 s).arb.falls = []
    ∧ (arbiterWrap n0 s).cnv.ff = [] ∧ (∀ p ∈ (arbiterWrap n0 s).tk.trays, p.2.holdStep = none)
    ∧ (∀ p ∈ (arbiterWrap n0 s).arb.reqs, ∀ x ∈ p.2.slots, ∃ q ∈ s.arb.reqs, ∃ y ∈ q.2.slots, q.1 = p.1 ∧ y.early = true
        ∧ x = { y with early := false })

/-- R381, R388: the fuses that change in service only ever change by IMAGE_CONFIRM: the fused SVN rises, and a revoked
key slot stays revoked. -/
def Obligations.FusesOneTime : Prop :=
  ∀ (s t : State), step s = .next t →
    s.m.life.svn ≤ t.m.life.svn ∧ (∀ k, s.m.life.revoked.testBit k = true → t.m.life.revoked.testBit k = true) ∧
    ((∀ rest, s.pending ≠ .imageConfirm :: rest) → t.m.life.svn = s.m.life.svn ∧ t.m.life.revoked = s.m.life.revoked)

/-- The fuse fields stay in their widths: an SVN of at most 64, three revocation bits (Table 14.1). -/
def Obligations.FuseRangeKept : Prop :=
  ∀ (s t : State), s.m.life.svn ≤ 64 → s.m.life.revoked < 8 → step s = .next t →
    t.m.life.svn ≤ 64 ∧ t.m.life.revoked < 8

/-- The fuse fields lie in their widths at reset. -/
def Obligations.FuseRangeAtReset : Prop :=
State.reset.m.life.svn ≤ 64 ∧ State.reset.m.life.revoked < 8

/-- R399: the next leaf of a tree never falls back in either memory, so that no leaf is signed twice. -/
def Obligations.LeavesOnlyRise : Prop :=
  ∀ (s t : State), step s = .next t → ∀ k, sget 0 s.m.life.leafA k ≤ sget 0 t.m.life.leafA k
    ∧ sget 0 s.m.life.leafB k ≤ sget 0 t.m.life.leafB k

/-- A table keeps its canonical form under a write; a read gives what was written last and nothing else changes; equal
contents are equal tables. -/
def Obligations.TablesCanonical : Prop :=
  (∀ (d : Nat) (m : SMap Nat) (k v : Nat), swf d m = true → swf d (sput d m k v) = true) ∧
  (∀ (d : Nat) (m : SMap Nat) (k j v : Nat), swf d m = true → sget d (sput d m k v) j = if j = k then v else sget d m j) ∧
  (∀ (d : Nat) (m n : SMap Nat), swf d m = true → swf d n = true → (∀ k, sget d m k = sget d n k) → m = n)

/-- R3, R21, R350, R364, R386: at power-up every object reads its default, the module is in BOOT without a role, the
converter is OFF, nothing is latched, staged, pending or forwarded, no session is open, the token is free, both
firmware slots are GOOD, and the power-on reset is awaited with an empty queue. -/
def Obligations.ResetValues : Prop :=
  State.reset.pending = [] ∧ (∀ d i j, oGet d i j State.reset.m = d.default i j) ∧
  State.reset.m.mode = .boot ∧ State.reset.m.role = .none ∧ State.reset.m.cnv.st = .off ∧ State.reset.m.bnk.st = .off ∧
  State.reset.m.grd.st = .none ∧ State.reset.m.fc.status = 0 ∧ State.reset.m.fc.lines = 0 ∧ State.reset.m.mg.staged = [] ∧
  State.reset.m.mg.pend = [] ∧ State.reset.m.mg.holder = 0 ∧ (∀ k, session k State.reset.m = {}) ∧
  State.reset.m.life.img.1.st = 2 ∧ State.reset.m.life.img.2.st = 2 ∧ State.reset.m.life.held = true ∧
  (∀ k, sget 0 State.reset.m.ctr.val k = 0) ∧ State.reset.m.gl.queue = [] ∧ State.reset.m.arb.reqs = []

/-! ### What commands leave alone -/

/-- Every command that is no request leaves alone every part of the module that `writes` does not name. -/
def Obligations.FramesOfEvents : Prop :=
  ∀ (c : Instr) (s t : State), requestOf c = none → exec c s = .next t → ∀ p, p ∉ writes c → Same p s.m t.m

/-- A request whose turn has come leaves alone every part of the module that `writes` does not name, whether it is
executed or refused. -/
def Obligations.FramesOfRequests : Prop :=
  ∀ (c : Instr) (r : Req) (s t : State), requestOf c = some r → Turn r s → exec c s = .next t →
    ∀ p, p ∉ writes c → Same p s.m t.m

/-- R318, R321: an event below C3 touches only the collector, the log, the counters, the notifications and the module's
own suspicion. -/
def Obligations.FaultsBelowTripKeep : Prop :=
  (∀ (n : Fin 64) (src : BitVec 16) (data : BitVec 32) (s t : State), fltClass n.val s.m < 3 →
    exec (.faultEvent n src data) s = .next t → ∀ p, p ∉ [Area.fc, .gl, .ctr, .mg, .ptn] → Same p s.m t.m) ∧
  (∀ (s t : State), fltClass 37 s.m < 3 → exec .clockLoss s = .next t →
    ∀ p, p ∉ [Area.fc, .gl, .ctr, .mg, .ptn] → Same p s.m t.m) ∧
  (∀ (p : Fin 14) (s t : State), fltClass 36 s.m < 3 → exec (.watchdogExpiry p) s = .next t →
    ∀ q, q ∉ [Area.fc, .gl, .ctr, .mg, .ptn] → Same q s.m t.m) ∧
  (∀ (l : Fin 8) (s t : State), fltClass 28 s.m < 3 → exec (.fabricLaneDown l) s = .next t →
    ∀ p, p ∉ [Area.fc, .gl, .ctr, .mg, .ptn, .life] → Same p s.m t.m) ∧
  (∀ (n : Fin 2) (s t : State), fltClass (2 + n.val) s.m < 3 → exec (.auxInputFault n) s = .next t →
    ∀ p, p ∉ [Area.fc, .gl, .ctr, .mg, .ptn] → Same p s.m t.m) ∧
  (∀ (w : Bool) (s t : State), fltClass (if w then 31 else 30) s.m < 3 → exec (.heartbeatPathLoss w) s = .next t →
    ∀ p, p ∉ [Area.fc, .gl, .ctr, .mg, .ptn] → Same p s.m t.m)

/-- Every command that `objWrites` bounds leaves alone every object register that it does not name, but
MOD_STATE_SINCE_S, which a change of the operating state dates; a request where its turn has come. -/
def Obligations.ObjectFrames : Prop :=
  ∀ (c : Instr) (l : List ObjDef) (s t : State), objWrites c = some l → (∀ r, requestOf c = some r → Turn r s) →
    exec c s = .next t → ∀ (k d : Nat), k ≠ Obj.MOD_STATE_SINCE_S.key 0 0 → (∀ o ∈ l, ¬ keyOf o k) →
    sget d t.m.od k = sget d s.m.od k
end

