-- ==== Sys2Proof/Laws/Sparse.lean ====
section
/-! SUPPORT. The laws of sparse tables: reading after a write, and every operation keeps the canonical form. -/

namespace Sys2Proof

variable {α : Type}

/-! ### Reading after a write -/

theorem sget_sins (d v : α) (m : SMap α) (k j : Nat) : sget d (sins m k v) j = if j = k then v else sget d m j := by
  induction m with
  | nil =>
    by_cases g : j = k
    · simp [sins, sget, g]
    · have g' : ¬ k = j := fun q => g q.symm
      simp [sins, sget, g, g']
  | cons p r ih =>
    obtain ⟨a, w⟩ := p
    simp only [sins]
    split
    · by_cases g : j = k
      · simp [sget, g]
      · have g' : ¬ k = j := fun q => g q.symm
        simp [sget, g, g']
    · split
      · rename_i e
        subst e
        by_cases g : j = k
        · simp [sget, g]
        · have g' : ¬ k = j := fun q => g q.symm
          simp [sget, g, g']
      · rename_i e
        by_cases g : a = j
        · have g' : ¬ j = k := fun q => e (q ▸ g).symm
          simp [sget, g, g']
        · simp [sget, g, ih]

theorem sget_sdel (d : α) (m : SMap α) (k j : Nat) : sget d (sdel m k) j = if j = k then d else sget d m j := by
  induction m with
  | nil => simp [sdel, sget]
  | cons p r ih =>
    obtain ⟨a, w⟩ := p
    simp only [sdel] at ih
    by_cases h : a = k
    · subst h
      by_cases g : j = a
      · rw [if_pos g] at ih ⊢
        simpa [sdel] using ih
      · have g' : ¬ a = j := fun q => g q.symm
        simp [sdel, sget, g, g', ih]
    · by_cases g : a = j
      · have g' : ¬ j = k := fun q => h (g.trans q)
        simp [sdel, sget, g, g']
      · simp [sdel, sget, h, g, ih]

/-- Reading after a write: the value written at its key, what was there elsewhere. -/
@[simp] theorem sget_sput [DecidableEq α] (d v : α) (m : SMap α) (k j : Nat) :
    sget d (sput d m k v) j = if j = k then v else sget d m j := by
  by_cases h : v = d
  · subst h; simp [sput, sget_sdel]
  · simp [sput, h, sget_sins]

/-- A key that was not written reads as before, whatever it reads by default. -/
theorem sget_sput_ne [DecidableEq α] (d e v : α) (m : SMap α) {k j : Nat} (h : j ≠ k) :
    sget e (sput d m k v) j = sget e m j := by
  by_cases g : v = d
  · subst g; simp only [sput, if_true]
    induction m with
    | nil => rfl
    | cons p r ih =>
      obtain ⟨a, w⟩ := p
      by_cases f : a = k
      · have f' : ¬ a = j := fun q => h (q.symm.trans f)
        simpa [sdel, sget, f, f', show ¬ k = j from fun q => h q.symm] using ih
      · by_cases q : a = j
        · simp [sdel, sget, q, h]
        · simpa [sdel, sget, f, q] using ih
  · rw [sput, if_neg g, ← sget_sins e v m k j |>.trans (if_neg h)]

/-! ### The canonical form -/

theorem swfFrom_le [DecidableEq α] {d : α} {m : SMap α} {a b : Nat} (h : a ≤ b) (w : swfFrom d b m = true) :
    swfFrom d a m = true := by
  cases m with
  | nil => rfl
  | cons p r => simp only [swfFrom, Bool.and_eq_true, decide_eq_true_eq] at w ⊢; exact ⟨⟨by omega, w.1.2⟩, w.2⟩

theorem swfFrom_filter [DecidableEq α] {d : α} (q : Nat × α → Bool) {m : SMap α} {a : Nat} (w : swfFrom d a m = true) :
    swfFrom d a (m.filter q) = true := by
  induction m generalizing a with
  | nil => rfl
  | cons p r ih =>
    simp only [swfFrom, Bool.and_eq_true, decide_eq_true_eq] at w
    cases h : q p
    · rw [List.filter_cons_of_neg (by simp [h])]
      exact ih (swfFrom_le (by omega) w.2)
    · rw [List.filter_cons_of_pos h]
      simp only [swfFrom, Bool.and_eq_true, decide_eq_true_eq]
      exact ⟨w.1, ih w.2⟩

theorem swfFrom_sins [DecidableEq α] {d v : α} {m : SMap α} {a k : Nat} (h : v ≠ d) (g : a ≤ k)
    (w : swfFrom d a m = true) : swfFrom d a (sins m k v) = true := by
  induction m generalizing a with
  | nil => simp [sins, swfFrom, h, g]
  | cons p r ih =>
    obtain ⟨j, x⟩ := p
    simp only [swfFrom, Bool.and_eq_true, decide_eq_true_eq] at w
    simp only [sins]
    split
    · simp only [swfFrom, Bool.and_eq_true, decide_eq_true_eq]
      exact ⟨⟨g, h⟩, ⟨by omega, w.1.2⟩, w.2⟩
    · split
      · rename_i e
        simp only [swfFrom, Bool.and_eq_true, decide_eq_true_eq]
        exact ⟨⟨g, h⟩, e ▸ w.2⟩
      · simp only [swfFrom, Bool.and_eq_true, decide_eq_true_eq]
        exact ⟨w.1, ih (by omega) w.2⟩

/-- A write keeps the canonical form. -/
theorem swf_sput [DecidableEq α] {d : α} {m : SMap α} (k : Nat) (v : α) (w : swf d m = true) :
    swf d (sput d m k v) = true := by
  simp only [swf, sput]
  split
  · exact swfFrom_filter _ w
  · exact swfFrom_sins ‹_› (Nat.zero_le k) w

/-- So do a change in place, a run of writes, and taking a range out or away. -/
theorem swf_smod [DecidableEq α] {d : α} {m : SMap α} (k : Nat) (f : α → α) (w : swf d m = true) :
    swf d (smod d m k f) = true := swf_sput k _ w

theorem swf_sputRun [DecidableEq α] {d : α} (l : List α) {m : SMap α} (k : Nat) (w : swf d m = true) :
    swf d (sputRun d m k l) = true := by
  induction l generalizing m k with
  | nil => exact w
  | cons v r ih => exact ih (k + 1) (swf_sput k v w)

theorem swf_srange [DecidableEq α] {d : α} {m : SMap α} (lo hi : Nat) (w : swf d m = true) :
    swf d (srange m lo hi) = true := swfFrom_filter _ w

theorem swf_sclear [DecidableEq α] {d : α} {m : SMap α} (lo hi : Nat) (w : swf d m = true) :
    swf d (sclear m lo hi) = true := swfFrom_filter _ w

end Sys2Proof
end

