-- ==== Sys2Proof/Laws/State.lean ====
section
/-! SUPPORT. The small lemmas of the state: what each named update of one part leaves alone, field by field, and what a
command does to the queue. -/

namespace Sys2Proof.Machine

/-! ### oSet -/

@[simp] theorem oSet_now (d : ObjDef) (i j v : Nat) (s : Mach) : (oSet d i j v s).now = s.now := rfl
@[simp] theorem oSet_mode (d : ObjDef) (i j v : Nat) (s : Mach) : (oSet d i j v s).mode = s.mode := rfl
@[simp] theorem oSet_role (d : ObjDef) (i j v : Nat) (s : Mach) : (oSet d i j v s).role = s.role := rfl
@[simp] theorem oSet_slotB (d : ObjDef) (i j v : Nat) (s : Mach) : (oSet d i j v s).slotB = s.slotB := rfl
@[simp] theorem oSet_out (d : ObjDef) (i j v : Nat) (s : Mach) : (oSet d i j v s).out = s.out := rfl
@[simp] theorem oSet_free (d : ObjDef) (i j v : Nat) (s : Mach) : (oSet d i j v s).free = s.free := rfl
@[simp] theorem oSet_fc (d : ObjDef) (i j v : Nat) (s : Mach) : (oSet d i j v s).fc = s.fc := rfl
@[simp] theorem oSet_det (d : ObjDef) (i j v : Nat) (s : Mach) : (oSet d i j v s).det = s.det := rfl
@[simp] theorem oSet_gl (d : ObjDef) (i j v : Nat) (s : Mach) : (oSet d i j v s).gl = s.gl := rfl
@[simp] theorem oSet_ctr (d : ObjDef) (i j v : Nat) (s : Mach) : (oSet d i j v s).ctr = s.ctr := rfl
@[simp] theorem oSet_trk (d : ObjDef) (i j v : Nat) (s : Mach) : (oSet d i j v s).trk = s.trk := rfl
@[simp] theorem oSet_tt (d : ObjDef) (i j v : Nat) (s : Mach) : (oSet d i j v s).tt = s.tt := rfl
@[simp] theorem oSet_sig (d : ObjDef) (i j v : Nat) (s : Mach) : (oSet d i j v s).sig = s.sig := rfl
@[simp] theorem oSet_tk (d : ObjDef) (i j v : Nat) (s : Mach) : (oSet d i j v s).tk = s.tk := rfl
@[simp] theorem oSet_arb (d : ObjDef) (i j v : Nat) (s : Mach) : (oSet d i j v s).arb = s.arb := rfl
@[simp] theorem oSet_cnv (d : ObjDef) (i j v : Nat) (s : Mach) : (oSet d i j v s).cnv = s.cnv := rfl
@[simp] theorem oSet_bnk (d : ObjDef) (i j v : Nat) (s : Mach) : (oSet d i j v s).bnk = s.bnk := rfl
@[simp] theorem oSet_grd (d : ObjDef) (i j v : Nat) (s : Mach) : (oSet d i j v s).grd = s.grd := rfl
@[simp] theorem oSet_fdr (d : ObjDef) (i j v : Nat) (s : Mach) : (oSet d i j v s).fdr = s.fdr := rfl
@[simp] theorem oSet_mg (d : ObjDef) (i j v : Nat) (s : Mach) : (oSet d i j v s).mg = s.mg := rfl
@[simp] theorem oSet_lr (d : ObjDef) (i j v : Nat) (s : Mach) : (oSet d i j v s).lr = s.lr := rfl
@[simp] theorem oSet_eng (d : ObjDef) (i j v : Nat) (s : Mach) : (oSet d i j v s).eng = s.eng := rfl
@[simp] theorem oSet_ldr (d : ObjDef) (i j v : Nat) (s : Mach) : (oSet d i j v s).ldr = s.ldr := rfl
@[simp] theorem oSet_ptn (d : ObjDef) (i j v : Nat) (s : Mach) : (oSet d i j v s).ptn = s.ptn := rfl
@[simp] theorem oSet_life (d : ObjDef) (i j v : Nat) (s : Mach) : (oSet d i j v s).life = s.life := rfl

/-! ### setObj -/

@[simp] theorem setObj_now (d : ObjDef) (v : Nat) (s : Mach) : (setObj d v s).now = s.now := rfl
@[simp] theorem setObj_mode (d : ObjDef) (v : Nat) (s : Mach) : (setObj d v s).mode = s.mode := rfl
@[simp] theorem setObj_role (d : ObjDef) (v : Nat) (s : Mach) : (setObj d v s).role = s.role := rfl
@[simp] theorem setObj_slotB (d : ObjDef) (v : Nat) (s : Mach) : (setObj d v s).slotB = s.slotB := rfl
@[simp] theorem setObj_out (d : ObjDef) (v : Nat) (s : Mach) : (setObj d v s).out = s.out := rfl
@[simp] theorem setObj_free (d : ObjDef) (v : Nat) (s : Mach) : (setObj d v s).free = s.free := rfl
@[simp] theorem setObj_fc (d : ObjDef) (v : Nat) (s : Mach) : (setObj d v s).fc = s.fc := rfl
@[simp] theorem setObj_det (d : ObjDef) (v : Nat) (s : Mach) : (setObj d v s).det = s.det := rfl
@[simp] theorem setObj_gl (d : ObjDef) (v : Nat) (s : Mach) : (setObj d v s).gl = s.gl := rfl
@[simp] theorem setObj_ctr (d : ObjDef) (v : Nat) (s : Mach) : (setObj d v s).ctr = s.ctr := rfl
@[simp] theorem setObj_trk (d : ObjDef) (v : Nat) (s : Mach) : (setObj d v s).trk = s.trk := rfl
@[simp] theorem setObj_tt (d : ObjDef) (v : Nat) (s : Mach) : (setObj d v s).tt = s.tt := rfl
@[simp] theorem setObj_sig (d : ObjDef) (v : Nat) (s : Mach) : (setObj d v s).sig = s.sig := rfl
@[simp] theorem setObj_tk (d : ObjDef) (v : Nat) (s : Mach) : (setObj d v s).tk = s.tk := rfl
@[simp] theorem setObj_arb (d : ObjDef) (v : Nat) (s : Mach) : (setObj d v s).arb = s.arb := rfl
@[simp] theorem setObj_cnv (d : ObjDef) (v : Nat) (s : Mach) : (setObj d v s).cnv = s.cnv := rfl
@[simp] theorem setObj_bnk (d : ObjDef) (v : Nat) (s : Mach) : (setObj d v s).bnk = s.bnk := rfl
@[simp] theorem setObj_grd (d : ObjDef) (v : Nat) (s : Mach) : (setObj d v s).grd = s.grd := rfl
@[simp] theorem setObj_fdr (d : ObjDef) (v : Nat) (s : Mach) : (setObj d v s).fdr = s.fdr := rfl
@[simp] theorem setObj_mg (d : ObjDef) (v : Nat) (s : Mach) : (setObj d v s).mg = s.mg := rfl
@[simp] theorem setObj_lr (d : ObjDef) (v : Nat) (s : Mach) : (setObj d v s).lr = s.lr := rfl
@[simp] theorem setObj_eng (d : ObjDef) (v : Nat) (s : Mach) : (setObj d v s).eng = s.eng := rfl
@[simp] theorem setObj_ldr (d : ObjDef) (v : Nat) (s : Mach) : (setObj d v s).ldr = s.ldr := rfl
@[simp] theorem setObj_ptn (d : ObjDef) (v : Nat) (s : Mach) : (setObj d v s).ptn = s.ptn := rfl
@[simp] theorem setObj_life (d : ObjDef) (v : Nat) (s : Mach) : (setObj d v s).life = s.life := rfl

/-! ### oAdd -/

@[simp] theorem oAdd_now (d : ObjDef) (i j k : Nat) (s : Mach) : (oAdd d i j k s).now = s.now := rfl
@[simp] theorem oAdd_mode (d : ObjDef) (i j k : Nat) (s : Mach) : (oAdd d i j k s).mode = s.mode := rfl
@[simp] theorem oAdd_role (d : ObjDef) (i j k : Nat) (s : Mach) : (oAdd d i j k s).role = s.role := rfl
@[simp] theorem oAdd_slotB (d : ObjDef) (i j k : Nat) (s : Mach) : (oAdd d i j k s).slotB = s.slotB := rfl
@[simp] theorem oAdd_out (d : ObjDef) (i j k : Nat) (s : Mach) : (oAdd d i j k s).out = s.out := rfl
@[simp] theorem oAdd_free (d : ObjDef) (i j k : Nat) (s : Mach) : (oAdd d i j k s).free = s.free := rfl
@[simp] theorem oAdd_fc (d : ObjDef) (i j k : Nat) (s : Mach) : (oAdd d i j k s).fc = s.fc := rfl
@[simp] theorem oAdd_det (d : ObjDef) (i j k : Nat) (s : Mach) : (oAdd d i j k s).det = s.det := rfl
@[simp] theorem oAdd_gl (d : ObjDef) (i j k : Nat) (s : Mach) : (oAdd d i j k s).gl = s.gl := rfl
@[simp] theorem oAdd_ctr (d : ObjDef) (i j k : Nat) (s : Mach) : (oAdd d i j k s).ctr = s.ctr := rfl
@[simp] theorem oAdd_trk (d : ObjDef) (i j k : Nat) (s : Mach) : (oAdd d i j k s).trk = s.trk := rfl
@[simp] theorem oAdd_tt (d : ObjDef) (i j k : Nat) (s : Mach) : (oAdd d i j k s).tt = s.tt := rfl
@[simp] theorem oAdd_sig (d : ObjDef) (i j k : Nat) (s : Mach) : (oAdd d i j k s).sig = s.sig := rfl
@[simp] theorem oAdd_tk (d : ObjDef) (i j k : Nat) (s : Mach) : (oAdd d i j k s).tk = s.tk := rfl
@[simp] theorem oAdd_arb (d : ObjDef) (i j k : Nat) (s : Mach) : (oAdd d i j k s).arb = s.arb := rfl
@[simp] theorem oAdd_cnv (d : ObjDef) (i j k : Nat) (s : Mach) : (oAdd d i j k s).cnv = s.cnv := rfl
@[simp] theorem oAdd_bnk (d : ObjDef) (i j k : Nat) (s : Mach) : (oAdd d i j k s).bnk = s.bnk := rfl
@[simp] theorem oAdd_grd (d : ObjDef) (i j k : Nat) (s : Mach) : (oAdd d i j k s).grd = s.grd := rfl
@[simp] theorem oAdd_fdr (d : ObjDef) (i j k : Nat) (s : Mach) : (oAdd d i j k s).fdr = s.fdr := rfl
@[simp] theorem oAdd_mg (d : ObjDef) (i j k : Nat) (s : Mach) : (oAdd d i j k s).mg = s.mg := rfl
@[simp] theorem oAdd_lr (d : ObjDef) (i j k : Nat) (s : Mach) : (oAdd d i j k s).lr = s.lr := rfl
@[simp] theorem oAdd_eng (d : ObjDef) (i j k : Nat) (s : Mach) : (oAdd d i j k s).eng = s.eng := rfl
@[simp] theorem oAdd_ldr (d : ObjDef) (i j k : Nat) (s : Mach) : (oAdd d i j k s).ldr = s.ldr := rfl
@[simp] theorem oAdd_ptn (d : ObjDef) (i j k : Nat) (s : Mach) : (oAdd d i j k s).ptn = s.ptn := rfl
@[simp] theorem oAdd_life (d : ObjDef) (i j k : Nat) (s : Mach) : (oAdd d i j k s).life = s.life := rfl

/-! ### incObj -/

@[simp] theorem incObj_now (d : ObjDef) (s : Mach) : (incObj d s).now = s.now := rfl
@[simp] theorem incObj_mode (d : ObjDef) (s : Mach) : (incObj d s).mode = s.mode := rfl
@[simp] theorem incObj_role (d : ObjDef) (s : Mach) : (incObj d s).role = s.role := rfl
@[simp] theorem incObj_slotB (d : ObjDef) (s : Mach) : (incObj d s).slotB = s.slotB := rfl
@[simp] theorem incObj_out (d : ObjDef) (s : Mach) : (incObj d s).out = s.out := rfl
@[simp] theorem incObj_free (d : ObjDef) (s : Mach) : (incObj d s).free = s.free := rfl
@[simp] theorem incObj_fc (d : ObjDef) (s : Mach) : (incObj d s).fc = s.fc := rfl
@[simp] theorem incObj_det (d : ObjDef) (s : Mach) : (incObj d s).det = s.det := rfl
@[simp] theorem incObj_gl (d : ObjDef) (s : Mach) : (incObj d s).gl = s.gl := rfl
@[simp] theorem incObj_ctr (d : ObjDef) (s : Mach) : (incObj d s).ctr = s.ctr := rfl
@[simp] theorem incObj_trk (d : ObjDef) (s : Mach) : (incObj d s).trk = s.trk := rfl
@[simp] theorem incObj_tt (d : ObjDef) (s : Mach) : (incObj d s).tt = s.tt := rfl
@[simp] theorem incObj_sig (d : ObjDef) (s : Mach) : (incObj d s).sig = s.sig := rfl
@[simp] theorem incObj_tk (d : ObjDef) (s : Mach) : (incObj d s).tk = s.tk := rfl
@[simp] theorem incObj_arb (d : ObjDef) (s : Mach) : (incObj d s).arb = s.arb := rfl
@[simp] theorem incObj_cnv (d : ObjDef) (s : Mach) : (incObj d s).cnv = s.cnv := rfl
@[simp] theorem incObj_bnk (d : ObjDef) (s : Mach) : (incObj d s).bnk = s.bnk := rfl
@[simp] theorem incObj_grd (d : ObjDef) (s : Mach) : (incObj d s).grd = s.grd := rfl
@[simp] theorem incObj_fdr (d : ObjDef) (s : Mach) : (incObj d s).fdr = s.fdr := rfl
@[simp] theorem incObj_mg (d : ObjDef) (s : Mach) : (incObj d s).mg = s.mg := rfl
@[simp] theorem incObj_lr (d : ObjDef) (s : Mach) : (incObj d s).lr = s.lr := rfl
@[simp] theorem incObj_eng (d : ObjDef) (s : Mach) : (incObj d s).eng = s.eng := rfl
@[simp] theorem incObj_ldr (d : ObjDef) (s : Mach) : (incObj d s).ldr = s.ldr := rfl
@[simp] theorem incObj_ptn (d : ObjDef) (s : Mach) : (incObj d s).ptn = s.ptn := rfl
@[simp] theorem incObj_life (d : ObjDef) (s : Mach) : (incObj d s).life = s.life := rfl

/-! ### send -/

@[simp] theorem send_now (x : Sent) (s : Mach) : (send x s).now = s.now := rfl
@[simp] theorem send_mode (x : Sent) (s : Mach) : (send x s).mode = s.mode := rfl
@[simp] theorem send_role (x : Sent) (s : Mach) : (send x s).role = s.role := rfl
@[simp] theorem send_slotB (x : Sent) (s : Mach) : (send x s).slotB = s.slotB := rfl
@[simp] theorem send_od (x : Sent) (s : Mach) : (send x s).od = s.od := rfl
@[simp] theorem send_free (x : Sent) (s : Mach) : (send x s).free = s.free := rfl
@[simp] theorem send_fc (x : Sent) (s : Mach) : (send x s).fc = s.fc := rfl
@[simp] theorem send_det (x : Sent) (s : Mach) : (send x s).det = s.det := rfl
@[simp] theorem send_gl (x : Sent) (s : Mach) : (send x s).gl = s.gl := rfl
@[simp] theorem send_ctr (x : Sent) (s : Mach) : (send x s).ctr = s.ctr := rfl
@[simp] theorem send_trk (x : Sent) (s : Mach) : (send x s).trk = s.trk := rfl
@[simp] theorem send_tt (x : Sent) (s : Mach) : (send x s).tt = s.tt := rfl
@[simp] theorem send_sig (x : Sent) (s : Mach) : (send x s).sig = s.sig := rfl
@[simp] theorem send_tk (x : Sent) (s : Mach) : (send x s).tk = s.tk := rfl
@[simp] theorem send_arb (x : Sent) (s : Mach) : (send x s).arb = s.arb := rfl
@[simp] theorem send_cnv (x : Sent) (s : Mach) : (send x s).cnv = s.cnv := rfl
@[simp] theorem send_bnk (x : Sent) (s : Mach) : (send x s).bnk = s.bnk := rfl
@[simp] theorem send_grd (x : Sent) (s : Mach) : (send x s).grd = s.grd := rfl
@[simp] theorem send_fdr (x : Sent) (s : Mach) : (send x s).fdr = s.fdr := rfl
@[simp] theorem send_mg (x : Sent) (s : Mach) : (send x s).mg = s.mg := rfl
@[simp] theorem send_lr (x : Sent) (s : Mach) : (send x s).lr = s.lr := rfl
@[simp] theorem send_eng (x : Sent) (s : Mach) : (send x s).eng = s.eng := rfl
@[simp] theorem send_ldr (x : Sent) (s : Mach) : (send x s).ldr = s.ldr := rfl
@[simp] theorem send_ptn (x : Sent) (s : Mach) : (send x s).ptn = s.ptn := rfl
@[simp] theorem send_life (x : Sent) (s : Mach) : (send x s).life = s.life := rfl

/-! ### touch -/

@[simp] theorem touch_now (n : Nat) (s : Mach) : (touch n s).now = s.now := rfl
@[simp] theorem touch_mode (n : Nat) (s : Mach) : (touch n s).mode = s.mode := rfl
@[simp] theorem touch_role (n : Nat) (s : Mach) : (touch n s).role = s.role := rfl
@[simp] theorem touch_slotB (n : Nat) (s : Mach) : (touch n s).slotB = s.slotB := rfl
@[simp] theorem touch_od (n : Nat) (s : Mach) : (touch n s).od = s.od := rfl
@[simp] theorem touch_out (n : Nat) (s : Mach) : (touch n s).out = s.out := rfl
@[simp] theorem touch_free (n : Nat) (s : Mach) : (touch n s).free = s.free := rfl
@[simp] theorem touch_fc (n : Nat) (s : Mach) : (touch n s).fc = s.fc := rfl
@[simp] theorem touch_det (n : Nat) (s : Mach) : (touch n s).det = s.det := rfl
@[simp] theorem touch_gl (n : Nat) (s : Mach) : (touch n s).gl = s.gl := rfl
@[simp] theorem touch_ctr (n : Nat) (s : Mach) : (touch n s).ctr = s.ctr := rfl
@[simp] theorem touch_trk (n : Nat) (s : Mach) : (touch n s).trk = s.trk := rfl
@[simp] theorem touch_tt (n : Nat) (s : Mach) : (touch n s).tt = s.tt := rfl
@[simp] theorem touch_sig (n : Nat) (s : Mach) : (touch n s).sig = s.sig := rfl
@[simp] theorem touch_tk (n : Nat) (s : Mach) : (touch n s).tk = s.tk := rfl
@[simp] theorem touch_arb (n : Nat) (s : Mach) : (touch n s).arb = s.arb := rfl
@[simp] theorem touch_cnv (n : Nat) (s : Mach) : (touch n s).cnv = s.cnv := rfl
@[simp] theorem touch_bnk (n : Nat) (s : Mach) : (touch n s).bnk = s.bnk := rfl
@[simp] theorem touch_grd (n : Nat) (s : Mach) : (touch n s).grd = s.grd := rfl
@[simp] theorem touch_fdr (n : Nat) (s : Mach) : (touch n s).fdr = s.fdr := rfl
@[simp] theorem touch_lr (n : Nat) (s : Mach) : (touch n s).lr = s.lr := rfl
@[simp] theorem touch_eng (n : Nat) (s : Mach) : (touch n s).eng = s.eng := rfl
@[simp] theorem touch_ldr (n : Nat) (s : Mach) : (touch n s).ldr = s.ldr := rfl
@[simp] theorem touch_ptn (n : Nat) (s : Mach) : (touch n s).ptn = s.ptn := rfl
@[simp] theorem touch_life (n : Nat) (s : Mach) : (touch n s).life = s.life := rfl

/-! ### setPhase -/

@[simp] theorem setPhase_now (p : Nat) (x : Phase) (s : Mach) : (setPhase p x s).now = s.now := rfl
@[simp] theorem setPhase_mode (p : Nat) (x : Phase) (s : Mach) : (setPhase p x s).mode = s.mode := rfl
@[simp] theorem setPhase_role (p : Nat) (x : Phase) (s : Mach) : (setPhase p x s).role = s.role := rfl
@[simp] theorem setPhase_slotB (p : Nat) (x : Phase) (s : Mach) : (setPhase p x s).slotB = s.slotB := rfl
@[simp] theorem setPhase_od (p : Nat) (x : Phase) (s : Mach) : (setPhase p x s).od = s.od := rfl
@[simp] theorem setPhase_out (p : Nat) (x : Phase) (s : Mach) : (setPhase p x s).out = s.out := rfl
@[simp] theorem setPhase_free (p : Nat) (x : Phase) (s : Mach) : (setPhase p x s).free = s.free := rfl
@[simp] theorem setPhase_fc (p : Nat) (x : Phase) (s : Mach) : (setPhase p x s).fc = s.fc := rfl
@[simp] theorem setPhase_det (p : Nat) (x : Phase) (s : Mach) : (setPhase p x s).det = s.det := rfl
@[simp] theorem setPhase_gl (p : Nat) (x : Phase) (s : Mach) : (setPhase p x s).gl = s.gl := rfl
@[simp] theorem setPhase_ctr (p : Nat) (x : Phase) (s : Mach) : (setPhase p x s).ctr = s.ctr := rfl
@[simp] theorem setPhase_trk (p : Nat) (x : Phase) (s : Mach) : (setPhase p x s).trk = s.trk := rfl
@[simp] theorem setPhase_tt (p : Nat) (x : Phase) (s : Mach) : (setPhase p x s).tt = s.tt := rfl
@[simp] theorem setPhase_sig (p : Nat) (x : Phase) (s : Mach) : (setPhase p x s).sig = s.sig := rfl
@[simp] theorem setPhase_tk (p : Nat) (x : Phase) (s : Mach) : (setPhase p x s).tk = s.tk := rfl
@[simp] theorem setPhase_arb (p : Nat) (x : Phase) (s : Mach) : (setPhase p x s).arb = s.arb := rfl
@[simp] theorem setPhase_bnk (p : Nat) (x : Phase) (s : Mach) : (setPhase p x s).bnk = s.bnk := rfl
@[simp] theorem setPhase_grd (p : Nat) (x : Phase) (s : Mach) : (setPhase p x s).grd = s.grd := rfl
@[simp] theorem setPhase_fdr (p : Nat) (x : Phase) (s : Mach) : (setPhase p x s).fdr = s.fdr := rfl
@[simp] theorem setPhase_mg (p : Nat) (x : Phase) (s : Mach) : (setPhase p x s).mg = s.mg := rfl
@[simp] theorem setPhase_lr (p : Nat) (x : Phase) (s : Mach) : (setPhase p x s).lr = s.lr := rfl
@[simp] theorem setPhase_eng (p : Nat) (x : Phase) (s : Mach) : (setPhase p x s).eng = s.eng := rfl
@[simp] theorem setPhase_ldr (p : Nat) (x : Phase) (s : Mach) : (setPhase p x s).ldr = s.ldr := rfl
@[simp] theorem setPhase_ptn (p : Nat) (x : Phase) (s : Mach) : (setPhase p x s).ptn = s.ptn := rfl
@[simp] theorem setPhase_life (p : Nat) (x : Phase) (s : Mach) : (setPhase p x s).life = s.life := rfl

/-! ### setCard -/

@[simp] theorem setCard_now (c : Nat) (x : Card) (s : Mach) : (setCard c x s).now = s.now := rfl
@[simp] theorem setCard_mode (c : Nat) (x : Card) (s : Mach) : (setCard c x s).mode = s.mode := rfl
@[simp] theorem setCard_role (c : Nat) (x : Card) (s : Mach) : (setCard c x s).role = s.role := rfl
@[simp] theorem setCard_slotB (c : Nat) (x : Card) (s : Mach) : (setCard c x s).slotB = s.slotB := rfl
@[simp] theorem setCard_od (c : Nat) (x : Card) (s : Mach) : (setCard c x s).od = s.od := rfl
@[simp] theorem setCard_out (c : Nat) (x : Card) (s : Mach) : (setCard c x s).out = s.out := rfl
@[simp] theorem setCard_free (c : Nat) (x : Card) (s : Mach) : (setCard c x s).free = s.free := rfl
@[simp] theorem setCard_fc (c : Nat) (x : Card) (s : Mach) : (setCard c x s).fc = s.fc := rfl
@[simp] theorem setCard_det (c : Nat) (x : Card) (s : Mach) : (setCard c x s).det = s.det := rfl
@[simp] theorem setCard_gl (c : Nat) (x : Card) (s : Mach) : (setCard c x s).gl = s.gl := rfl
@[simp] theorem setCard_ctr (c : Nat) (x : Card) (s : Mach) : (setCard c x s).ctr = s.ctr := rfl
@[simp] theorem setCard_trk (c : Nat) (x : Card) (s : Mach) : (setCard c x s).trk = s.trk := rfl
@[simp] theorem setCard_tt (c : Nat) (x : Card) (s : Mach) : (setCard c x s).tt = s.tt := rfl
@[simp] theorem setCard_sig (c : Nat) (x : Card) (s : Mach) : (setCard c x s).sig = s.sig := rfl
@[simp] theorem setCard_tk (c : Nat) (x : Card) (s : Mach) : (setCard c x s).tk = s.tk := rfl
@[simp] theorem setCard_arb (c : Nat) (x : Card) (s : Mach) : (setCard c x s).arb = s.arb := rfl
@[simp] theorem setCard_bnk (c : Nat) (x : Card) (s : Mach) : (setCard c x s).bnk = s.bnk := rfl
@[simp] theorem setCard_grd (c : Nat) (x : Card) (s : Mach) : (setCard c x s).grd = s.grd := rfl
@[simp] theorem setCard_fdr (c : Nat) (x : Card) (s : Mach) : (setCard c x s).fdr = s.fdr := rfl
@[simp] theorem setCard_mg (c : Nat) (x : Card) (s : Mach) : (setCard c x s).mg = s.mg := rfl
@[simp] theorem setCard_lr (c : Nat) (x : Card) (s : Mach) : (setCard c x s).lr = s.lr := rfl
@[simp] theorem setCard_eng (c : Nat) (x : Card) (s : Mach) : (setCard c x s).eng = s.eng := rfl
@[simp] theorem setCard_ldr (c : Nat) (x : Card) (s : Mach) : (setCard c x s).ldr = s.ldr := rfl
@[simp] theorem setCard_ptn (c : Nat) (x : Card) (s : Mach) : (setCard c x s).ptn = s.ptn := rfl
@[simp] theorem setCard_life (c : Nat) (x : Card) (s : Mach) : (setCard c x s).life = s.life := rfl

/-! ### setBankReg -/

@[simp] theorem setBankReg_now (deep : Bool) (x : BankReg) (s : Mach) : (setBankReg deep x s).now = s.now := rfl
@[simp] theorem setBankReg_mode (deep : Bool) (x : BankReg) (s : Mach) : (setBankReg deep x s).mode = s.mode := rfl
@[simp] theorem setBankReg_role (deep : Bool) (x : BankReg) (s : Mach) : (setBankReg deep x s).role = s.role := rfl
@[simp] theorem setBankReg_slotB (deep : Bool) (x : BankReg) (s : Mach) : (setBankReg deep x s).slotB = s.slotB := rfl
@[simp] theorem setBankReg_od (deep : Bool) (x : BankReg) (s : Mach) : (setBankReg deep x s).od = s.od := rfl
@[simp] theorem setBankReg_out (deep : Bool) (x : BankReg) (s : Mach) : (setBankReg deep x s).out = s.out := rfl
@[simp] theorem setBankReg_free (deep : Bool) (x : BankReg) (s : Mach) : (setBankReg deep x s).free = s.free := rfl
@[simp] theorem setBankReg_fc (deep : Bool) (x : BankReg) (s : Mach) : (setBankReg deep x s).fc = s.fc := rfl
@[simp] theorem setBankReg_det (deep : Bool) (x : BankReg) (s : Mach) : (setBankReg deep x s).det = s.det := rfl
@[simp] theorem setBankReg_gl (deep : Bool) (x : BankReg) (s : Mach) : (setBankReg deep x s).gl = s.gl := rfl
@[simp] theorem setBankReg_ctr (deep : Bool) (x : BankReg) (s : Mach) : (setBankReg deep x s).ctr = s.ctr := rfl
@[simp] theorem setBankReg_trk (deep : Bool) (x : BankReg) (s : Mach) : (setBankReg deep x s).trk = s.trk := rfl
@[simp] theorem setBankReg_tt (deep : Bool) (x : BankReg) (s : Mach) : (setBankReg deep x s).tt = s.tt := rfl
@[simp] theorem setBankReg_sig (deep : Bool) (x : BankReg) (s : Mach) : (setBankReg deep x s).sig = s.sig := rfl
@[simp] theorem setBankReg_tk (deep : Bool) (x : BankReg) (s : Mach) : (setBankReg deep x s).tk = s.tk := rfl
@[simp] theorem setBankReg_arb (deep : Bool) (x : BankReg) (s : Mach) : (setBankReg deep x s).arb = s.arb := rfl
@[simp] theorem setBankReg_bnk (deep : Bool) (x : BankReg) (s : Mach) : (setBankReg deep x s).bnk = s.bnk := rfl
@[simp] theorem setBankReg_grd (deep : Bool) (x : BankReg) (s : Mach) : (setBankReg deep x s).grd = s.grd := rfl
@[simp] theorem setBankReg_fdr (deep : Bool) (x : BankReg) (s : Mach) : (setBankReg deep x s).fdr = s.fdr := rfl
@[simp] theorem setBankReg_mg (deep : Bool) (x : BankReg) (s : Mach) : (setBankReg deep x s).mg = s.mg := rfl
@[simp] theorem setBankReg_lr (deep : Bool) (x : BankReg) (s : Mach) : (setBankReg deep x s).lr = s.lr := rfl
@[simp] theorem setBankReg_eng (deep : Bool) (x : BankReg) (s : Mach) : (setBankReg deep x s).eng = s.eng := rfl
@[simp] theorem setBankReg_ldr (deep : Bool) (x : BankReg) (s : Mach) : (setBankReg deep x s).ldr = s.ldr := rfl
@[simp] theorem setBankReg_ptn (deep : Bool) (x : BankReg) (s : Mach) : (setBankReg deep x s).ptn = s.ptn := rfl
@[simp] theorem setBankReg_life (deep : Bool) (x : BankReg) (s : Mach) : (setBankReg deep x s).life = s.life := rfl

/-! ### setFeeder -/

@[simp] theorem setFeeder_now (t : Nat) (x : Feeder) (s : Mach) : (setFeeder t x s).now = s.now := rfl
@[simp] theorem setFeeder_mode (t : Nat) (x : Feeder) (s : Mach) : (setFeeder t x s).mode = s.mode := rfl
@[simp] theorem setFeeder_role (t : Nat) (x : Feeder) (s : Mach) : (setFeeder t x s).role = s.role := rfl
@[simp] theorem setFeeder_slotB (t : Nat) (x : Feeder) (s : Mach) : (setFeeder t x s).slotB = s.slotB := rfl
@[simp] theorem setFeeder_od (t : Nat) (x : Feeder) (s : Mach) : (setFeeder t x s).od = s.od := rfl
@[simp] theorem setFeeder_out (t : Nat) (x : Feeder) (s : Mach) : (setFeeder t x s).out = s.out := rfl
@[simp] theorem setFeeder_free (t : Nat) (x : Feeder) (s : Mach) : (setFeeder t x s).free = s.free := rfl
@[simp] theorem setFeeder_fc (t : Nat) (x : Feeder) (s : Mach) : (setFeeder t x s).fc = s.fc := rfl
@[simp] theorem setFeeder_det (t : Nat) (x : Feeder) (s : Mach) : (setFeeder t x s).det = s.det := rfl
@[simp] theorem setFeeder_gl (t : Nat) (x : Feeder) (s : Mach) : (setFeeder t x s).gl = s.gl := rfl
@[simp] theorem setFeeder_ctr (t : Nat) (x : Feeder) (s : Mach) : (setFeeder t x s).ctr = s.ctr := rfl
@[simp] theorem setFeeder_trk (t : Nat) (x : Feeder) (s : Mach) : (setFeeder t x s).trk = s.trk := rfl
@[simp] theorem setFeeder_tt (t : Nat) (x : Feeder) (s : Mach) : (setFeeder t x s).tt = s.tt := rfl
@[simp] theorem setFeeder_sig (t : Nat) (x : Feeder) (s : Mach) : (setFeeder t x s).sig = s.sig := rfl
@[simp] theorem setFeeder_tk (t : Nat) (x : Feeder) (s : Mach) : (setFeeder t x s).tk = s.tk := rfl
@[simp] theorem setFeeder_arb (t : Nat) (x : Feeder) (s : Mach) : (setFeeder t x s).arb = s.arb := rfl
@[simp] theorem setFeeder_cnv (t : Nat) (x : Feeder) (s : Mach) : (setFeeder t x s).cnv = s.cnv := rfl
@[simp] theorem setFeeder_bnk (t : Nat) (x : Feeder) (s : Mach) : (setFeeder t x s).bnk = s.bnk := rfl
@[simp] theorem setFeeder_grd (t : Nat) (x : Feeder) (s : Mach) : (setFeeder t x s).grd = s.grd := rfl
@[simp] theorem setFeeder_mg (t : Nat) (x : Feeder) (s : Mach) : (setFeeder t x s).mg = s.mg := rfl
@[simp] theorem setFeeder_lr (t : Nat) (x : Feeder) (s : Mach) : (setFeeder t x s).lr = s.lr := rfl
@[simp] theorem setFeeder_eng (t : Nat) (x : Feeder) (s : Mach) : (setFeeder t x s).eng = s.eng := rfl
@[simp] theorem setFeeder_ldr (t : Nat) (x : Feeder) (s : Mach) : (setFeeder t x s).ldr = s.ldr := rfl
@[simp] theorem setFeeder_ptn (t : Nat) (x : Feeder) (s : Mach) : (setFeeder t x s).ptn = s.ptn := rfl
@[simp] theorem setFeeder_life (t : Nat) (x : Feeder) (s : Mach) : (setFeeder t x s).life = s.life := rfl

/-! ### setCst -/

@[simp] theorem setCst_now (t x : Nat) (s : Mach) : (setCst t x s).now = s.now := rfl
@[simp] theorem setCst_mode (t x : Nat) (s : Mach) : (setCst t x s).mode = s.mode := rfl
@[simp] theorem setCst_role (t x : Nat) (s : Mach) : (setCst t x s).role = s.role := rfl
@[simp] theorem setCst_slotB (t x : Nat) (s : Mach) : (setCst t x s).slotB = s.slotB := rfl
@[simp] theorem setCst_od (t x : Nat) (s : Mach) : (setCst t x s).od = s.od := rfl
@[simp] theorem setCst_out (t x : Nat) (s : Mach) : (setCst t x s).out = s.out := rfl
@[simp] theorem setCst_free (t x : Nat) (s : Mach) : (setCst t x s).free = s.free := rfl
@[simp] theorem setCst_fc (t x : Nat) (s : Mach) : (setCst t x s).fc = s.fc := rfl
@[simp] theorem setCst_det (t x : Nat) (s : Mach) : (setCst t x s).det = s.det := rfl
@[simp] theorem setCst_gl (t x : Nat) (s : Mach) : (setCst t x s).gl = s.gl := rfl
@[simp] theorem setCst_ctr (t x : Nat) (s : Mach) : (setCst t x s).ctr = s.ctr := rfl
@[simp] theorem setCst_trk (t x : Nat) (s : Mach) : (setCst t x s).trk = s.trk := rfl
@[simp] theorem setCst_tt (t x : Nat) (s : Mach) : (setCst t x s).tt = s.tt := rfl
@[simp] theorem setCst_sig (t x : Nat) (s : Mach) : (setCst t x s).sig = s.sig := rfl
@[simp] theorem setCst_tk (t x : Nat) (s : Mach) : (setCst t x s).tk = s.tk := rfl
@[simp] theorem setCst_arb (t x : Nat) (s : Mach) : (setCst t x s).arb = s.arb := rfl
@[simp] theorem setCst_cnv (t x : Nat) (s : Mach) : (setCst t x s).cnv = s.cnv := rfl
@[simp] theorem setCst_bnk (t x : Nat) (s : Mach) : (setCst t x s).bnk = s.bnk := rfl
@[simp] theorem setCst_grd (t x : Nat) (s : Mach) : (setCst t x s).grd = s.grd := rfl
@[simp] theorem setCst_mg (t x : Nat) (s : Mach) : (setCst t x s).mg = s.mg := rfl
@[simp] theorem setCst_lr (t x : Nat) (s : Mach) : (setCst t x s).lr = s.lr := rfl
@[simp] theorem setCst_eng (t x : Nat) (s : Mach) : (setCst t x s).eng = s.eng := rfl
@[simp] theorem setCst_ldr (t x : Nat) (s : Mach) : (setCst t x s).ldr = s.ldr := rfl
@[simp] theorem setCst_ptn (t x : Nat) (s : Mach) : (setCst t x s).ptn = s.ptn := rfl
@[simp] theorem setCst_life (t x : Nat) (s : Mach) : (setCst t x s).life = s.life := rfl

/-! ### setRect -/

@[simp] theorem setRect_now (r : Nat) (x : Rect) (s : Mach) : (setRect r x s).now = s.now := rfl
@[simp] theorem setRect_mode (r : Nat) (x : Rect) (s : Mach) : (setRect r x s).mode = s.mode := rfl
@[simp] theorem setRect_role (r : Nat) (x : Rect) (s : Mach) : (setRect r x s).role = s.role := rfl
@[simp] theorem setRect_slotB (r : Nat) (x : Rect) (s : Mach) : (setRect r x s).slotB = s.slotB := rfl
@[simp] theorem setRect_od (r : Nat) (x : Rect) (s : Mach) : (setRect r x s).od = s.od := rfl
@[simp] theorem setRect_out (r : Nat) (x : Rect) (s : Mach) : (setRect r x s).out = s.out := rfl
@[simp] theorem setRect_free (r : Nat) (x : Rect) (s : Mach) : (setRect r x s).free = s.free := rfl
@[simp] theorem setRect_fc (r : Nat) (x : Rect) (s : Mach) : (setRect r x s).fc = s.fc := rfl
@[simp] theorem setRect_det (r : Nat) (x : Rect) (s : Mach) : (setRect r x s).det = s.det := rfl
@[simp] theorem setRect_gl (r : Nat) (x : Rect) (s : Mach) : (setRect r x s).gl = s.gl := rfl
@[simp] theorem setRect_ctr (r : Nat) (x : Rect) (s : Mach) : (setRect r x s).ctr = s.ctr := rfl
@[simp] theorem setRect_trk (r : Nat) (x : Rect) (s : Mach) : (setRect r x s).trk = s.trk := rfl
@[simp] theorem setRect_tt (r : Nat) (x : Rect) (s : Mach) : (setRect r x s).tt = s.tt := rfl
@[simp] theorem setRect_sig (r : Nat) (x : Rect) (s : Mach) : (setRect r x s).sig = s.sig := rfl
@[simp] theorem setRect_tk (r : Nat) (x : Rect) (s : Mach) : (setRect r x s).tk = s.tk := rfl
@[simp] theorem setRect_arb (r : Nat) (x : Rect) (s : Mach) : (setRect r x s).arb = s.arb := rfl
@[simp] theorem setRect_cnv (r : Nat) (x : Rect) (s : Mach) : (setRect r x s).cnv = s.cnv := rfl
@[simp] theorem setRect_bnk (r : Nat) (x : Rect) (s : Mach) : (setRect r x s).bnk = s.bnk := rfl
@[simp] theorem setRect_fdr (r : Nat) (x : Rect) (s : Mach) : (setRect r x s).fdr = s.fdr := rfl
@[simp] theorem setRect_mg (r : Nat) (x : Rect) (s : Mach) : (setRect r x s).mg = s.mg := rfl
@[simp] theorem setRect_lr (r : Nat) (x : Rect) (s : Mach) : (setRect r x s).lr = s.lr := rfl
@[simp] theorem setRect_eng (r : Nat) (x : Rect) (s : Mach) : (setRect r x s).eng = s.eng := rfl
@[simp] theorem setRect_ldr (r : Nat) (x : Rect) (s : Mach) : (setRect r x s).ldr = s.ldr := rfl
@[simp] theorem setRect_ptn (r : Nat) (x : Rect) (s : Mach) : (setRect r x s).ptn = s.ptn := rfl
@[simp] theorem setRect_life (r : Nat) (x : Rect) (s : Mach) : (setRect r x s).life = s.life := rfl

/-! ### setFeed -/

@[simp] theorem setFeed_now (f : Nat) (x : Feed) (s : Mach) : (setFeed f x s).now = s.now := rfl
@[simp] theorem setFeed_mode (f : Nat) (x : Feed) (s : Mach) : (setFeed f x s).mode = s.mode := rfl
@[simp] theorem setFeed_role (f : Nat) (x : Feed) (s : Mach) : (setFeed f x s).role = s.role := rfl
@[simp] theorem setFeed_slotB (f : Nat) (x : Feed) (s : Mach) : (setFeed f x s).slotB = s.slotB := rfl
@[simp] theorem setFeed_od (f : Nat) (x : Feed) (s : Mach) : (setFeed f x s).od = s.od := rfl
@[simp] theorem setFeed_out (f : Nat) (x : Feed) (s : Mach) : (setFeed f x s).out = s.out := rfl
@[simp] theorem setFeed_free (f : Nat) (x : Feed) (s : Mach) : (setFeed f x s).free = s.free := rfl
@[simp] theorem setFeed_fc (f : Nat) (x : Feed) (s : Mach) : (setFeed f x s).fc = s.fc := rfl
@[simp] theorem setFeed_det (f : Nat) (x : Feed) (s : Mach) : (setFeed f x s).det = s.det := rfl
@[simp] theorem setFeed_gl (f : Nat) (x : Feed) (s : Mach) : (setFeed f x s).gl = s.gl := rfl
@[simp] theorem setFeed_ctr (f : Nat) (x : Feed) (s : Mach) : (setFeed f x s).ctr = s.ctr := rfl
@[simp] theorem setFeed_trk (f : Nat) (x : Feed) (s : Mach) : (setFeed f x s).trk = s.trk := rfl
@[simp] theorem setFeed_tt (f : Nat) (x : Feed) (s : Mach) : (setFeed f x s).tt = s.tt := rfl
@[simp] theorem setFeed_sig (f : Nat) (x : Feed) (s : Mach) : (setFeed f x s).sig = s.sig := rfl
@[simp] theorem setFeed_tk (f : Nat) (x : Feed) (s : Mach) : (setFeed f x s).tk = s.tk := rfl
@[simp] theorem setFeed_arb (f : Nat) (x : Feed) (s : Mach) : (setFeed f x s).arb = s.arb := rfl
@[simp] theorem setFeed_cnv (f : Nat) (x : Feed) (s : Mach) : (setFeed f x s).cnv = s.cnv := rfl
@[simp] theorem setFeed_bnk (f : Nat) (x : Feed) (s : Mach) : (setFeed f x s).bnk = s.bnk := rfl
@[simp] theorem setFeed_fdr (f : Nat) (x : Feed) (s : Mach) : (setFeed f x s).fdr = s.fdr := rfl
@[simp] theorem setFeed_mg (f : Nat) (x : Feed) (s : Mach) : (setFeed f x s).mg = s.mg := rfl
@[simp] theorem setFeed_lr (f : Nat) (x : Feed) (s : Mach) : (setFeed f x s).lr = s.lr := rfl
@[simp] theorem setFeed_eng (f : Nat) (x : Feed) (s : Mach) : (setFeed f x s).eng = s.eng := rfl
@[simp] theorem setFeed_ldr (f : Nat) (x : Feed) (s : Mach) : (setFeed f x s).ldr = s.ldr := rfl
@[simp] theorem setFeed_ptn (f : Nat) (x : Feed) (s : Mach) : (setFeed f x s).ptn = s.ptn := rfl
@[simp] theorem setFeed_life (f : Nat) (x : Feed) (s : Mach) : (setFeed f x s).life = s.life := rfl

/-! ### setRequester -/

@[simp] theorem setRequester_now (i : Nat) (x : Requester) (s : Mach) : (setRequester i x s).now = s.now := rfl
@[simp] theorem setRequester_mode (i : Nat) (x : Requester) (s : Mach) : (setRequester i x s).mode = s.mode := rfl
@[simp] theorem setRequester_role (i : Nat) (x : Requester) (s : Mach) : (setRequester i x s).role = s.role := rfl
@[simp] theorem setRequester_slotB (i : Nat) (x : Requester) (s : Mach) : (setRequester i x s).slotB = s.slotB := rfl
@[simp] theorem setRequester_od (i : Nat) (x : Requester) (s : Mach) : (setRequester i x s).od = s.od := rfl
@[simp] theorem setRequester_out (i : Nat) (x : Requester) (s : Mach) : (setRequester i x s).out = s.out := rfl
@[simp] theorem setRequester_free (i : Nat) (x : Requester) (s : Mach) : (setRequester i x s).free = s.free := rfl
@[simp] theorem setRequester_fc (i : Nat) (x : Requester) (s : Mach) : (setRequester i x s).fc = s.fc := rfl
@[simp] theorem setRequester_det (i : Nat) (x : Requester) (s : Mach) : (setRequester i x s).det = s.det := rfl
@[simp] theorem setRequester_gl (i : Nat) (x : Requester) (s : Mach) : (setRequester i x s).gl = s.gl := rfl
@[simp] theorem setRequester_ctr (i : Nat) (x : Requester) (s : Mach) : (setRequester i x s).ctr = s.ctr := rfl
@[simp] theorem setRequester_trk (i : Nat) (x : Requester) (s : Mach) : (setRequester i x s).trk = s.trk := rfl
@[simp] theorem setRequester_tt (i : Nat) (x : Requester) (s : Mach) : (setRequester i x s).tt = s.tt := rfl
@[simp] theorem setRequester_sig (i : Nat) (x : Requester) (s : Mach) : (setRequester i x s).sig = s.sig := rfl
@[simp] theorem setRequester_tk (i : Nat) (x : Requester) (s : Mach) : (setRequester i x s).tk = s.tk := rfl
@[simp] theorem setRequester_cnv (i : Nat) (x : Requester) (s : Mach) : (setRequester i x s).cnv = s.cnv := rfl
@[simp] theorem setRequester_bnk (i : Nat) (x : Requester) (s : Mach) : (setRequester i x s).bnk = s.bnk := rfl
@[simp] theorem setRequester_grd (i : Nat) (x : Requester) (s : Mach) : (setRequester i x s).grd = s.grd := rfl
@[simp] theorem setRequester_fdr (i : Nat) (x : Requester) (s : Mach) : (setRequester i x s).fdr = s.fdr := rfl
@[simp] theorem setRequester_mg (i : Nat) (x : Requester) (s : Mach) : (setRequester i x s).mg = s.mg := rfl
@[simp] theorem setRequester_lr (i : Nat) (x : Requester) (s : Mach) : (setRequester i x s).lr = s.lr := rfl
@[simp] theorem setRequester_eng (i : Nat) (x : Requester) (s : Mach) : (setRequester i x s).eng = s.eng := rfl
@[simp] theorem setRequester_ldr (i : Nat) (x : Requester) (s : Mach) : (setRequester i x s).ldr = s.ldr := rfl
@[simp] theorem setRequester_ptn (i : Nat) (x : Requester) (s : Mach) : (setRequester i x s).ptn = s.ptn := rfl
@[simp] theorem setRequester_life (i : Nat) (x : Requester) (s : Mach) : (setRequester i x s).life = s.life := rfl

/-! ### setTray -/

@[simp] theorem setTray_now (t : Nat) (x : TrayTk) (s : Mach) : (setTray t x s).now = s.now := rfl
@[simp] theorem setTray_mode (t : Nat) (x : TrayTk) (s : Mach) : (setTray t x s).mode = s.mode := rfl
@[simp] theorem setTray_role (t : Nat) (x : TrayTk) (s : Mach) : (setTray t x s).role = s.role := rfl
@[simp] theorem setTray_slotB (t : Nat) (x : TrayTk) (s : Mach) : (setTray t x s).slotB = s.slotB := rfl
@[simp] theorem setTray_od (t : Nat) (x : TrayTk) (s : Mach) : (setTray t x s).od = s.od := rfl
@[simp] theorem setTray_out (t : Nat) (x : TrayTk) (s : Mach) : (setTray t x s).out = s.out := rfl
@[simp] theorem setTray_free (t : Nat) (x : TrayTk) (s : Mach) : (setTray t x s).free = s.free := rfl
@[simp] theorem setTray_fc (t : Nat) (x : TrayTk) (s : Mach) : (setTray t x s).fc = s.fc := rfl
@[simp] theorem setTray_det (t : Nat) (x : TrayTk) (s : Mach) : (setTray t x s).det = s.det := rfl
@[simp] theorem setTray_gl (t : Nat) (x : TrayTk) (s : Mach) : (setTray t x s).gl = s.gl := rfl
@[simp] theorem setTray_ctr (t : Nat) (x : TrayTk) (s : Mach) : (setTray t x s).ctr = s.ctr := rfl
@[simp] theorem setTray_trk (t : Nat) (x : TrayTk) (s : Mach) : (setTray t x s).trk = s.trk := rfl
@[simp] theorem setTray_tt (t : Nat) (x : TrayTk) (s : Mach) : (setTray t x s).tt = s.tt := rfl
@[simp] theorem setTray_sig (t : Nat) (x : TrayTk) (s : Mach) : (setTray t x s).sig = s.sig := rfl
@[simp] theorem setTray_arb (t : Nat) (x : TrayTk) (s : Mach) : (setTray t x s).arb = s.arb := rfl
@[simp] theorem setTray_cnv (t : Nat) (x : TrayTk) (s : Mach) : (setTray t x s).cnv = s.cnv := rfl
@[simp] theorem setTray_bnk (t : Nat) (x : TrayTk) (s : Mach) : (setTray t x s).bnk = s.bnk := rfl
@[simp] theorem setTray_grd (t : Nat) (x : TrayTk) (s : Mach) : (setTray t x s).grd = s.grd := rfl
@[simp] theorem setTray_fdr (t : Nat) (x : TrayTk) (s : Mach) : (setTray t x s).fdr = s.fdr := rfl
@[simp] theorem setTray_mg (t : Nat) (x : TrayTk) (s : Mach) : (setTray t x s).mg = s.mg := rfl
@[simp] theorem setTray_lr (t : Nat) (x : TrayTk) (s : Mach) : (setTray t x s).lr = s.lr := rfl
@[simp] theorem setTray_eng (t : Nat) (x : TrayTk) (s : Mach) : (setTray t x s).eng = s.eng := rfl
@[simp] theorem setTray_ldr (t : Nat) (x : TrayTk) (s : Mach) : (setTray t x s).ldr = s.ldr := rfl
@[simp] theorem setTray_ptn (t : Nat) (x : TrayTk) (s : Mach) : (setTray t x s).ptn = s.ptn := rfl
@[simp] theorem setTray_life (t : Nat) (x : TrayTk) (s : Mach) : (setTray t x s).life = s.life := rfl

/-! ### setUnit -/

@[simp] theorem setUnit_now (u : Nat) (x : Unit) (s : Mach) : (setUnit u x s).now = s.now := rfl
@[simp] theorem setUnit_mode (u : Nat) (x : Unit) (s : Mach) : (setUnit u x s).mode = s.mode := rfl
@[simp] theorem setUnit_role (u : Nat) (x : Unit) (s : Mach) : (setUnit u x s).role = s.role := rfl
@[simp] theorem setUnit_slotB (u : Nat) (x : Unit) (s : Mach) : (setUnit u x s).slotB = s.slotB := rfl
@[simp] theorem setUnit_od (u : Nat) (x : Unit) (s : Mach) : (setUnit u x s).od = s.od := rfl
@[simp] theorem setUnit_out (u : Nat) (x : Unit) (s : Mach) : (setUnit u x s).out = s.out := rfl
@[simp] theorem setUnit_free (u : Nat) (x : Unit) (s : Mach) : (setUnit u x s).free = s.free := rfl
@[simp] theorem setUnit_fc (u : Nat) (x : Unit) (s : Mach) : (setUnit u x s).fc = s.fc := rfl
@[simp] theorem setUnit_det (u : Nat) (x : Unit) (s : Mach) : (setUnit u x s).det = s.det := rfl
@[simp] theorem setUnit_gl (u : Nat) (x : Unit) (s : Mach) : (setUnit u x s).gl = s.gl := rfl
@[simp] theorem setUnit_ctr (u : Nat) (x : Unit) (s : Mach) : (setUnit u x s).ctr = s.ctr := rfl
@[simp] theorem setUnit_trk (u : Nat) (x : Unit) (s : Mach) : (setUnit u x s).trk = s.trk := rfl
@[simp] theorem setUnit_tt (u : Nat) (x : Unit) (s : Mach) : (setUnit u x s).tt = s.tt := rfl
@[simp] theorem setUnit_sig (u : Nat) (x : Unit) (s : Mach) : (setUnit u x s).sig = s.sig := rfl
@[simp] theorem setUnit_tk (u : Nat) (x : Unit) (s : Mach) : (setUnit u x s).tk = s.tk := rfl
@[simp] theorem setUnit_arb (u : Nat) (x : Unit) (s : Mach) : (setUnit u x s).arb = s.arb := rfl
@[simp] theorem setUnit_cnv (u : Nat) (x : Unit) (s : Mach) : (setUnit u x s).cnv = s.cnv := rfl
@[simp] theorem setUnit_grd (u : Nat) (x : Unit) (s : Mach) : (setUnit u x s).grd = s.grd := rfl
@[simp] theorem setUnit_fdr (u : Nat) (x : Unit) (s : Mach) : (setUnit u x s).fdr = s.fdr := rfl
@[simp] theorem setUnit_mg (u : Nat) (x : Unit) (s : Mach) : (setUnit u x s).mg = s.mg := rfl
@[simp] theorem setUnit_lr (u : Nat) (x : Unit) (s : Mach) : (setUnit u x s).lr = s.lr := rfl
@[simp] theorem setUnit_eng (u : Nat) (x : Unit) (s : Mach) : (setUnit u x s).eng = s.eng := rfl
@[simp] theorem setUnit_ldr (u : Nat) (x : Unit) (s : Mach) : (setUnit u x s).ldr = s.ldr := rfl
@[simp] theorem setUnit_ptn (u : Nat) (x : Unit) (s : Mach) : (setUnit u x s).ptn = s.ptn := rfl
@[simp] theorem setUnit_life (u : Nat) (x : Unit) (s : Mach) : (setUnit u x s).life = s.life := rfl

/-! ### setSession -/

@[simp] theorem setSession_now (k : Nat) (x : Session) (s : Mach) : (setSession k x s).now = s.now := rfl
@[simp] theorem setSession_mode (k : Nat) (x : Session) (s : Mach) : (setSession k x s).mode = s.mode := rfl
@[simp] theorem setSession_role (k : Nat) (x : Session) (s : Mach) : (setSession k x s).role = s.role := rfl
@[simp] theorem setSession_slotB (k : Nat) (x : Session) (s : Mach) : (setSession k x s).slotB = s.slotB := rfl
@[simp] theorem setSession_od (k : Nat) (x : Session) (s : Mach) : (setSession k x s).od = s.od := rfl
@[simp] theorem setSession_out (k : Nat) (x : Session) (s : Mach) : (setSession k x s).out = s.out := rfl
@[simp] theorem setSession_free (k : Nat) (x : Session) (s : Mach) : (setSession k x s).free = s.free := rfl
@[simp] theorem setSession_fc (k : Nat) (x : Session) (s : Mach) : (setSession k x s).fc = s.fc := rfl
@[simp] theorem setSession_det (k : Nat) (x : Session) (s : Mach) : (setSession k x s).det = s.det := rfl
@[simp] theorem setSession_gl (k : Nat) (x : Session) (s : Mach) : (setSession k x s).gl = s.gl := rfl
@[simp] theorem setSession_ctr (k : Nat) (x : Session) (s : Mach) : (setSession k x s).ctr = s.ctr := rfl
@[simp] theorem setSession_trk (k : Nat) (x : Session) (s : Mach) : (setSession k x s).trk = s.trk := rfl
@[simp] theorem setSession_tt (k : Nat) (x : Session) (s : Mach) : (setSession k x s).tt = s.tt := rfl
@[simp] theorem setSession_sig (k : Nat) (x : Session) (s : Mach) : (setSession k x s).sig = s.sig := rfl
@[simp] theorem setSession_tk (k : Nat) (x : Session) (s : Mach) : (setSession k x s).tk = s.tk := rfl
@[simp] theorem setSession_arb (k : Nat) (x : Session) (s : Mach) : (setSession k x s).arb = s.arb := rfl
@[simp] theorem setSession_cnv (k : Nat) (x : Session) (s : Mach) : (setSession k x s).cnv = s.cnv := rfl
@[simp] theorem setSession_bnk (k : Nat) (x : Session) (s : Mach) : (setSession k x s).bnk = s.bnk := rfl
@[simp] theorem setSession_grd (k : Nat) (x : Session) (s : Mach) : (setSession k x s).grd = s.grd := rfl
@[simp] theorem setSession_fdr (k : Nat) (x : Session) (s : Mach) : (setSession k x s).fdr = s.fdr := rfl
@[simp] theorem setSession_lr (k : Nat) (x : Session) (s : Mach) : (setSession k x s).lr = s.lr := rfl
@[simp] theorem setSession_eng (k : Nat) (x : Session) (s : Mach) : (setSession k x s).eng = s.eng := rfl
@[simp] theorem setSession_ldr (k : Nat) (x : Session) (s : Mach) : (setSession k x s).ldr = s.ldr := rfl
@[simp] theorem setSession_ptn (k : Nat) (x : Session) (s : Mach) : (setSession k x s).ptn = s.ptn := rfl
@[simp] theorem setSession_life (k : Nat) (x : Session) (s : Mach) : (setSession k x s).life = s.life := rfl

/-! ### setCoach -/

@[simp] theorem setCoach_now (c : Nat) (x : Coach) (s : Mach) : (setCoach c x s).now = s.now := rfl
@[simp] theorem setCoach_mode (c : Nat) (x : Coach) (s : Mach) : (setCoach c x s).mode = s.mode := rfl
@[simp] theorem setCoach_role (c : Nat) (x : Coach) (s : Mach) : (setCoach c x s).role = s.role := rfl
@[simp] theorem setCoach_slotB (c : Nat) (x : Coach) (s : Mach) : (setCoach c x s).slotB = s.slotB := rfl
@[simp] theorem setCoach_od (c : Nat) (x : Coach) (s : Mach) : (setCoach c x s).od = s.od := rfl
@[simp] theorem setCoach_out (c : Nat) (x : Coach) (s : Mach) : (setCoach c x s).out = s.out := rfl
@[simp] theorem setCoach_free (c : Nat) (x : Coach) (s : Mach) : (setCoach c x s).free = s.free := rfl
@[simp] theorem setCoach_fc (c : Nat) (x : Coach) (s : Mach) : (setCoach c x s).fc = s.fc := rfl
@[simp] theorem setCoach_det (c : Nat) (x : Coach) (s : Mach) : (setCoach c x s).det = s.det := rfl
@[simp] theorem setCoach_gl (c : Nat) (x : Coach) (s : Mach) : (setCoach c x s).gl = s.gl := rfl
@[simp] theorem setCoach_ctr (c : Nat) (x : Coach) (s : Mach) : (setCoach c x s).ctr = s.ctr := rfl
@[simp] theorem setCoach_trk (c : Nat) (x : Coach) (s : Mach) : (setCoach c x s).trk = s.trk := rfl
@[simp] theorem setCoach_tt (c : Nat) (x : Coach) (s : Mach) : (setCoach c x s).tt = s.tt := rfl
@[simp] theorem setCoach_sig (c : Nat) (x : Coach) (s : Mach) : (setCoach c x s).sig = s.sig := rfl
@[simp] theorem setCoach_tk (c : Nat) (x : Coach) (s : Mach) : (setCoach c x s).tk = s.tk := rfl
@[simp] theorem setCoach_arb (c : Nat) (x : Coach) (s : Mach) : (setCoach c x s).arb = s.arb := rfl
@[simp] theorem setCoach_cnv (c : Nat) (x : Coach) (s : Mach) : (setCoach c x s).cnv = s.cnv := rfl
@[simp] theorem setCoach_bnk (c : Nat) (x : Coach) (s : Mach) : (setCoach c x s).bnk = s.bnk := rfl
@[simp] theorem setCoach_grd (c : Nat) (x : Coach) (s : Mach) : (setCoach c x s).grd = s.grd := rfl
@[simp] theorem setCoach_fdr (c : Nat) (x : Coach) (s : Mach) : (setCoach c x s).fdr = s.fdr := rfl
@[simp] theorem setCoach_mg (c : Nat) (x : Coach) (s : Mach) : (setCoach c x s).mg = s.mg := rfl
@[simp] theorem setCoach_lr (c : Nat) (x : Coach) (s : Mach) : (setCoach c x s).lr = s.lr := rfl
@[simp] theorem setCoach_ldr (c : Nat) (x : Coach) (s : Mach) : (setCoach c x s).ldr = s.ldr := rfl
@[simp] theorem setCoach_ptn (c : Nat) (x : Coach) (s : Mach) : (setCoach c x s).ptn = s.ptn := rfl
@[simp] theorem setCoach_life (c : Nat) (x : Coach) (s : Mach) : (setCoach c x s).life = s.life := rfl

/-! ### setLrChan -/

@[simp] theorem setLrChan_now (c : Nat) (x : LrChan) (s : Mach) : (setLrChan c x s).now = s.now := rfl
@[simp] theorem setLrChan_mode (c : Nat) (x : LrChan) (s : Mach) : (setLrChan c x s).mode = s.mode := rfl
@[simp] theorem setLrChan_role (c : Nat) (x : LrChan) (s : Mach) : (setLrChan c x s).role = s.role := rfl
@[simp] theorem setLrChan_slotB (c : Nat) (x : LrChan) (s : Mach) : (setLrChan c x s).slotB = s.slotB := rfl
@[simp] theorem setLrChan_od (c : Nat) (x : LrChan) (s : Mach) : (setLrChan c x s).od = s.od := rfl
@[simp] theorem setLrChan_out (c : Nat) (x : LrChan) (s : Mach) : (setLrChan c x s).out = s.out := rfl
@[simp] theorem setLrChan_free (c : Nat) (x : LrChan) (s : Mach) : (setLrChan c x s).free = s.free := rfl
@[simp] theorem setLrChan_fc (c : Nat) (x : LrChan) (s : Mach) : (setLrChan c x s).fc = s.fc := rfl
@[simp] theorem setLrChan_det (c : Nat) (x : LrChan) (s : Mach) : (setLrChan c x s).det = s.det := rfl
@[simp] theorem setLrChan_gl (c : Nat) (x : LrChan) (s : Mach) : (setLrChan c x s).gl = s.gl := rfl
@[simp] theorem setLrChan_ctr (c : Nat) (x : LrChan) (s : Mach) : (setLrChan c x s).ctr = s.ctr := rfl
@[simp] theorem setLrChan_trk (c : Nat) (x : LrChan) (s : Mach) : (setLrChan c x s).trk = s.trk := rfl
@[simp] theorem setLrChan_tt (c : Nat) (x : LrChan) (s : Mach) : (setLrChan c x s).tt = s.tt := rfl
@[simp] theorem setLrChan_sig (c : Nat) (x : LrChan) (s : Mach) : (setLrChan c x s).sig = s.sig := rfl
@[simp] theorem setLrChan_tk (c : Nat) (x : LrChan) (s : Mach) : (setLrChan c x s).tk = s.tk := rfl
@[simp] theorem setLrChan_arb (c : Nat) (x : LrChan) (s : Mach) : (setLrChan c x s).arb = s.arb := rfl
@[simp] theorem setLrChan_cnv (c : Nat) (x : LrChan) (s : Mach) : (setLrChan c x s).cnv = s.cnv := rfl
@[simp] theorem setLrChan_bnk (c : Nat) (x : LrChan) (s : Mach) : (setLrChan c x s).bnk = s.bnk := rfl
@[simp] theorem setLrChan_grd (c : Nat) (x : LrChan) (s : Mach) : (setLrChan c x s).grd = s.grd := rfl
@[simp] theorem setLrChan_fdr (c : Nat) (x : LrChan) (s : Mach) : (setLrChan c x s).fdr = s.fdr := rfl
@[simp] theorem setLrChan_mg (c : Nat) (x : LrChan) (s : Mach) : (setLrChan c x s).mg = s.mg := rfl
@[simp] theorem setLrChan_eng (c : Nat) (x : LrChan) (s : Mach) : (setLrChan c x s).eng = s.eng := rfl
@[simp] theorem setLrChan_ldr (c : Nat) (x : LrChan) (s : Mach) : (setLrChan c x s).ldr = s.ldr := rfl
@[simp] theorem setLrChan_ptn (c : Nat) (x : LrChan) (s : Mach) : (setLrChan c x s).ptn = s.ptn := rfl
@[simp] theorem setLrChan_life (c : Nat) (x : LrChan) (s : Mach) : (setLrChan c x s).life = s.life := rfl

/-! ### setImg -/

@[simp] theorem setImg_now (k : Nat) (x : ImgSlot) (s : Mach) : (setImg k x s).now = s.now := rfl
@[simp] theorem setImg_mode (k : Nat) (x : ImgSlot) (s : Mach) : (setImg k x s).mode = s.mode := rfl
@[simp] theorem setImg_role (k : Nat) (x : ImgSlot) (s : Mach) : (setImg k x s).role = s.role := rfl
@[simp] theorem setImg_slotB (k : Nat) (x : ImgSlot) (s : Mach) : (setImg k x s).slotB = s.slotB := rfl
@[simp] theorem setImg_od (k : Nat) (x : ImgSlot) (s : Mach) : (setImg k x s).od = s.od := rfl
@[simp] theorem setImg_out (k : Nat) (x : ImgSlot) (s : Mach) : (setImg k x s).out = s.out := rfl
@[simp] theorem setImg_free (k : Nat) (x : ImgSlot) (s : Mach) : (setImg k x s).free = s.free := rfl
@[simp] theorem setImg_fc (k : Nat) (x : ImgSlot) (s : Mach) : (setImg k x s).fc = s.fc := rfl
@[simp] theorem setImg_det (k : Nat) (x : ImgSlot) (s : Mach) : (setImg k x s).det = s.det := rfl
@[simp] theorem setImg_gl (k : Nat) (x : ImgSlot) (s : Mach) : (setImg k x s).gl = s.gl := rfl
@[simp] theorem setImg_ctr (k : Nat) (x : ImgSlot) (s : Mach) : (setImg k x s).ctr = s.ctr := rfl
@[simp] theorem setImg_trk (k : Nat) (x : ImgSlot) (s : Mach) : (setImg k x s).trk = s.trk := rfl
@[simp] theorem setImg_tt (k : Nat) (x : ImgSlot) (s : Mach) : (setImg k x s).tt = s.tt := rfl
@[simp] theorem setImg_sig (k : Nat) (x : ImgSlot) (s : Mach) : (setImg k x s).sig = s.sig := rfl
@[simp] theorem setImg_tk (k : Nat) (x : ImgSlot) (s : Mach) : (setImg k x s).tk = s.tk := rfl
@[simp] theorem setImg_arb (k : Nat) (x : ImgSlot) (s : Mach) : (setImg k x s).arb = s.arb := rfl
@[simp] theorem setImg_cnv (k : Nat) (x : ImgSlot) (s : Mach) : (setImg k x s).cnv = s.cnv := rfl
@[simp] theorem setImg_bnk (k : Nat) (x : ImgSlot) (s : Mach) : (setImg k x s).bnk = s.bnk := rfl
@[simp] theorem setImg_grd (k : Nat) (x : ImgSlot) (s : Mach) : (setImg k x s).grd = s.grd := rfl
@[simp] theorem setImg_fdr (k : Nat) (x : ImgSlot) (s : Mach) : (setImg k x s).fdr = s.fdr := rfl
@[simp] theorem setImg_mg (k : Nat) (x : ImgSlot) (s : Mach) : (setImg k x s).mg = s.mg := rfl
@[simp] theorem setImg_lr (k : Nat) (x : ImgSlot) (s : Mach) : (setImg k x s).lr = s.lr := rfl
@[simp] theorem setImg_eng (k : Nat) (x : ImgSlot) (s : Mach) : (setImg k x s).eng = s.eng := rfl
@[simp] theorem setImg_ldr (k : Nat) (x : ImgSlot) (s : Mach) : (setImg k x s).ldr = s.ldr := rfl
@[simp] theorem setImg_ptn (k : Nat) (x : ImgSlot) (s : Mach) : (setImg k x s).ptn = s.ptn := rfl

/-! ### setCus -/

@[simp] theorem setCus_now (k : Nat) (x : ImgSlot) (s : Mach) : (setCus k x s).now = s.now := rfl
@[simp] theorem setCus_mode (k : Nat) (x : ImgSlot) (s : Mach) : (setCus k x s).mode = s.mode := rfl
@[simp] theorem setCus_role (k : Nat) (x : ImgSlot) (s : Mach) : (setCus k x s).role = s.role := rfl
@[simp] theorem setCus_slotB (k : Nat) (x : ImgSlot) (s : Mach) : (setCus k x s).slotB = s.slotB := rfl
@[simp] theorem setCus_od (k : Nat) (x : ImgSlot) (s : Mach) : (setCus k x s).od = s.od := rfl
@[simp] theorem setCus_out (k : Nat) (x : ImgSlot) (s : Mach) : (setCus k x s).out = s.out := rfl
@[simp] theorem setCus_free (k : Nat) (x : ImgSlot) (s : Mach) : (setCus k x s).free = s.free := rfl
@[simp] theorem setCus_fc (k : Nat) (x : ImgSlot) (s : Mach) : (setCus k x s).fc = s.fc := rfl
@[simp] theorem setCus_det (k : Nat) (x : ImgSlot) (s : Mach) : (setCus k x s).det = s.det := rfl
@[simp] theorem setCus_gl (k : Nat) (x : ImgSlot) (s : Mach) : (setCus k x s).gl = s.gl := rfl
@[simp] theorem setCus_ctr (k : Nat) (x : ImgSlot) (s : Mach) : (setCus k x s).ctr = s.ctr := rfl
@[simp] theorem setCus_trk (k : Nat) (x : ImgSlot) (s : Mach) : (setCus k x s).trk = s.trk := rfl
@[simp] theorem setCus_tt (k : Nat) (x : ImgSlot) (s : Mach) : (setCus k x s).tt = s.tt := rfl
@[simp] theorem setCus_sig (k : Nat) (x : ImgSlot) (s : Mach) : (setCus k x s).sig = s.sig := rfl
@[simp] theorem setCus_tk (k : Nat) (x : ImgSlot) (s : Mach) : (setCus k x s).tk = s.tk := rfl
@[simp] theorem setCus_arb (k : Nat) (x : ImgSlot) (s : Mach) : (setCus k x s).arb = s.arb := rfl
@[simp] theorem setCus_cnv (k : Nat) (x : ImgSlot) (s : Mach) : (setCus k x s).cnv = s.cnv := rfl
@[simp] theorem setCus_bnk (k : Nat) (x : ImgSlot) (s : Mach) : (setCus k x s).bnk = s.bnk := rfl
@[simp] theorem setCus_grd (k : Nat) (x : ImgSlot) (s : Mach) : (setCus k x s).grd = s.grd := rfl
@[simp] theorem setCus_fdr (k : Nat) (x : ImgSlot) (s : Mach) : (setCus k x s).fdr = s.fdr := rfl
@[simp] theorem setCus_mg (k : Nat) (x : ImgSlot) (s : Mach) : (setCus k x s).mg = s.mg := rfl
@[simp] theorem setCus_lr (k : Nat) (x : ImgSlot) (s : Mach) : (setCus k x s).lr = s.lr := rfl
@[simp] theorem setCus_eng (k : Nat) (x : ImgSlot) (s : Mach) : (setCus k x s).eng = s.eng := rfl
@[simp] theorem setCus_ldr (k : Nat) (x : ImgSlot) (s : Mach) : (setCus k x s).ldr = s.ldr := rfl
@[simp] theorem setCus_ptn (k : Nat) (x : ImgSlot) (s : Mach) : (setCus k x s).ptn = s.ptn := rfl

/-! ### setShadow -/

@[simp] theorem setShadow_now (p : Page) (s : Mach) : (setShadow p s).now = s.now := rfl
@[simp] theorem setShadow_mode (p : Page) (s : Mach) : (setShadow p s).mode = s.mode := rfl
@[simp] theorem setShadow_role (p : Page) (s : Mach) : (setShadow p s).role = s.role := rfl
@[simp] theorem setShadow_slotB (p : Page) (s : Mach) : (setShadow p s).slotB = s.slotB := rfl
@[simp] theorem setShadow_od (p : Page) (s : Mach) : (setShadow p s).od = s.od := rfl
@[simp] theorem setShadow_out (p : Page) (s : Mach) : (setShadow p s).out = s.out := rfl
@[simp] theorem setShadow_free (p : Page) (s : Mach) : (setShadow p s).free = s.free := rfl
@[simp] theorem setShadow_fc (p : Page) (s : Mach) : (setShadow p s).fc = s.fc := rfl
@[simp] theorem setShadow_det (p : Page) (s : Mach) : (setShadow p s).det = s.det := rfl
@[simp] theorem setShadow_gl (p : Page) (s : Mach) : (setShadow p s).gl = s.gl := rfl
@[simp] theorem setShadow_ctr (p : Page) (s : Mach) : (setShadow p s).ctr = s.ctr := rfl
@[simp] theorem setShadow_trk (p : Page) (s : Mach) : (setShadow p s).trk = s.trk := rfl
@[simp] theorem setShadow_sig (p : Page) (s : Mach) : (setShadow p s).sig = s.sig := rfl
@[simp] theorem setShadow_tk (p : Page) (s : Mach) : (setShadow p s).tk = s.tk := rfl
@[simp] theorem setShadow_arb (p : Page) (s : Mach) : (setShadow p s).arb = s.arb := rfl
@[simp] theorem setShadow_cnv (p : Page) (s : Mach) : (setShadow p s).cnv = s.cnv := rfl
@[simp] theorem setShadow_bnk (p : Page) (s : Mach) : (setShadow p s).bnk = s.bnk := rfl
@[simp] theorem setShadow_grd (p : Page) (s : Mach) : (setShadow p s).grd = s.grd := rfl
@[simp] theorem setShadow_fdr (p : Page) (s : Mach) : (setShadow p s).fdr = s.fdr := rfl
@[simp] theorem setShadow_mg (p : Page) (s : Mach) : (setShadow p s).mg = s.mg := rfl
@[simp] theorem setShadow_lr (p : Page) (s : Mach) : (setShadow p s).lr = s.lr := rfl
@[simp] theorem setShadow_eng (p : Page) (s : Mach) : (setShadow p s).eng = s.eng := rfl
@[simp] theorem setShadow_ldr (p : Page) (s : Mach) : (setShadow p s).ldr = s.ldr := rfl
@[simp] theorem setShadow_ptn (p : Page) (s : Mach) : (setShadow p s).ptn = s.ptn := rfl
@[simp] theorem setShadow_life (p : Page) (s : Mach) : (setShadow p s).life = s.life := rfl

/-! ### clearCounter -/

@[simp] theorem clearCounter_now (c : Nat) (s : Mach) : (clearCounter c s).now = s.now := rfl
@[simp] theorem clearCounter_mode (c : Nat) (s : Mach) : (clearCounter c s).mode = s.mode := rfl
@[simp] theorem clearCounter_role (c : Nat) (s : Mach) : (clearCounter c s).role = s.role := rfl
@[simp] theorem clearCounter_slotB (c : Nat) (s : Mach) : (clearCounter c s).slotB = s.slotB := rfl
@[simp] theorem clearCounter_od (c : Nat) (s : Mach) : (clearCounter c s).od = s.od := rfl
@[simp] theorem clearCounter_out (c : Nat) (s : Mach) : (clearCounter c s).out = s.out := rfl
@[simp] theorem clearCounter_free (c : Nat) (s : Mach) : (clearCounter c s).free = s.free := rfl
@[simp] theorem clearCounter_fc (c : Nat) (s : Mach) : (clearCounter c s).fc = s.fc := rfl
@[simp] theorem clearCounter_det (c : Nat) (s : Mach) : (clearCounter c s).det = s.det := rfl
@[simp] theorem clearCounter_gl (c : Nat) (s : Mach) : (clearCounter c s).gl = s.gl := rfl
@[simp] theorem clearCounter_trk (c : Nat) (s : Mach) : (clearCounter c s).trk = s.trk := rfl
@[simp] theorem clearCounter_tt (c : Nat) (s : Mach) : (clearCounter c s).tt = s.tt := rfl
@[simp] theorem clearCounter_sig (c : Nat) (s : Mach) : (clearCounter c s).sig = s.sig := rfl
@[simp] theorem clearCounter_tk (c : Nat) (s : Mach) : (clearCounter c s).tk = s.tk := rfl
@[simp] theorem clearCounter_arb (c : Nat) (s : Mach) : (clearCounter c s).arb = s.arb := rfl
@[simp] theorem clearCounter_cnv (c : Nat) (s : Mach) : (clearCounter c s).cnv = s.cnv := rfl
@[simp] theorem clearCounter_bnk (c : Nat) (s : Mach) : (clearCounter c s).bnk = s.bnk := rfl
@[simp] theorem clearCounter_grd (c : Nat) (s : Mach) : (clearCounter c s).grd = s.grd := rfl
@[simp] theorem clearCounter_fdr (c : Nat) (s : Mach) : (clearCounter c s).fdr = s.fdr := rfl
@[simp] theorem clearCounter_mg (c : Nat) (s : Mach) : (clearCounter c s).mg = s.mg := rfl
@[simp] theorem clearCounter_lr (c : Nat) (s : Mach) : (clearCounter c s).lr = s.lr := rfl
@[simp] theorem clearCounter_eng (c : Nat) (s : Mach) : (clearCounter c s).eng = s.eng := rfl
@[simp] theorem clearCounter_ldr (c : Nat) (s : Mach) : (clearCounter c s).ldr = s.ldr := rfl
@[simp] theorem clearCounter_ptn (c : Nat) (s : Mach) : (clearCounter c s).ptn = s.ptn := rfl
@[simp] theorem clearCounter_life (c : Nat) (s : Mach) : (clearCounter c s).life = s.life := rfl

/-! ### Commands and the queue -/

@[simp] theorem drive_next (f : Mach → Mach) (s : State) :
    drive f s = .next { s with m := if powerless s.m then s.m else f s.m } := rfl
@[simp] theorem driveAlways_next (f : Mach → Mach) (s : State) : driveAlways f s = .next { s with m := f s.m } := rfl
@[simp] theorem tick_pending (s : State) : (tick s).pending = s.pending := rfl
@[simp] theorem tick_now (s : State) : (tick s).m.now = s.m.now + 1 := rfl
@[simp] theorem step_cons (c : Instr) (rest : List Instr) (m : Mach) :
    step ⟨m, c :: rest⟩ = exec c ⟨m, rest⟩ := rfl
@[simp] theorem step_nil (m : Mach) : step ⟨m, []⟩ = .next (tick ⟨m, []⟩) := rfl

end Sys2Proof.Machine
end

