-- ==== Sys2Proof/Laws/Ops.lean ====
section
/-! SUPPORT. What the shared operations do, said once: records read back what was set, a command that runs completes, an
event that is not blanked latches its bit, and the arbiter and the shelf leave the fault collector alone. -/

namespace Sys2Proof.Machine

open Sys2Proof.Safety

/-! ### Records read back -/

@[simp] theorem phase_setPhase (q p : Nat) (x : Phase) (s : Mach) :
    phase q (setPhase p x s) = if q = p then x else phase q s := by simp [phase, setPhase]
@[simp] theorem card_setCard (q c : Nat) (x : Card) (s : Mach) :
    card q (setCard c x s) = if q = c then x else card q s := by simp [card, setCard]
@[simp] theorem feeder_setFeeder (q t : Nat) (x : Feeder) (s : Mach) :
    feeder q (setFeeder t x s) = if q = t then x else feeder q s := by simp [feeder, setFeeder]
@[simp] theorem rect_setRect (q r : Nat) (x : Rect) (s : Mach) :
    rect q (setRect r x s) = if q = r then x else rect q s := by simp [rect, setRect]
@[simp] theorem requester_setRequester (q i : Nat) (x : Requester) (s : Mach) :
    requester q (setRequester i x s) = if q = i then x else requester q s := by simp [requester, setRequester]
@[simp] theorem tray_setTray (q t : Nat) (x : TrayTk) (s : Mach) :
    tray q (setTray t x s) = if q = t then x else tray q s := by simp [tray, setTray]
@[simp] theorem unit_setUnit (q u : Nat) (x : Unit) (s : Mach) :
    unit q (setUnit u x s) = if q = u then x else unit q s := by simp [unit, setUnit]
@[simp] theorem session_setSession (q k : Nat) (x : Session) (s : Mach) :
    session q (setSession k x s) = if q = k then x else session q s := by simp [session, setSession]
@[simp] theorem coach_setCoach (q c : Nat) (x : Coach) (s : Mach) :
    coach q (setCoach c x s) = if q = c then x else coach q s := by simp [coach, setCoach]
@[simp] theorem lrChan_setLrChan (q c : Nat) (x : LrChan) (s : Mach) :
    lrChan q (setLrChan c x s) = if q = c then x else lrChan q s := by simp [lrChan, setLrChan]
@[simp] theorem cst_setCst (q t x : Nat) (s : Mach) :
    cst q (setCst t x s) = if q = t then x else cst q s := by simp [cst, setCst]

/-- An object register reads what was set. -/
@[simp] theorem oGet_oSet (d : ObjDef) (i j v : Nat) (s : Mach) : oGet d i j (oSet d i j v s) = v := by
  simp [oGet, oSet]

/-- Registers with another key are as they were. -/
theorem oGet_oSet_ne {d e : ObjDef} {i j k l : Nat} (v : Nat) (s : Mach) (h : e.key k l ≠ d.key i j) :
    oGet e k l (oSet d i j v s) = oGet e k l s :=
  sget_sput_ne _ _ _ _ h

@[simp] theorem obj_setObj (d : ObjDef) (v : Nat) (s : Mach) : obj d (setObj d v s) = v := oGet_oSet d 0 0 v s

@[simp] theorem setBit_testBit (m n : Nat) : (setBit m n).testBit n = true := by
  simp [setBit]

/-! ### Commands complete -/

/-- A command that reaches a module with power answers the next state that its meaning gives. -/
theorem completes_drive {c : Instr} {s : State} {f : Mach → Mach} {P : Mach → Prop} (e : exec c s = drive f s)
    (h : powerless s.m = false) (p : P (f s.m)) : Completes c s P :=
  ⟨_, e, rfl, by simpa [h] using p⟩

/-- An unpowered module ignores it. -/
theorem drive_powerless {f : Mach → Mach} {s : State} (h : powerless s.m = true) : drive f s = .next s := by
  simp [h]

/-! ### What a repeated operation keeps -/

/-- A quantity that every round keeps is kept by all of them. -/
theorem each_keep {ι β : Type} {g : Mach → β} {f : ι → Mach → Mach} (h : ∀ i s, g (f i s) = g s) (l : List ι) (s : Mach) :
    g (each l f s) = g s := by
  induction l generalizing s with
  | nil => rfl
  | cons a r ih => exact (ih (f a s)).trans (h a s)

/-! ### The fault collector -/

@[simp] theorem countEvN_fc (src n : Nat) (s : Mach) : (countEvN src n s).fc = s.fc := by
  unfold countEvN
  refine each_keep (g := Mach.fc) ?_ _ _
  exact fun _ _ => rfl

@[simp] theorem countEv_fc (src : Nat) (s : Mach) : (countEv src s).fc = s.fc := countEvN_fc src 1 s

@[simp] theorem ringWrite_fc (r : GRec) (s : Mach) : (ringWrite r s).fc = s.fc := by
  simp only [ringWrite]; split <;> rfl

@[simp] theorem push_fc (code source data : Nat) (capped : Bool) (s : Mach) :
    (logRec.push code source data capped s).fc = s.fc := by
  simp only [logRec.push]; split <;> rfl

@[simp] theorem logRec_fc (code source data : Nat) (capped : Bool) (s : Mach) :
    (logRec code source data capped s).fc = s.fc := by
  simp only [logRec]
  repeat' split
  all_goals simp

@[simp] theorem log_fc (code source data : Nat) (s : Mach) : (log code source data s).fc = s.fc := logRec_fc ..

@[simp] theorem confirmTime_fc (x : ModState) (s : Mach) : (confirmTime x s).fc = s.fc := rfl

@[simp] theorem setMode_fc (x : ModState) (s : Mach) : (setMode x s).fc = s.fc := by
  simp only [setMode]
  split <;> simp

@[simp] theorem faultNPulse_status (s : Mach) : (faultNPulse s).fc.status = s.fc.status := by
  simp only [faultNPulse]; split <;> rfl

@[simp] theorem openWindow_status (n cls : Nat) (s : Mach) : (openWindow n cls s).fc.status = s.fc.status := by
  simp only [openWindow]; split <;> rfl

/-- The fault collector is as it was. -/
theorem each_fc {ι : Type} {f : ι → Mach → Mach} (h : ∀ i s, (f i s).fc = s.fc) (l : List ι) (s : Mach) :
    (each l f s).fc = s.fc := each_keep (g := Mach.fc) h l s

@[simp] theorem feedMode_fc (f mode : Nat) (s : Mach) : (feedMode f mode s).fc = s.fc := by
  unfold feedMode
  refine Eq.trans (setFeed_fc ..) (each_fc (fun i s => ?_) _ _)
  simp only
  repeat' split
  all_goals simp

@[simp] theorem tripShelf_fc (s : Mach) : (tripShelf s).fc = s.fc := by
  unfold tripShelf
  simp only
  split
  · exact (feedMode_fc ..).trans (each_fc (fun _ _ => setFeeder_fc ..) _ _)
  · exact each_fc (fun _ _ => setFeeder_fc ..) _ _

/-! ### An event that is not blanked latches its bit -/

@[simp] theorem lineDown_status (n : Nat) (s : Mach) : (lineDown n s).fc.status = s.fc.status := rfl

@[simp] theorem bankFastDisarm_status (s : Mach) : (bankFastDisarm s).fc.status = s.fc.status := by
  unfold bankFastDisarm; split <;> simp

@[simp] theorem converterStop_status (st : CnvState) (s : Mach) : (converterStop st s).fc.status = s.fc.status := by
  unfold converterStop
  extract_lets x1 s1 s2 x2 s3
  have e2 : s2.fc = s1.fc := by
    refine each_fc ?_ _ _
    exact fun _ _ => rfl
  have e3 : s3.fc = s2.fc := by
    simp only [s3]; split <;> rfl
  rw [send_fc, bankFastDisarm_status, e3, e2]

@[simp] theorem converterSafe_status (s : Mach) : (converterSafe s).fc.status = s.fc.status := by
  unfold converterSafe
  extract_lets s1
  have e : (each (List.range 25) (fun c s => send (.card c (cardFrame c true s)) s) s1).fc = s1.fc := by
    refine each_fc ?_ _ _
    exact fun _ _ => rfl
  rw [e]
  exact converterStop_status ..

@[simp] theorem arbiterDrop_fc (s : Mach) : (arbiterDrop s).fc = s.fc := rfl

/-- The action of class C3 latches nothing by itself. -/
@[simp] theorem c3Action_status (s : Mach) : (c3Action s).fc.status = s.fc.status := by
  unfold c3Action
  split <;> simp

/-- Latching an event sets its bit of FLT_STATUS and no other. -/
theorem latchCore_status (n source data cap : Nat) (s : Mach) :
    (latchCore n source data cap s).fc.status = setBit s.fc.status n := by
  have pick {c : Prop} [Decidable c] {a b : Mach} {v : Nat} (x : a.fc.status = v) (y : b.fc.status = v) :
      (if c then a else b).fc.status = v := by split <;> assumption
  unfold latchCore
  extract_lets own cls quietEv counted was x1 x2 x3 s1 s2 s3 s4 s5 s6 x4 s7
  have e2 : s2.fc.status = setBit s.fc.status n := pick rfl rfl
  have e3 : s3.fc.status = setBit s.fc.status n := (congrArg FaultColl.status (logRec_fc ..)).trans e2
  have e4 : s4.fc.status = setBit s.fc.status n := (congrArg FaultColl.status (countEv_fc ..)).trans e3
  have e5 : s5.fc.status = setBit s.fc.status n := pick e4 ((faultNPulse_status _).trans e4)
  have e6 : s6.fc.status = setBit s.fc.status n := (openWindow_status ..).trans e5
  have e7 : s7.fc.status = setBit s.fc.status n := pick e6 e6
  exact pick ((c3Action_status _).trans e7) e7

/-- An event that is not blanked latches its bit. -/
theorem pulse_latches (n source data : Nat) (s : Mach) (h : blanked n s = false) :
    (pulse n source data s).fc.status.testBit n = true := by
  have e : (latchCore n source data 3 s).fc.status.testBit n = true := by simp [latchCore_status]
  rw [pulse, if_neg (by simp [h]), latch]
  split
  · split
    · exact e
    · rw [latchCore_status]
      simp only [setBit, Nat.testBit_or, e, Bool.true_or]
  · exact e

end Sys2Proof.Machine
end

