-- ==== Sys2Proof/Machine/Connector.lean ====
section
/-! DEFINITION. The connectors of chapter 15: which contacts carry each signal (Tables 15.4 and 15.5). -/

namespace Sys2Proof.Machine

/-- A contact: connector J1 to J5, row and number. -/
structure Contact where
  block : Nat
  row   : Char
  no    : Nat
  deriving DecidableEq, Repr

/-- A signal of J1 (R415) or of the backplane (R416). -/
inductive Signal where
  | aux (n : Fin 2)
  | auxReturn (n : Fin 2)
  | chassis
  | pwm (phase : Fin 100)
  | cardTx (card : Fin 25)
  | cardRx (card : Fin 25)
  | sense
  | can (bus : Fin 2)
  | canGnd
  | hbW
  | faultN
  | slotSel
  | lane9Sel
  | rectAlarm (r : Fin 24)
  | feederTx (tray : Fin 64)
  | feederRx (tray : Fin 64)
  | sideband (tray : Fin 64)
  | laneTx (n : Fin 10)
  | laneRx (n : Fin 10)
  deriving DecidableEq, Repr

/-- The direction of a signal. -/
inductive Direction where
  | power | out | inp | both
  deriving DecidableEq, Repr

/-- A pair on two rows of one number: positive or clock first. -/
def pairAt (block : Nat) (a b : Char) (no : Nat) : List Contact := [⟨block, a, no⟩, ⟨block, b, no⟩]

/-- Tables 15.4 and 15.5: the contacts of a signal. Every other contact of J2 to J5 is signal ground. -/
def Signal.contacts : Signal → List Contact
  | .aux n => [⟨1, 'A', 2 * n.val + 1⟩]
  | .auxReturn n => [⟨1, 'A', 2 * n.val + 2⟩]
  | .chassis => [⟨1, 'A', 5⟩, ⟨1, 'A', 6⟩]
  | .pwm p => if p.val < 50 then pairAt 2 'A' 'B' (p.val + 1) else pairAt 2 'D' 'E' (p.val - 49)
  | .cardTx c => pairAt 3 'A' 'B' (c.val + 1)
  | .cardRx c => pairAt 3 'D' 'E' (c.val + 1)
  | .sense => pairAt 3 'A' 'B' 26
  | .can n => pairAt 3 'D' 'E' (27 + n.val)
  | .canGnd => [⟨3, 'F', 27⟩, ⟨3, 'F', 28⟩]
  | .hbW => pairAt 3 'A' 'B' 28
  | .faultN => [⟨3, 'A', 30⟩]
  | .slotSel => [⟨3, 'A', 31⟩]
  | .lane9Sel => [⟨3, 'A', 32⟩]
  | .rectAlarm r => if r.val < 12 then [⟨3, 'D', r.val + 29⟩] else [⟨3, 'E', r.val + 17⟩]
  | .feederTx t => pairAt 4 'A' 'B' (t.val + 1)
  | .feederRx t => pairAt 4 'D' 'E' (t.val + 1)
  | .sideband t => pairAt 4 'G' 'H' (t.val + 1)
  | .laneTx n => pairAt 5 'A' 'B' (n.val + 1)
  | .laneRx n => pairAt 5 'D' 'E' (n.val + 1)

/-- Table 15.5: a signal's direction. -/
def Signal.direction : Signal → Direction
  | .aux _ => .power
  | .auxReturn _ => .power
  | .chassis => .power
  | .canGnd => .power
  | .pwm _ => .out
  | .cardTx _ => .out
  | .cardRx _ => .inp
  | .sense => .inp
  | .can _ => .both
  | .hbW => .both
  | .faultN => .out
  | .slotSel => .inp
  | .lane9Sel => .out
  | .rectAlarm _ => .inp
  | .feederTx _ => .out
  | .feederRx _ => .inp
  | .sideband _ => .both
  | .laneTx _ => .out
  | .laneRx _ => .inp

/-- R414: the nets that a module shares with its partner or the shelf, which it leaves high-impedance while unpowered. -/
def Signal.released : Signal → Bool
  | .pwm _ => true
  | .cardTx _ => true
  | .cardRx _ => true
  | .feederTx _ => true
  | .feederRx _ => true
  | .sideband _ => true
  | .hbW => true
  | .can _ => true
  | .rectAlarm _ => true
  | .faultN => true
  | _ => false

end Sys2Proof.Machine
end

