-- ==== Sys2Proof/WellFormed.lean ====
section
/-! DEFINITION. What the outside can send: the lengths that a command's byte strings can have on its bus. Every other
operand's range is its type. -/

namespace Sys2Proof

/-- The key that a handshake proves has 32 bytes (R354). -/
def DtlsMsg.fits : DtlsMsg → Bool
  | .hello .. => true
  | .finished key => decide (key.length = 32)

/-- A command that can arrive: an Ethernet frame has its two addresses, its Ethertype, and at most 9,018 bytes before
its FCS (R56); a handshake proves a key of 32 bytes (R354) and names both IPv6 addresses (R357); a tick publishes at
most 256 model channels (R165). -/
def Instr.wellFormed (i : Instr) : Bool :=
  match i with
  | .ingressBundle _ macs frame _ => decide (macs.length = 12 ∧ 2 ≤ frame.length ∧ frame.length ≤ 9006)
  | .reqTableWindowWrite _ _ data => decide (data.length ≤ 1024)
  | .tickPublication _ chans _ => decide (chans.length ≤ 256)
  | .mdlLoadWindowWrite _ _ data => decide (data.length ≤ 1024)
  | .dtlsHandshake _ _ msg addr => msg.fits && decide (addr.length = 32)
  | .vopWrite _ _ _ data => decide (data.length ≤ 1024)
  | .vopWriteDomain _ _ _ _ data => decide (data.length ≤ 1024)
  | .updWindowWrite _ _ data => decide (data.length ≤ 1024)
  | .requestDecision .. | .sidingOffer .. | .preemptionTask | .fallTask | .egressHoldExpiry .. | .egressSend ..
  | .tktBrakeRequest .. | .brakeCheck .. | .traySeqReset .. | .arbCounterClear .. | .loadEvent
  | .trkSearchLimit | .captureWindowClose | .stepBoundary | .binEnd | .pageValidationComplete
  | .shadowCopyComplete | .pwmComputePoint | .diodeExit .. | .phaseShed .. | .warmHoldExpiry ..
  | .coldWakeExpiry .. | .overloadCreditExhausted .. | .senseFrame .. | .allFireEnd | .senseTimeout ..
  | .cardUplink .. | .cardLinkLoss .. | .cnvCardReadmit .. | .cnvPwmPeriodWrite .. | .cnvBusSetWrite ..
  | .cnvRegulateEntry | .calOffset .. | .calSequenceComplete .. | .calEstimate .. | .calibrationStarved
  | .forecastTickStart | .tickAbandon | .rowRelease | .streamDescriptorComplete .. | .cartFailure ..
  | .cartSelftest .. | .coachmanLockstep .. | .engineSramUe .. | .hbmUe .. | .hbmCorrectableError ..
  | .hbmRowRepair .. | .pseudoChannelFailure .. | .pseudoChannelRestoreComplete .. | .backgroundStarved ..
  | .timetableSramUe .. | .longRecordBlockClose .. | .mdlBegin .. | .mdlEraseComplete | .mdlVerify ..
  | .mdlVerifyComplete | .mdlSwitch .. | .mdlCancel .. | .modelImageCopyComplete | .adaptPassComplete ..
  | .mdlAdaptRevert .. | .adaptRevertCopyComplete | .monitorFrame .. | .monitorTimeout .. | .stringTimeout ..
  | .canBusError .. | .estimatorSample .. | .taperDeclaration .. | .restRequest .. | .restRequestOverdue ..
  | .reportSlew | .prechargeTimeout | .lifetimeUpdate | .estLifeReset .. | .rectCommandFrame ..
  | .rectStatusFrame .. | .rectTimeout .. | .rectModeEchoCheck .. | .rectAlarm .. | .rectReadmit ..
  | .rectReadmitComplete .. | .gridCapWrite .. | .feedPresent .. | .feedLoss .. | .feedTransferRequest ..
  | .transferTimeout | .transferRampEnd | .feederDownlink | .feederUplink .. | .feederLinkLoss ..
  | .identityReadComplete .. | .cstReverify .. | .fdrOpenRequest .. | .feederOpenAfterBrake ..
  | .fdrCloseRequest .. | .hotInsert .. | .feederCloseStart .. | .feederCloseTimeout .. | .startRequest ..
  | .stopRequest .. | .commissionRequest .. | .moduleReset .. | .discoveryEnd | .discoveryHoldTimeout
  | .busRampStart | .busRampEnd | .privilegedOnDelay .. | .runEntry | .ordinaryFeederOff ..
  | .privilegedOffDelay .. | .busRampDown | .identSend | .identCell .. | .heartbeatCell .. | .hbWPulse ..
  | .heartbeatPathLoss .. | .partnerFailureDetect | .tokenShareTimeout | .orderCell .. | .senseCell ..
  | .linkCell .. | .canCell .. | .epochEnd .. | .bulkCell .. | .ackCell .. | .nakCell .. | .fetchCell ..
  | .ticketCell .. | .demoteCell .. | .switchCell .. | .resyncCell .. | .standbyEpochExecute
  | .standbyFallBehind | .fetchTimeout | .partnerLinkLoss | .partnerLaneSilence | .ptnSwitchoverRequest ..
  | .ptnResyncRequest .. | .resyncComplete | .faultEvent .. | .fltStatusClear .. | .fltPartnerClear ..
  | .blankingWindowClose .. | .injStart .. | .injectionWindowClose | .faultNPulseEnd | .dieThermalSample ..
  | .clockLoss | .watchdogExpiry .. | .fabricLaneDown .. | .lane9BlockLock | .guardLogFlush .. | .glClear ..
  | .ctrClear .. | .handshakeTimeout .. | .vopOpen .. | .vopRead .. | .vopReadDomain .. | .vopKeepalive ..
  | .vopClose .. | .vopDescribe .. | .notifySend .. | .reqIdHoldTimeout .. | .sessionTimeout ..
  | .mgmtLinkChange .. | .sessionLinkDown .. | .tokenHolderWrite .. | .tokenLapse | .stgCommit ..
  | .stgDiscard .. | .commitAckTimeout | .stgRestoreDefaults .. | .powerOnReset .. | .bootComplete ..
  | .imageConfirm | .customerImageConfirm | .guestStartTimeout | .controlPairLockstep .. | .pairResume
  | .appCoreException | .guestWatchdogLapse | .appRestartRequest .. | .updBegin .. | .updEraseComplete
  | .updVerify .. | .updVerifyComplete | .updCancel .. | .activatePartner .. | .activateSelf ..
  | .attRequest .. | .attSignComplete | .ageingMonitor .. | .auxInputFault .. | .auxOvervoltage ..
  | .powerFailWarning | .powerRestart | .auxInputReturn .. | .auxReconnect .. | .holdUpEnd
  | .fabricLaneBlockLock .. | .clockLockRegained | .canBusRecovery .. | .backgroundPassComplete ..
  | .persistentWriteComplete .. | .allFireHeldStart | .cardDownlinkRepeat .. => true

end Sys2Proof
end

