-- ==== Sys2Proof/Tests/Slice0.lean ====
section
/-! SUPPORT. Witnesses that meet the hypotheses of every statement, ill-formed terms that `wellFormed` refuses, and a few
commands whose results the spec's own examples and tables give. -/

namespace Sys2Proof.Tests

open Sys2Proof.Machine Sys2Proof.Safety

set_option Elab.async false

/-! ### Small states -/

def clock : Nat := 10 ^ 12
/-- A module in RUN with nothing attached, one second after its reset ended. -/
def b0 : Mach :=
  { State.reset.m with
    now := clock
    mode := .run
    role := .solo
    life.held := false
    trk.wrapT := clock
    trk.binT := clock * 2 ^ 14
    trk.nextT := (clock + 4000) * 2 ^ 14 }
def W (f : Mach → Mach) : State := { m := f b0 }
/-- The same with a session of rack management that holds the token. -/
def v0 : Mach :=
  { b0 with
    mg.sessions := [(0, { st := 2, mgr := 1, lastMsg := clock })]
    mg.linkUp := 3
    mg.holder := 1
    mg.heldAt := clock
    mg.heardAt := clock }
def V (f : Mach → Mach) : State := { m := f v0 }
def rq : Req := { session := 0, reqId := 0, version := 1, badOp := none }
def sl : Slot := { seq := 5, step := 0, dp := 100, eff := 0, dur := 10, key := 0, arrival := clock, port := 0, group := none, lateBin := none, early := false, st := .waiting, task := false, siding := false, displaced := false, ready := false, order := 0, bin := 0, span := 0, span0 := 0, endBin := none, revBin := 0, revOrder := 0, used := 0, usedJ := 0, since := 0 }
/-- Requester 8 with one slot. -/
def withSlot (f : Slot → Slot) (s : Mach) : Mach := { s with arb.reqs := [(8, { slots := [f sl] })], arb.corr := 10000000 }
def asked (f : Slot → Slot) (s : Mach) : Mach := { withSlot f s with arb.ingress := [(8, 5)] }
/-- A bundle of one ticket from tray `t`. -/
def bund (t : Nat) (l : List Byte) : List Byte :=
  let h := toBytes 14 ((1 <<< 108) + (1 <<< 96) + (t <<< 90) + (1 <<< 80))
  h ++ toBytes 2 (crc16 h) ++ l
/-- A REQUEST of requester `rid`, signed with key 0 of tray `t`. -/
def signed (t : Nat) (w : Nat) (s : Mach) : List Byte :=
  let l := toBytes 24 (w >>> 64)
  l ++ toBytes 8 (ticketTag t 0 l s)
def keyed (s : Mach) : Mach := setObj Obj.TKT_TRAY_ENABLE 1 (oSet Obj.TRAY_KEY_VALID 0 0 1 s)
def req8 : Nat := (1 <<< 252) + (8 <<< 232) + (5 <<< 200) + (100 <<< 184) + (10 <<< 148)
def ans : Answer := ⟨8, 0, 8, 5, 0, 0, 10, 0, clock, none⟩
/-- The frame of a bundle after its addresses. -/
def macs6 : List Byte := List.replicate 6 0 ++ [1, 2, 3, 4, 5, 6]
def frameOf (p : List Byte) : List Byte := toBytes 2 (obj Obj.TKT_ETHERTYPE b0) ++ p
def src6 : List Byte := [1, 2, 3, 4, 5, 6]
def rel8 : Nat := (2 <<< 252) + (8 <<< 232) + (6 <<< 200) + (5 <<< 184) + (0 <<< 166)
def rep8 : Nat := (4 <<< 252) + (8 <<< 232) + (6 <<< 200) + (100 <<< 184) + (7 <<< 168)
def badVersion : List Byte := toBytes 14 0 ++ toBytes 2 (crc16 (toBytes 14 0))
/-- A frame of `n` bytes whose last two are its CRC-16. -/
def framed (n f : Nat) : Nat := f / 65536 * 65536 + crc16 (toBytes (n - 2) (f / 65536))
def tick1 : Tick := { start := clock, stop := clock + 1000000, snap := { st := .locked, step := 0, bin := 0, n := 250000, wCode := 3, d := 65536000, cap := 0, corr := 0, shadow := .opened, writer := 0, chans := [], wraps := [], state := [] }, rows := [], dead := false, moved := false, done := false, mute := false }
/-- The bin in progress has MAINT. -/
def maintBin (s : Mach) : Mach := { s with tt.synth := false, tt.pages := ({ count := 250000, width := 3, rows := [(0, 2 ^ 128 - 1)] }, {}) }
/-- A good cell: its type, number, length field and payload (108 bytes as a number). -/
def cellOf (kind seq n p : Nat) : BitVec 1024 :=
  let c := 2 ^ 1020 + kind * 2 ^ 1008 + seq * 2 ^ 976 + n * 2 ^ 952 + p * 2 ^ 32
  BitVec.ofNat 1024 (c + crc32 ((toBytes 128 c).take 124))
/-- The value `v` in `l` bytes from byte `o` of a payload. -/
def pay (o l v : Nat) : Nat := v * 2 ^ (8 * (108 - o - l))
/-- A container whose model adapts. -/
def adaptive : List Byte := List.replicate 15 0 ++ [0x80] ++ List.replicate 48 0
/-- All rectifiers are fitted. -/
def allRects (s : Mach) : Mach := setObj Obj.RECT_FITTED 16777215 s
def withFeeder (t : Nat) (f : Feeder) (s : Mach) : Mach := { s with fdr.feeders := [(t, f)] }
def withUnit (u : Nat) (x : Machine.Unit) (s : Mach) : Mach := { s with bnk.units := [(u, x)] }
def withRect (r : Nat) (x : Rect) (s : Mach) : Mach := allRects { s with grd.rects := [(r, x)] }

/-! ### The hypotheses that are not decided as they stand -/

def turnB (r : Req) (s : State) : Bool :=
  decide (r.version = 1 ∧ r.badOp = none
    ∧ powerless s.m = false ∧ (session r.session.val s.m).st = 2 ∧ (s.m.mg.holder = 0 ∨ lapseDue s.m = none)
    ∧ r.reqId.toNat = (session r.session.val s.m).nextReq ∧ s.m.mg.waiting = none
    ∧ (session r.session.val s.m).held = [])

theorem turn {r : Req} {s : State} (h : turnB r s = true) : Turn r s := by
  unfold Turn; exact of_decide_eq_true h

def admB (r : Req) (idx sub off : Nat) (data : List Byte) (s : State) : Bool :=
  turnB r s &&
    match writeChecks (decide (idx = 0x1120) || decide (holderSeen s.m = (session r.session.val s.m).mgr)) idx sub off data
      (heard r.session.val s.m) with
    | .ok (d, _, _) => !groupPending d s.m && !writeBusy d idx sub s.m
    | .error _ => false

theorem adm {r : Req} {idx sub off : Nat} {data : List Byte} {s : State} (h : admB r idx sub off data s = true) :
    Admitted r idx sub off data s := by
  simp only [admB, Bool.and_eq_true] at h
  obtain ⟨t, h⟩ := h
  split at h
  · rename_i d i j e
    simp only [Bool.and_eq_true, Bool.not_eq_eq_eq_not, Bool.not_true] at h
    exact ⟨turn t, d, i, j, e, h.1, h.2⟩
  · cases h

def nextB (kind : Nat) (c : BitVec 1024) (s : State) : Bool :=
  decide (powerless s.m = false ∧ s.m.mode ≠ .boot ∧ cellGood kind c.toNat = true ∧ s.m.ptn.gaps = []) &&
    match s.m.ptn.rxSeq with
    | none => true
    | some r => decide ((nfld c.toNat 1007 976 + 2 ^ 32 - r) % 2 ^ 32 = 1)

theorem nextCell {kind : Nat} {c : BitVec 1024} {s : State} (h : nextB kind c s = true) : NextCell kind c s := by
  simp only [nextB, Bool.and_eq_true] at h
  obtain ⟨g, h⟩ := h
  obtain ⟨a, b, e, f⟩ := of_decide_eq_true g
  refine ⟨a, b, e, f, ?_⟩
  split at h
  · exact .inl ‹_›
  · exact .inr ⟨_, ‹_›, of_decide_eq_true h⟩

theorem isOk {α : Type} {x : Except Nat α} {v : α} (h : x.toOption = some v) : x = .ok v := by
  cases x with
  | ok => exact congrArg Except.ok (Option.some.inj h)
  | error => cases h

def errOf {α : Type} : Except Nat α → Option Nat
  | .ok _ => none
  | .error e => some e

theorem isErr {α : Type} {x : Except Nat α} {e : Nat} (h : errOf x = some e) : x = .error e := by
  cases x with
  | ok => cases h
  | error => exact congrArg Except.error (Option.some.inj h)

theorem answers (p : Nat) (s : Mach) : answersOn p ((List.replicate 16 7 ++ linkLocal p).drop 16) s = true := by
  have e : (List.replicate 16 (7 : Byte) ++ linkLocal p).drop 16 = linkLocal p := rfl
  rw [e]; simp [answersOn]

/-! ### Every statement's hypotheses are met -/

theorem test_meets_IngressBundleActs :
    (∃ (macs frame src payload : List Byte) (fcs ok : Bool) (s : State), powerless s.m = false ∧ s.m.mode ≠ .boot ∧
      bundleOf macs frame s.m = some (src, ok, payload) ∧ bundleBad payload (fcs && ok) s.m = some false) ∧
    (∃ (macs frame src payload : List Byte) (fcs ok : Bool) (s : State), powerless s.m = false ∧ s.m.mode ≠ .boot ∧
      bundleOf macs frame s.m = some (src, ok, payload) ∧ bundleBad payload (fcs && ok) s.m = some true) ∧
    (∃ (macs frame src payload : List Byte) (fcs ok : Bool) (s : State), arbRuns s.m = false ∧ bundleOf macs frame
      s.m = some (src, ok, payload) ∧ bundleBad payload (fcs && ok) s.m = none) ∧
    (∃ (macs frame src payload l : List Byte) (t : Nat) (fcs ok : Bool) (s : State), BringsTicket macs frame src
      payload l t fcs ok s ∧ tkKind (beNat l) = 1 ∧ tkStep (beNat l) = s.m.trk.step ∧ (requester (tkRid (beNat l))
      s.m).slots.length < 4) ∧
    (∃ (macs frame src payload l : List Byte) (t : Nat) (fcs ok : Bool) (x : Slot) (s : State), BringsTicket macs
      frame src payload l t fcs ok s ∧ tkKind (beNat l) = 2 ∧ tkStep (beNat l) = s.m.trk.step ∧ slotOf (tkRid (beNat
      l)) (tf (beNat l) 199 184) s.m = some x ∧ x.st = .live ∧ tf (beNat l) 183 166 ≤ s.m.trk.bin) ∧
    (∃ (macs frame src payload l : List Byte) (t : Nat) (fcs ok : Bool) (s : State), BringsTicket macs frame src
      payload l t fcs ok s ∧ tkKind (beNat l) = 2 ∧ slotOf (tkRid (beNat l)) (tf (beNat l) 199 184) s.m = none) ∧
    (∃ (macs frame src payload l : List Byte) (t : Nat) (fcs ok : Bool) (s : State), BringsTicket macs frame src
      payload l t fcs ok s ∧ tkKind (beNat l) = 4) :=
  ⟨⟨macs6, frameOf [], src6, [], false, true, W id, by decide +kernel⟩,
   ⟨macs6, frameOf badVersion, src6, badVersion, true, true, W id, by decide +kernel⟩,
   ⟨macs6, frameOf (bund 0 (signed 0 req8 (keyed b0))), src6, bund 0 (signed 0 req8 (keyed b0)), true, true, W fun s
     => keyed { s with mode := .stop }, by decide +kernel⟩,
   ⟨macs6, frameOf (bund 0 (signed 0 req8 (keyed b0))), src6, bund 0 (signed 0 req8 (keyed b0)), signed 0 req8 (keyed
     b0), 0, true, true, W keyed, by decide +kernel⟩,
   ⟨macs6, frameOf (bund 0 (signed 0 rel8 (keyed b0))), src6, bund 0 (signed 0 rel8 (keyed b0)), signed 0 rel8 (keyed
     b0), 0, true, true, { sl with st := .live, span := 10 }, W fun s => withSlot (fun x =>
     { x with st := .live, span := 10 }) (keyed s), by decide +kernel⟩,
   ⟨macs6, frameOf (bund 0 (signed 0 rel8 (keyed b0))), src6, bund 0 (signed 0 rel8 (keyed b0)), signed 0 rel8 (keyed
     b0), 0, true, true, W keyed, by decide +kernel⟩,
   ⟨macs6, frameOf (bund 0 (signed 0 rep8 (keyed b0))), src6, bund 0 (signed 0 rep8 (keyed b0)), signed 0 rep8 (keyed
     b0), 0, true, true, W keyed, by decide +kernel⟩⟩

theorem test_meets_RequestDecisionDecides :
    (∃ (lane : Fin 8) (s : State), laneActed lane.val s.m = true) ∧
    (∃ (lane : Fin 8) (rid seq : Nat) (x : Slot) (s : State), powerless s.m = false ∧ arbOpen s.m = true ∧ laneActed
      lane.val s.m = false ∧ headFirst lane.val s.m = some (rid, seq) ∧ slotOf rid seq s.m = some x ∧ x.st = .waiting
      ∧ x.siding = false ∧ s.m.arb.stopped.testBit (rid % 8) = true) ∧
    (∃ (lane : Fin 8) (rid seq : Nat) (x : Slot) (s : State), powerless s.m = false ∧ arbOpen s.m = true ∧ laneActed
      lane.val s.m = false ∧ headFirst lane.val s.m = some (rid, seq) ∧ slotOf rid seq s.m = some x ∧ x.st = .waiting
      ∧ x.siding = false ∧ s.m.arb.stopped.testBit (rid % 8) = false ∧ 32767 < x.dp) ∧
    (∃ (lane : Fin 8) (rid seq : Nat) (x : Slot) (s : State), powerless s.m = false ∧ arbOpen s.m = true ∧ laneActed
      lane.val s.m = false ∧ headFirst lane.val s.m = some (rid, seq) ∧ slotOf rid seq s.m = some x ∧ x.st = .waiting
      ∧ x.siding = false) ∧
    (∃ (lane : Fin 8) (rid seq : Nat) (x : Slot) (s : State), powerless s.m = false ∧ arbOpen s.m = true ∧ laneActed
      lane.val s.m = false ∧ headFirst lane.val s.m = some (rid, seq) ∧ slotOf rid seq s.m = some x ∧ x.st = .waiting
      ∧ x.siding = false ∧ laneHeadroom (effOf x) s.m < x.dp) ∧
    (∃ (lane : Fin 8) (rid seq : Nat) (x : Slot) (s : State), powerless s.m = false ∧ arbOpen s.m = true ∧ laneActed
      lane.val s.m = false ∧ headFirst lane.val s.m = some (rid, seq) ∧ slotOf rid seq s.m = some x ∧ x.st = .waiting
      ∧ x.siding = false ∧ laneHeadroom (effOf x) s.m < x.dp ∧ oGet Obj.ARB_PREEMPT (requester rid s.m).cls 0 s.m =
      1) ∧
    (∃ (lane : Fin 8) (rid seq : Nat) (x : Slot) (s : State), powerless s.m = false ∧ arbOpen s.m = true ∧ laneActed
      lane.val s.m = false ∧ headFirst lane.val s.m = some (rid, seq) ∧ slotOf rid seq s.m = some x ∧ x.st = .waiting
      ∧ x.siding = false ∧ s.m.mode ≠ .drain ∧ rowNoGrant (row (effOf x) s.m) = false ∧ x.dp ≤ laneHeadroom (effOf x)
      s.m) ∧
    (∃ (lane : Fin 8) (rid seq : Nat) (x : Slot) (s : State), powerless s.m = false ∧ arbOpen s.m = true ∧ laneActed
      lane.val s.m = false ∧ headFirst lane.val s.m = some (rid, seq) ∧ slotOf rid seq s.m = some x ∧ x.st = .waiting
      ∧ x.siding = false) ∧
    (∃ (lane : Fin 8) (rid seq : Nat) (x : Slot) (s : State), powerless s.m = false ∧ arbOpen s.m = true ∧ laneActed
      lane.val s.m = false ∧ headFirst lane.val s.m = some (rid, seq) ∧ slotOf rid seq s.m = some x ∧ x.st = .waiting
      ∧ x.siding = false) :=
  ⟨⟨7, W fun s => { s with arb.actedAt := clock, arb.acted := 128 }, by decide +kernel⟩,
   ⟨0, 8, 5, { sl with dp := 1 }, W fun s => { asked (fun x => { x with dp := 1 }) s with arb.stopped := 1 },
     by decide +kernel⟩,
   ⟨0, 8, 5, { sl with dp := 32768 }, W fun s => asked (fun x => { x with dp := 32768 }) s, by decide +kernel⟩,
   ⟨0, 8, 5, { sl with eff := 249999 }, W fun s =>
     { asked (fun x => { x with eff := 249999 }) s with mode := .drain }, by decide +kernel⟩,
   ⟨0, 8, 5, sl, W fun s => { asked id s with arb.corr := 0 }, by decide +kernel⟩,
   ⟨0, 8, 5, sl, W fun s => oSet Obj.ARB_PREEMPT 4 0 1 { asked id s with arb.corr := 0 }, by decide +kernel⟩,
   ⟨0, 8, 5, sl, W (asked id), by decide +kernel⟩,
   ⟨0, 8, 5, { sl with dp := 0 }, W fun s => asked (fun x => { x with dp := 0 }) s, by decide +kernel⟩,
   ⟨0, 8, 5, { sl with eff := 250000 }, W fun s => asked (fun x => { x with eff := 250000 }) s, by decide +kernel⟩⟩

theorem test_meets_ArbiterUnitsAct :
    (∃ (lane : Fin 8) (rid : Nat) (x : Slot) (s : State), powerless s.m = false ∧ arbOpen s.m = true ∧ laneActed
      lane.val s.m = false ∧ offerFirst lane.val s.m = some (rid, x)) ∧
    (∃ (lane : Fin 8) (rid : Nat) (x : Slot) (s : State), powerless s.m = false ∧ arbOpen s.m = true ∧ laneActed
      lane.val s.m = false ∧ offerFirst lane.val s.m = some (rid, x)) ∧
    (∃ (rid seq : Nat) (x : Slot) (rest : List (Nat × Nat)) (s : State), powerless s.m = false ∧ arbOpen s.m = true ∧
      s.m.arb.falls = [] ∧ s.m.arb.tasks = (rid, seq) :: rest ∧ slotOf rid seq s.m = some x ∧ x.since < s.m.now) ∧
    (∃ (rid seq : Nat) (x : Slot) (rest : List (Nat × Nat)) (s : State), powerless s.m = false ∧ arbOpen s.m = true ∧
      s.m.arb.falls = [] ∧ s.m.arb.tasks = (rid, seq) :: rest ∧ slotOf rid seq s.m = some x ∧ x.since < s.m.now) ∧
    (∃ (rid seq : Nat) (x : Slot) (rest : List (Nat × Nat)) (s : State), powerless s.m = false ∧ arbOpen s.m = true ∧
      s.m.arb.falls = [] ∧ s.m.arb.tasks = (rid, seq) :: rest ∧ slotOf rid seq s.m = some x ∧ x.since < s.m.now ∧
      s.m.arb.stopped.testBit (rid % 8) = true) ∧
    (∃ (rid seq : Nat) (x : Slot) (rest : List (Nat × Nat)) (s : State), powerless s.m = false ∧ arbOpen s.m = true ∧
      s.m.arb.falls = [] ∧ s.m.arb.tasks = (rid, seq) :: rest ∧ slotOf rid seq s.m = some x ∧ x.since < s.m.now) ∧
    (∃ (q : FallTask) (rest : List FallTask) (rid : Nat) (x y : Slot) (s : State), powerless s.m = false ∧ arbOpen
      s.m = true ∧ s.m.arb.falls = q :: rest ∧ revokeBin s.m < s.m.trk.n ∧ (takeUntil q.size (candidates (fun _ y =>
      inForce s.m.trk.bin s.m.trk.n y) s.m)).1 = [(rid, x)] ∧ slotOf rid x.seq s.m = some y) :=
  ⟨⟨0, 8, { sl with st := .parked, siding := true, ready := true }, W (withSlot fun x =>
     { x with st := .parked, siding := true, ready := true }), by decide +kernel⟩,
   ⟨0, 8, { sl with st := .parked, siding := true, ready := true }, W fun s =>
     { withSlot (fun x => { x with st := .parked, siding := true, ready := true }) s with arb.corr := 0 },
     by decide +kernel⟩,
   ⟨8, 5, { sl with task := true }, [], W fun s =>
     { withSlot (fun x => { x with task := true }) s with arb.tasks := [(8, 5)] }, by decide +kernel⟩,
   ⟨8, 5, { sl with task := true }, [], W fun s =>
     { withSlot (fun x => { x with task := true }) s with arb.tasks := [(8, 5)], arb.corr := 0 }, by decide +kernel⟩,
   ⟨8, 5, { sl with task := true }, [], W fun s =>
     { withSlot (fun x => { x with task := true }) s with arb.tasks := [(8, 5)], arb.stopped := 1 },
     by decide +kernel⟩,
   ⟨8, 5, { sl with task := true }, [], W fun s =>
     { withSlot (fun x => { x with task := true }) s with arb.tasks := [(8, 5)], mode := .drain }, by decide +kernel⟩,
   ⟨⟨100, 2⟩, [], 8, { sl with st := .live, span := 10 }, { sl with st := .live, span := 10 }, W fun s =>
     { withSlot (fun x => { x with st := .live, span := 10 }) s with arb.falls := [⟨100, 2⟩] }, by decide +kernel⟩⟩

theorem test_meets_EgressActs :
    (∃ (t : Fin 64) (p : Fin 4) (b : OpenBundle) (s : State), powerless s.m = false ∧ s.m.tk.open_.find? (fun b =>
      decide (b.tray = t.val ∧ b.prio = p.val ∧ b.group = none)) = some b ∧ b.first + obj Obj.TKT_EGRESS_HOLD_NS s.m
      ≤ s.m.now) ∧
    (∃ (t : Fin 64) (p : Fin 4) (b : OpenBundle) (s : State), powerless s.m = false ∧ s.m.tk.open_.find? (fun b =>
      decide (b.tray = t.val ∧ b.prio = p.val ∧ b.group = none)) = some b ∧ b.first + obj Obj.TKT_EGRESS_HOLD_NS s.m
      ≤ s.m.now) ∧
    (∃ (t : Fin 64) (p : Fin 4) (b : OpenBundle) (s : State), s.m.tk.open_.find? (fun b => decide (b.tray = t.val ∧
      b.prio = p.val ∧ b.group = none)) = some b ∧ s.m.now < b.first + obj Obj.TKT_EGRESS_HOLD_NS s.m) ∧
    (∃ (port : Fin 8) (b : ReadyBundle) (s : State), powerless s.m = false ∧ nextReady port.val s.m = some b ∧
      outputs s.m = true ∧ keyValid b.tray s.m ≠ 0) ∧
    (∃ (port : Fin 8) (b : ReadyBundle) (s : State), powerless s.m = false ∧ nextReady port.val s.m = some b ∧
      outputs s.m = true ∧ keyValid b.tray s.m = 0) ∧
    (∃ (t : Fin 64) (c : Nat) (r : List Nat) (s : State), powerless s.m = false ∧ (tray t.val s.m).checks = c :: r ∧
      c ≤ s.m.now ∧ trayFloor t.val s.m + obj Obj.TKT_BRAKE_MARGIN_W s.m < feederPower t.val s.m) ∧
    (∃ (t : Fin 64) (c : Nat) (r : List Nat) (s : State), powerless s.m = false ∧ (tray t.val s.m).checks = c :: r ∧
      c ≤ s.m.now) :=
  ⟨⟨0, 3, ⟨0, 3, none, 0, clock, [ans]⟩, W fun s => setObj Obj.TKT_EGRESS_HOLD_NS 0
     { s with tk.open_ := [⟨0, 3, none, 0, clock, [ans]⟩] }, by decide +kernel⟩,
   ⟨63, 0, ⟨63, 0, none, 0, clock, []⟩, W fun s => setObj Obj.TKT_EGRESS_HOLD_NS 0
     { s with tk.open_ := [⟨63, 0, none, 0, clock, []⟩] }, by decide +kernel⟩,
   ⟨0, 3, ⟨0, 3, none, 0, clock, [ans]⟩, W fun s => setObj Obj.TKT_EGRESS_HOLD_NS 1
     { s with tk.open_ := [⟨0, 3, none, 0, clock, [ans]⟩] }, by decide +kernel⟩,
   ⟨2, ⟨2, 1, 7, 0, [ans]⟩, W fun s => keyed { s with tk.ready := [⟨2, 1, 7, 0, [ans]⟩] }, by decide +kernel⟩,
   ⟨2, ⟨2, 1, 7, 0, [ans]⟩, W fun s => { s with tk.ready := [⟨2, 1, 7, 0, [ans]⟩] }, by decide +kernel⟩,
   ⟨0, clock, [clock + 9], W fun s => keyed
     { s with tk.trays := [(0, { checks := [clock, clock + 9] })], fdr.feeders := [(0, { curr := 65535 })], cnv.busMv := 800000 },
     by decide +kernel⟩,
   ⟨0, clock, [clock + 9], W fun s => keyed { s with tk.trays := [(0, { checks := [clock, clock + 9] })] },
     by decide +kernel⟩⟩

theorem test_meets_LoadEventActs :
    (∃ (a x : Nat) (l : List (Nat × Nat)) (s : State), powerless s.m = false ∧ tracking s.m = true ∧ obj
      Obj.TRK_SOURCE s.m ≠ 0 ∧ s.m.grd.agg = (a, x) :: l ∧ crossed x s.m = true) ∧
    (∃ (a x : Nat) (l : List (Nat × Nat)) (s : State), powerless s.m = false ∧ tracking s.m = true ∧ obj
      Obj.TRK_SOURCE s.m = 1 ∧ s.m.grd.agg = (a, x) :: l ∧ crossed x s.m = true ∧ (s.m.trk.st = .search ∨ s.m.trk.st
      = .aperiodic) ∧ farEnough (a - s.m.trk.offset) s.m = true) ∧
    (∃ (a x : Nat) (l : List (Nat × Nat)) (s : State), s.m.grd.agg = (a, x) :: l ∧ (obj Obj.TRK_SOURCE s.m = 0 ∨
      crossed x s.m = false)) ∧
    (∃ (a x : Nat) (l : List (Nat × Nat)) (s : State), s.m.grd.agg = (a, x) :: l ∧ (obj Obj.TRK_SOURCE s.m = 0 ∨
      crossed x s.m = false) ∧ crossed x s.m = false) :=
  ⟨⟨clock, 60000, [], W fun s =>
     { s with trk.st := .locked, trk.prevMin := some 0, trk.prevMax := some 100, grd.agg := [(clock, 60000)] },
     by decide +kernel⟩,
   ⟨clock, 60000, [(clock, 0), (clock, 100)], W fun s => setObj Obj.TRK_SOURCE 1
     { s with grd.agg := [(clock, 60000), (clock, 0), (clock, 100)] }, by decide +kernel⟩,
   ⟨clock, 60000, [(clock, 0), (clock, 100)], W fun s => setObj Obj.TRK_SOURCE 0
     { s with grd.agg := [(clock, 60000), (clock, 0), (clock, 100)] }, by decide +kernel⟩,
   ⟨clock, 0, [], W fun s => { s with grd.agg := [(clock, 0)] }, by decide +kernel⟩⟩

theorem test_meets_TrackerTimersAct :
    (∃ (s : State), powerless s.m = false ∧ s.m.trk.st = .search ∧ (s.m.mode = .run ∨ s.m.mode = .drain) ∧ s.m.role ≠
      .standby ∧ s.m.trk.enteredAt + obj Obj.TRK_SEARCH_LIMIT_S s.m * 1000000000 ≤ s.m.now) ∧
    (∃ (s : State), s.m.now < s.m.trk.enteredAt + obj Obj.TRK_SEARCH_LIMIT_S s.m * 1000000000) ∧
    (∃ (s : State) (c : Nat), powerless s.m = false ∧ tracking s.m = true ∧ s.m.trk.st = .locked ∧ s.m.trk.capClose =
      some c ∧ c ≤ s.m.now ∧ s.m.trk.heldLast = none) ∧
    (∃ (s : State) (c : Nat), powerless s.m = false ∧ tracking s.m = true ∧ s.m.trk.st = .holdover ∧ s.m.trk.capClose
      = some c ∧ c ≤ s.m.now ∧ s.m.trk.heldLast = none) ∧
    (∃ (s : State) (c : Nat) (e : Int), powerless s.m = false ∧ tracking s.m = true ∧ (s.m.trk.st = .locked ∨
      s.m.trk.st = .holdover) ∧ s.m.trk.capClose = some c ∧ c ≤ s.m.now ∧ s.m.trk.heldLast = some e) ∧
    (∃ (s : State), powerless s.m = false ∧ tracking s.m = true ∧ s.m.trk.st = .track ∧ s.m.trk.period ≠ 0 ∧
      s.m.trk.stretch = true ∧ predicted s.m + captureNs s.m ≤ s.m.now ∧ s.m.trk.held = none) :=
  ⟨⟨W fun s => { s with trk.st := .search }, by decide +kernel⟩,
   ⟨W fun s => { s with trk.st := .search, trk.enteredAt := clock }, by decide +kernel⟩,
   ⟨W fun s => { s with trk.st := .locked, trk.capClose := some clock }, clock, by decide +kernel⟩,
   ⟨W fun s => { s with trk.st := .holdover, trk.capClose := some clock, trk.missed := 7 }, clock, by decide +kernel⟩,
   ⟨W fun s =>
     { s with trk.st := .holdover, trk.capClose := some clock, trk.heldLast := some 999999000000, trk.missed := 7 },
     clock, 999999000000, by decide +kernel⟩,
   ⟨W fun s =>
     { s with trk.st := .track, trk.period := 1000000000, trk.stretch := true, trk.n := 2, trk.bin := 1, trk.binT := (clock - 100000000) * 2 ^ 14, trk.nextT := (clock - 100000000) * 2 ^ 14, trk.wrapT := clock - 100000000 },
     by decide +kernel⟩⟩

theorem test_meets_BoundaryAndPagesAct :
    (∃ (s : State) (t' : Tracker) (rebin unlock : Bool), powerless s.m = false ∧ tracking s.m = true ∧ s.m.trk.bin +
      1 = s.m.trk.n ∧ s.m.trk.nextT ≤ s.m.now * 2 ^ 14 ∧ s.m.trk.stretch = false ∧ naturalWrap s.m = some (t', rebin,
      unlock)) ∧
    (∃ (s : State), powerless s.m = false ∧ tracking s.m = true ∧ s.m.trk.bin + 1 = s.m.trk.n ∧ s.m.trk.nextT ≤
      s.m.now * 2 ^ 14 ∧ s.m.trk.stretch = false ∧ naturalWrap s.m = none) ∧
    (∃ (s : State), powerless s.m = false ∧ tracking s.m = true ∧ s.m.trk.bin + 1 < s.m.trk.n ∧ s.m.trk.nextT ≤
      s.m.now * 2 ^ 14) ∧
    (∃ (s : State), powerless s.m = false ∧ s.m.tt.valid = some 0 ∧ validatePage
      { s.m with tt := { s.m.tt with valid := none } } = none) ∧
    (∃ (s : State) (c r : Nat), powerless s.m = false ∧ s.m.tt.valid = some 0 ∧ validatePage
      { s.m with tt := { s.m.tt with valid := none } } = some (c, r)) ∧
    (∃ (m k reqId mask : Nat) (q : Mach) (s : State), powerless s.m = false ∧ s.m.tt.valid = some (m + 1) ∧
      s.m.mg.waiting = some (k, reqId, mask) ∧ q =
      { s.m with tt := { s.m.tt with valid := none }, mg := { s.m.mg with waiting := none } } ∧ lapseDue q = none ∧
      q.mg.holder = m + 1 ∧ (session k q).st = 2 ∧ (session k q).mgr = m + 1 ∧ (session k q).held = [] ∧ commitFail
      mask q.mg.staged q = none ∧ validatePage (withHeader q) = none) ∧
    (∃ (s : State), powerless s.m = false ∧ s.m.tt.shadow = .copying) :=
  ⟨⟨W fun s => { s with trk.bin := 249999, trk.nextT := clock * 2 ^ 14 }, pseudoStep (clock * 2 ^ 14) .search clock
     (W fun s => { s with trk.bin := 249999, trk.nextT := clock * 2 ^ 14 }).m.trk, false, false, by decide +kernel⟩,
   ⟨W fun s => { s with trk.st := .track, trk.period := 1000000000, trk.bin := 249999, trk.nextT := clock * 2 ^ 14 },
     by decide +kernel⟩,
   ⟨W fun s => { s with trk.nextT := clock * 2 ^ 14, arb.corrNext := some (-5) }, by decide +kernel⟩,
   ⟨W fun s => { s with tt.valid := some 0, tt.pages := ({}, { count := 250000, width := 3, seq := 9 }) },
     by decide +kernel⟩,
   ⟨W fun s => { s with tt.valid := some 0 }, 9, 0, by decide +kernel⟩,
   ⟨0, 0, 7, 1, { v0 with tt := { valid := none, pages := ({}, { count := 250000, width := 3, seq := 9 }) } }, V fun
     s =>
     { s with tt.valid := some 1, mg.waiting := some (0, 7, 1), tt.pages := ({}, { count := 250000, width := 3, seq := 9 }) },
     by decide +kernel⟩,
   ⟨W fun s => { s with tt.shadow := .copying, tt.pages := ({ count := 250000, width := 3, seq := 9 }, {}) },
     by decide +kernel⟩⟩

theorem test_meets_TicketAndConverterWritesAct :
    (∃ (r : Req) (v : BitVec 64) (k : Fin 64) (s : State), Admitted r 0x210C 0 0 (toBytes 8 v.toNat) s ∧
      v.toNat.testBit k.val = true ∧ keyValid k.val s.m ≠ 0) ∧
    (∃ (r : Req) (k : Fin 64) (s : State), Admitted r (0x2140 + k.val) 7 0 (toBytes 1 1) s) ∧
    (∃ (r : Req) (s : State), Admitted r 0x2231 0 0 (toBytes 1 1) s) ∧
    (∃ (r : Req) (off : BitVec 64) (data : List Byte) (i w : Nat) (s : State), Admitted r 0x3030 0 off.toNat data s ∧
      (entriesOf off.toNat data) = [(i, w)]) ∧
    (∃ (r : Req) (v : BitVec 32) (c : Fin 25) (s : State), Admitted r 0x2330 5 0 (toBytes 4 v.toNat) s ∧
      v.toNat.testBit c.val = true) ∧
    (∃ (r : Req) (v : BitVec 16) (s : State), Admitted r 0x2301 0 0 (toBytes 2 v.toNat) s) ∧
    (∃ (r : Req) (v : BitVec 32) (s : State), Admitted r 0x2302 1 0 (toBytes 4 v.toNat) s) :=
  ⟨⟨rq, 1, 0, V keyed, adm (by decide +kernel), by decide +kernel⟩,
   ⟨rq, 63, V fun s => { s with arb.reqs := [(63 * 512, { lastSeq := some 4 })] }, adm (by decide +kernel)⟩,
   ⟨rq, V id, adm (by decide +kernel)⟩,
   ⟨rq, 0, toBytes 32 (3 * 2 ^ 253 + 5 * 2 ^ 235), 0, 3 * 2 ^ 253 + 5 * 2 ^ 235, V id, adm (by decide +kernel),
     by decide +kernel⟩,
   ⟨rq, 8, 3, V fun s => { s with cnv.cards := [(3, { removed := true })] }, adm (by decide +kernel),
     by decide +kernel⟩,
   ⟨rq, 16000, V fun s => { s with mode := .stop }, adm (by decide +kernel)⟩,
   ⟨rq, 800000, V id, adm (by decide +kernel)⟩⟩

theorem test_meets_FramesAndPhasesAct :
    (∃ (s : State), powerless s.m = false ∧ s.m.mode ≠ .boot ∧ nextFrameAt s.m ≤ s.m.now * 8 + 8000 ∧ replaced s.m =
      false ∧ s.m.ptn.switchAt = none) ∧
    (∃ (s : State), s.m.now * 8 + 8000 < nextFrameAt s.m) ∧
    (∃ (p : Fin 100) (s : State), powerless s.m = false ∧ followsLoop s.m = false ∧ (phase p.val s.m).st = .diode ∧
      (phase p.val s.m).missing = false ∧ computeDue s.m = true ∧ (measMa p.val s.m ≤ (obj Obj.CNV_BRAKE_EXIT_MA s.m
      : Int) ∨ obj Obj.CNV_BRAKE_MAX_FRAMES s.m ≤ (phase p.val s.m).dFrames)) ∧
    (∃ (deep : Bool) (p : Nat) (s : State), powerless s.m = false ∧ followsLoop s.m = false ∧ s.m.cnv.st = .regulate
      ∧ (phasesIn deep .working s.m).getLast? = some p ∧ obj Obj.CNV_SHED_DWELL s.m ≤ (bankReg deep s.m).dwell ∧
      nNeed deep s.m < nWork deep s.m ∧ rowShed (frameRow s.m) = true ∧ (bankReg deep s.m).shedAt ≠ s.m.cnv.k) ∧
    (∃ (p : Fin 100) (s : State), powerless s.m = false ∧ followsLoop s.m = false ∧ (phase p.val s.m).st = .warmShed
      ∧ obj Obj.CNV_WARM_HOLD s.m ≤ (phase p.val s.m).wFrames) ∧
    (∃ (p : Fin 100) (a : Nat) (s : State), powerless s.m = false ∧ followsLoop s.m = false ∧ (phase p.val s.m).st =
      .coldShed ∧ (phase p.val s.m).idleAt = some a ∧ a + obj Obj.CNV_COLD_WAKE_US s.m * 1000 ≤ s.m.now) ∧
    (∃ (deep : Bool) (s : State), powerless s.m = false ∧ followsLoop s.m = false ∧ (bankReg deep s.m).credit = 0) :=
  ⟨⟨W fun s => { s with cnv.frameAt := clock * 8 - 80000, cnv.k := 2 ^ 32 - 1 }, by decide +kernel⟩,
   ⟨W fun s => { s with cnv.frameAt := clock * 8 }, by decide +kernel⟩,
   ⟨99, W fun s => { s with cnv.phases := [(99, { st := .diode })], cnv.frameAt := clock * 8 - 80000 },
     by decide +kernel⟩,
   ⟨false, 59, W fun s =>
     { s with cnv.st := .regulate, cnv.k := 5, cnv.banks := ({ dwell := 1000000 }, {}), cnv.phases := (List.range 60).map fun p => (p, { st := .working }), tt.synth := false, tt.pages := ({ count := 250000, width := 3, rows := [(0, 2 ^ 53)] }, {}) },
     by decide +kernel⟩,
   ⟨0, W fun s => { s with cnv.phases := [(0, { st := .warmShed, wFrames := 1000000 })] }, by decide +kernel⟩,
   ⟨7, 0, W fun s => { s with cnv.phases := [(7, { st := .coldShed, idleAt := some 0 })] }, by decide +kernel⟩,
   ⟨true, W fun s => { s with cnv.banks := ({}, { credit := 0, lim := 1000000000 }) }, by decide +kernel⟩⟩

theorem test_meets_SenseAndCardLinksAct :
    (∃ (s : State), powerless s.m = false ∧ s.m.mode ≠ .boot) ∧
    (∃ (s : State), powerless s.m = false ∧ s.m.mode ≠ .boot) ∧
    (∃ (ch : Fin 16) (s : State), powerless s.m = false ∧ followsLoop s.m = false ∧ s.m.ptn.executing = false ∧
      s.m.mode ≠ .boot ∧ (watched s.m).contains ch.val = true ∧ max (sget 0 s.m.cnv.lastAt ch.val) s.m.gl.upAt + 3000
      ≤ s.m.now) ∧
    (∃ (frame : BitVec 128) (s : State), powerless s.m = false ∧ s.m.mode ≠ .boot ∧ followsLoop s.m = false ∧
      s.m.ptn.claimAt = none ∧ s.m.ptn.switchAt = none ∧ ¬ (frame.toNat / 2 ^ 124 = 1 ∧ frame.toNat % 65536 = crc16
      ((toBytes 16 frame.toNat).take 14))) ∧
    (∃ (c : Fin 25) (frame : BitVec 128) (s : State), powerless s.m = false ∧ s.m.mode ≠ .boot ∧ followsLoop s.m =
      false ∧ s.m.ptn.claimAt = none ∧ s.m.ptn.switchAt = none ∧ ¬ (frame.toNat / 2 ^ 124 = 1 ∧ frame.toNat % 65536 =
      crc16 ((toBytes 16 frame.toNat).take 14)) ∧ 2 ≤ (card c.val s.m).badRun) ∧
    (∃ (frame : BitVec 128) (s : State), powerless s.m = false ∧ s.m.mode ≠ .boot ∧ followsLoop s.m = false ∧
      s.m.ptn.claimAt = none ∧ s.m.ptn.switchAt = none ∧ frame.toNat / 2 ^ 124 = 1 ∧ frame.toNat % 65536 = crc16
      ((toBytes 16 frame.toNat).take 14)) ∧
    (∃ (c : Fin 25) (s : State), powerless s.m = false ∧ followsLoop s.m = false ∧ (card c.val s.m).fitted = true ∧
      (3 ≤ (card c.val s.m).badRun ∨ (card c.val s.m).lastUp + 30000 ≤ s.m.now)) ∧
    (∃ (c : Fin 25) (s : State), powerless s.m = false ∧ followsLoop s.m = false ∧ (card c.val s.m).fitted = true ∧
      (3 ≤ (card c.val s.m).badRun ∨ (card c.val s.m).lastUp + 30000 ≤ s.m.now)) :=
  ⟨⟨W fun s => { s with cnv.setNo := some 6 }, by decide +kernel⟩,
   ⟨W fun s => { s with cnv.setNo := some 255 }, by decide +kernel⟩,
   ⟨0, W id, by decide +kernel⟩,
   ⟨0, W id, by decide +kernel⟩,
   ⟨24, 0, W fun s => { s with cnv.cards := [(24, { fitted := true, badRun := 2 })] }, by decide +kernel⟩,
   ⟨BitVec.ofNat 128 (framed 16 (2 ^ 124 + 77 * 2 ^ 104 + 24 * 2 ^ 27)), W id, by decide +kernel⟩,
   ⟨0, W fun s => { s with cnv.cards := [(0, { fitted := true, badRun := 3, lastUp := clock })] }, by decide +kernel⟩,
   ⟨24, W fun s => { s with cnv.cards := [(24, { fitted := true, badRun := 0, lastUp := clock - 30000 })] },
     by decide +kernel⟩⟩

theorem test_meets_AllFireAndDownlinksAct :
    (∃ (s : State), powerless s.m = false ∧ followsLoop s.m = false ∧ s.m.cnv.fire.active = true ∧ s.m.cnv.fire.ends
      ≤ s.m.now * 8) ∧
    (∃ (s : State), powerless s.m = false ∧ followsLoop s.m = false ∧ s.m.cnv.fire.held = true ∧ s.m.cnv.fire.active
      = false ∧ s.m.cnv.fire.sepEnd ≤ s.m.now * 8 ∧ s.m.cnv.st = .regulate) ∧
    (∃ (s : State), powerless s.m = false ∧ s.m.mode ≠ .boot ∧ 16000 < s.m.cnv.period ∧ s.m.cnv.frameAt + frameLen
      s.m / 2 ≤ s.m.now * 8 ∧ s.m.ptn.gate = false) :=
  ⟨⟨W fun s => { s with cnv.fire := { active := true, ends := clock * 8 } }, by decide +kernel⟩,
   ⟨W fun s => { s with cnv.fire := { held := true, sepEnd := clock * 8 }, cnv.st := .regulate }, by decide +kernel⟩,
   ⟨W fun s => { s with cnv.period := 32000, cnv.frameAt := clock * 8 - 160000 }, by decide +kernel⟩⟩

theorem test_meets_CalibrationActs :
    (∃ (s : State), powerless s.m = false ∧ followsLoop s.m = false ∧ s.m.mode = .start ∧ s.m.cnv.st = .track ∧
      s.m.bnk.st = .ready ∧ 100 ≤ s.m.cnv.settled) ∧
    (∃ (p : Fin 100) (s : State), powerless s.m = false ∧ followsLoop s.m = false ∧ 256 ≤ (phase p.val s.m).offN) ∧
    (∃ (c : Fin 25) (s : State), powerless s.m = false ∧ c.val = s.m.cnv.cal.card ∧ 127 ≤ s.m.cnv.cal.frames.length) ∧
    (∃ (c : Fin 25) (s : State), powerless s.m = false ∧ obj Obj.EST_CAL_SEQ s.m ≤ sget 0 s.m.cnv.cal.seqs c.val ∧
      drives s.m = true) ∧
    (∃ (c : Fin 25) (s : State), powerless s.m = false ∧ obj Obj.EST_CAL_SEQ s.m ≤ sget 0 s.m.cnv.cal.seqs c.val ∧
      drives s.m = true) ∧
    (∃ (s : State), powerless s.m = false ∧ s.m.cnv.cal.lastDone + 86400 * 1000000000 ≤ s.m.now) :=
  ⟨⟨W fun s => { s with mode := .start, cnv.st := .track, bnk.st := .ready, cnv.settled := 100 }, by decide +kernel⟩,
   ⟨99, W fun s => { s with cnv.phases := [(99, { offN := 256, offSum := -512 })] }, by decide +kernel⟩,
   ⟨0, W fun s => { s with cnv.cal.frames := List.replicate 127 (1, 2, 3) }, by decide +kernel⟩,
   ⟨3, W fun s => { s with cnv.cal.seqs := [(3, 1000000)] }, by decide +kernel⟩,
   ⟨3, W fun s => { s with cnv.cal.seqs := [(3, 1000000)], cnv.cal.sums := [(3, (1000, 1000, 1000, 1000, 1000))] },
     by decide +kernel⟩,
   ⟨W fun s => { s with now := 86400 * 1000000000 }, by decide +kernel⟩⟩

theorem test_meets_EngineTicksAndDescriptorsAct :
    (∃ (s : State) (a : Nat), powerless s.m = false ∧ s.m.eng.nextAt = some a ∧ engRuns s.m = true ∧ s.m.eng.active ≠
      0 ∧ s.m.eng.suspended = false ∧ s.m.eng.copying = false ∧ a ≤ s.m.now) ∧
    (∃ (s : State) (a : Nat), s.m.eng.nextAt = some a ∧ s.m.now < a) ∧
    (∃ (q : Tick) (s : State), powerless s.m = false ∧ s.m.eng.tick = some q ∧ q.done = false ∧ q.dead = false ∧
      s.m.now < q.stop ∧ engRuns s.m = true) ∧
    (∃ (q : Tick) (s : State), powerless s.m = false ∧ s.m.eng.tick = some q ∧ q.done = false ∧ q.dead = false ∧
      s.m.now < q.stop ∧ engRuns s.m = true) ∧
    (∃ (q : Tick) (s : State), s.m.eng.tick = some q ∧ q.stop ≤ s.m.now) ∧
    (∃ (q : Tick) (s : State), powerless s.m = false ∧ s.m.eng.tick = some q ∧ q.stop ≤ s.m.now) ∧
    (∃ (q : Tick) (s : State), powerless s.m = false ∧ s.m.eng.tick = some q ∧ q.stop ≤ s.m.now) ∧
    (∃ (q : Tick) (s : State), powerless s.m = false ∧ s.m.eng.tick = some q ∧ q.stop ≤ s.m.now) ∧
    (∃ (q : Tick) (s : State), powerless s.m = false ∧ s.m.eng.held = some q ∧ s.m.tt.shadow = .opened) ∧
    (∃ (q : Tick) (s : State), powerless s.m = false ∧ s.m.eng.held = some q ∧ s.m.tt.shadow = .opened) ∧
    (∃ (d : BitVec 256), descReserved d.toNat = true) ∧
    (∃ (d : BitVec 256) (s : State), powerless s.m = false ∧ descReserved d.toNat = false ∧ descOutside d.toNat s.m =
      true) ∧
    (∃ (d : BitVec 256) (s : State), powerless s.m = false ∧ descReserved d.toNat = false) ∧
    (∃ (d : BitVec 256) (s : State), powerless s.m = false ∧ descReserved d.toNat = false) ∧
    (∃ (d : BitVec 256) (q : Tick) (s : State), powerless s.m = false ∧ descReserved d.toNat = false ∧ descOutside
      d.toNat s.m = false ∧ s.m.eng.tick = some q ∧ q.dead = false ∧ q.done = false ∧ s.m.now < q.stop ∧ descKind
      d.toNat = 4 ∧ descCount d.toNat = 1 ∧ descRows d.toNat = 1) :=
  ⟨⟨W fun s => { s with eng.nextAt := some clock, eng.active := 1 }, clock, by decide +kernel⟩,
   ⟨W fun s => { s with eng.nextAt := some (clock + 1) }, clock + 1, by decide +kernel⟩,
   ⟨tick1, W fun s => { s with eng.nextAt := some clock, eng.active := 1, eng.tick := some tick1 },
     by decide +kernel⟩,
   ⟨{ tick1 with mute := true }, W fun s =>
     { s with eng.nextAt := some clock, eng.active := 1, eng.tick := some { tick1 with mute := true } },
     by decide +kernel⟩,
   ⟨{ tick1 with stop := clock }, W fun s => { s with eng.tick := some { tick1 with stop := clock } },
     by decide +kernel⟩,
   ⟨{ tick1 with stop := clock }, W fun s =>
     { s with eng.active := 1, eng.tick := some { tick1 with stop := clock } }, by decide +kernel⟩,
   ⟨{ tick1 with stop := clock, done := true }, W fun s =>
     { s with eng.active := 1, eng.tick := some { tick1 with stop := clock, done := true } }, by decide +kernel⟩,
   ⟨{ tick1 with stop := clock }, W fun s =>
     { s with mode := .stop, eng.active := 1, eng.tick := some { tick1 with stop := clock } }, by decide +kernel⟩,
   ⟨{ tick1 with rows := [(249999, 5)] }, W fun s =>
     { s with tt.pages := ({}, { count := 250000, width := 3 }), eng.held := some { tick1 with rows := [(249999, 5)] } },
     by decide +kernel⟩,
   ⟨{ tick1 with rows := [(262143, 5)] }, W fun s =>
     { s with eng.held := some { tick1 with rows := [(262143, 5)] } }, by decide +kernel⟩,
   ⟨0, by decide +kernel⟩,
   ⟨BitVec.ofNat 256 (2 ^ 252 + (2 ^ 24 - 1) * 2 ^ 146), W id, by decide +kernel⟩,
   ⟨BitVec.ofNat 256 (2 ^ 252), W id, by decide +kernel⟩,
   ⟨BitVec.ofNat 256 (2 ^ 252 + 2 ^ 146), W fun s => { s with eng.active := 1, eng.tick := some tick1 },
     by decide +kernel⟩,
   ⟨BitVec.ofNat 256 (4 * 2 ^ 252 + 2 ^ 146), tick1, W fun s =>
     { s with eng.active := 1, eng.tick := some tick1, sig.tab := [(sigKey 0 0, 9)] }, by decide +kernel⟩⟩

theorem test_meets_CoachAndMemoryEventsAct :
    (∃ (c : Fin 64) (k : Fin 33) (s : State), powerless s.m = false ∧ (coach c.val s.m).failed.testBit k.val = false
      ∧ (coach c.val s.m).removed = false) ∧
    (∃ (c : Fin 64) (k : Fin 33) (s : State), powerless s.m = false ∧ (coach c.val s.m).failed.testBit k.val = false
      ∧ (coach c.val s.m).removed = false) ∧
    (∃ (c : Fin 64) (k : Fin 33) (s : State), powerless s.m = false ∧ obj Obj.ENG_SELFTEST_ENABLE s.m ≠ 0 ∧ (coach
      c.val s.m).removed = false ∧ (coach c.val s.m).failed.testBit k.val = false ∧ rowMaint (row s.m.trk.bin s.m) =
      true) ∧
    (∃ (c : Fin 64) (s : State), powerless s.m = false ∧ (coach c.val s.m).removed = false ∧ (coach c.val
      s.m).dueGone = false) ∧
    (∃ (s : State), powerless s.m = false) ∧
    (∃ (hit : HbmHit) (s : State), powerless s.m = false ∧ (∀ c, hit ≠ .ingest c)) ∧
    (∃ (hit : HbmHit) (s : State), powerless s.m = false ∧ (∀ c, hit ≠ .ingest c)) ∧
    (∃ (hit : HbmHit) (s : State), powerless s.m = false ∧ (∀ c, hit ≠ .ingest c)) ∧
    (∃ (hit : HbmHit) (s : State), powerless s.m = false ∧ (∀ c, hit ≠ .ingest c)) ∧
    (∃ (hit : HbmHit) (s : State), powerless s.m = false ∧ (∀ c, hit ≠ .ingest c)) ∧
    (∃ (hit : HbmHit) (s : State), powerless s.m = false ∧ (∀ c, hit ≠ .ingest c)) ∧
    (∃ (hit : HbmHit) (s : State), powerless s.m = false ∧ (∀ c, hit ≠ .ingest c)) ∧
    (∃ (s : State), powerless s.m = false) ∧
    (∃ (pch : Fin 128) (r : BitVec 32) (s : State), powerless s.m = false ∧ rowMaint (row s.m.trk.bin s.m) = true ∧
      repairsLeft pch.val s.m ≠ 0 ∧ s.m.eng.repairDue.contains (pch.val * 2 ^ 32 + r.toNat) = true) ∧
    (∃ (s : State), powerless s.m = false) ∧
    (∃ (pch : Fin 128) (s : State), powerless s.m = false ∧ s.m.eng.restores.any (fun r => decide (r.pch = pch.val))
      = true) ∧
    (∃ (s : State), powerless s.m = false) ∧
    (∃ (s : State), powerless s.m = false) :=
  ⟨⟨63, 32, W id, by decide +kernel⟩,
   ⟨63, 0, W id, by decide +kernel⟩,
   ⟨0, 0, W fun s => setObj Obj.ENG_SELFTEST_ENABLE 1 { maintBin s with eng.coaches := [(0, { lastFail := 1 })] },
     by decide +kernel⟩,
   ⟨63, W id, by decide +kernel⟩,
   ⟨W id, by decide +kernel⟩,
   ⟨.signature 63 262143, W fun s => { s with sig.tab := [(sigKey 63 262143, 4)] }, by decide +kernel⟩,
   ⟨.adaptation false, W fun s => { s with ldr.cand := some [] }, by decide +kernel⟩,
   ⟨.adaptation true, W fun s => { s with ldr.cand := some [], ldr.curBuf := 1 }, by decide +kernel⟩,
   ⟨.recurrentState, W fun s => { s with eng.state := [1, 2] }, by decide +kernel⟩,
   ⟨.longRecord 511 0, W id, by decide +kernel⟩,
   ⟨.model 5 true, W id, by decide +kernel⟩,
   ⟨.unused, W id, by decide +kernel⟩,
   ⟨W fun s => { s with eng.rowCe := [(127 * 2 ^ 32 + 4294967295, 1000000)] }, by decide +kernel⟩,
   ⟨127, 7, W fun s => { maintBin s with eng.repairDue := [127 * 2 ^ 32 + 7] }, by decide +kernel⟩,
   ⟨W fun s => { s with eng.pchUsed := 1 }, by decide +kernel⟩,
   ⟨127, W fun s => { s with eng.restores := [⟨127, 0⟩] }, by decide +kernel⟩,
   ⟨W fun s =>
     { s with tt.pages := ({ count := 250000, width := 3, rows := [(249999, 6)] }, {}), tt.shadow := .committed },
     by decide +kernel⟩,
   ⟨W fun s =>
     { s with tt.pages := ({ count := 250000, width := 3, rows := [(249999, 6)] }, {}), tt.shadow := .copying },
     by decide +kernel⟩⟩

theorem test_meets_BackgroundAndLongRecordAct :
    (∃ (s : State), powerless s.m = false) ∧
    (∃ (a : Fin 5) (s : State), powerless s.m = false ∧ 86400 < bgAge a.val s.m) ∧
    (∃ (a : Fin 5) (s : State), bgAge a.val s.m ≤ 86400) ∧
    (∃ (c : Fin 512) (s : State), powerless s.m = false ∧ 80 ≤ (lrChan c.val s.m).buf.length) ∧
    (∃ (c : Fin 512) (s : State), (lrChan c.val s.m).buf.length < 80) :=
  ⟨⟨W id, by decide +kernel⟩,
   ⟨0, W fun s => { s with now := 86402 * 1000000000 }, by decide +kernel⟩,
   ⟨0, W id, by decide +kernel⟩,
   ⟨511, W fun s => { s with lr.chans := [(511, { buf := List.replicate 80 5 })] }, by decide +kernel⟩,
   ⟨511, W fun s => { s with lr.chans := [(511, { buf := List.replicate 79 5 })] }, by decide +kernel⟩⟩

theorem test_meets_LoaderCommandsAct :
    (∃ (r : Req) (s : State), Admitted r 0x2440 0 0 (toBytes 1 1) s ∧ loaderOpen s.m = true ∧ s.m.ldr.erasing = false
      ∧ (loadState s.m = 0 ∨ loadState s.m = 5) ∧ obj Obj.MDL_LOAD_LENGTH s.m ≠ 0) ∧
    (∃ (r : Req) (s : State), Admitted r 0x2440 0 0 (toBytes 1 1) s ∧ loaderOpen s.m = true ∧ s.m.ldr.erasing = false
      ∧ (loadState s.m = 0 ∨ loadState s.m = 5) ∧ obj Obj.MDL_LOAD_LENGTH s.m ≠ 0) ∧
    (∃ (s : State), powerless s.m = false ∧ s.m.ldr.erasing = true) ∧
    (∃ (s : State), s.m.ldr.erasing = false) ∧
    (∃ (r : Req) (off : BitVec 64) (data : List Byte) (s : State), Admitted r 0x3060 0 off.toNat data s ∧ loaderOpen
      s.m = true ∧ loadState s.m = 1 ∧ off.toNat = s.m.ldr.inc.length ∧ off.toNat + data.length ≤ s.m.ldr.incLen) ∧
    (∃ (r : Req) (s : State), Admitted r 0x2440 0 0 (toBytes 1 2) s ∧ loaderOpen s.m = true ∧ loadState s.m = 1 ∧
      s.m.ldr.inc.length = s.m.ldr.incLen) ∧
    (∃ (s : State), powerless s.m = false ∧ loadState s.m = 2) ∧
    (∃ (s : State), loadState s.m ≠ 2) ∧
    (∃ (r : Req) (s : State), Admitted r 0x2440 0 0 (toBytes 1 3) s ∧ loaderOpen s.m = true ∧ loadState s.m = 3) ∧
    (∃ (r : Req) (s : State), Admitted r 0x2440 0 0 (toBytes 1 4) s ∧ loaderOpen s.m = true ∧ loadState s.m ≠ 0) :=
  ⟨⟨rq, V (setObj Obj.MDL_LOAD_LENGTH 4096), adm (by decide +kernel), by decide +kernel⟩,
   ⟨rq, V fun s => setObj Obj.MDL_LOAD_STATE 5 (setObj Obj.MDL_LOAD_LENGTH 4096 s), adm (by decide +kernel),
     by decide +kernel⟩,
   ⟨W fun s => { s with ldr.erasing := true }, by decide +kernel⟩,
   ⟨W id, by decide +kernel⟩,
   ⟨rq, 0, [1, 2, 3], V fun s => setObj Obj.MDL_LOAD_STATE 1 { s with ldr.incLen := 4096 }, adm (by decide +kernel),
     by decide +kernel⟩,
   ⟨rq, V (setObj Obj.MDL_LOAD_STATE 1), adm (by decide +kernel), by decide +kernel⟩,
   ⟨W (setObj Obj.MDL_LOAD_STATE 2), by decide +kernel⟩,
   ⟨W id, by decide +kernel⟩,
   ⟨rq, V (setObj Obj.MDL_LOAD_STATE 3), adm (by decide +kernel), by decide +kernel⟩,
   ⟨rq, V (setObj Obj.MDL_LOAD_STATE 3), adm (by decide +kernel), by decide +kernel⟩⟩

theorem test_meets_AdaptationActs :
    (∃ (s : State), powerless s.m = false ∧ s.m.eng.copying = true) ∧
    (∃ (s : State), s.m.eng.copying = false) ∧
    (∃ (s : State), powerless s.m = false ∧ engRuns s.m = true ∧ obj Obj.MDL_ADAPT_ENABLE s.m ≠ 0 ∧ s.m.eng.warm = 0
      ∧ s.m.eng.active = 1 ∧ mdlAdaptive s.m.ldr.inUse = true ∧ drives s.m = true ∧ s.m.ldr.cand = none ∧
      s.m.ldr.revert = false) ∧
    (∃ (s : State), powerless s.m = false ∧ engRuns s.m = true ∧ obj Obj.MDL_ADAPT_ENABLE s.m ≠ 0 ∧ s.m.eng.warm = 0
      ∧ s.m.eng.active = 1 ∧ mdlAdaptive s.m.ldr.inUse = true ∧ drives s.m = true ∧ s.m.ldr.cand = none ∧
      s.m.ldr.revert = false) ∧
    (∃ (r : Req) (s : State), Admitted r 0x2460 3 0 (toBytes 1 1) s ∧ s.m.ldr.loaded = true ∧ mdlAdaptive
      s.m.ldr.inUse = true) ∧
    (∃ (s : State), powerless s.m = false ∧ s.m.ldr.revert = true ∧ s.m.ldr.cand = none) :=
  ⟨⟨W fun s => { s with eng.copying := true }, by decide +kernel⟩,
   ⟨W id, by decide +kernel⟩,
   ⟨W fun s => setObj Obj.MDL_ADAPT_ENABLE 1 { s with eng.active := 1, ldr.inUse := adaptive }, by decide +kernel⟩,
   ⟨W fun s => setObj Obj.MDL_ADAPT_ENABLE 1 { s with eng.active := 1, ldr.inUse := adaptive }, by decide +kernel⟩,
   ⟨rq, V fun s => { s with eng.active := 1, ldr.inUse := adaptive, ldr.loaded := true }, adm (by decide +kernel),
     by decide +kernel⟩,
   ⟨W fun s => { s with ldr.revert := true }, by decide +kernel⟩⟩

theorem test_meets_MonitorsAndBusesAct :
    (∃ (k : Fin 4) (m : Fin 20) (frame : BitVec 128) (s : State), powerless s.m = false ∧ s.m.mode ≠ .boot ∧
      followsLoop s.m = false ∧ ¬ ((sget {} s.m.bnk.monitors (20 * k.val + m.val)).seen = true ∧ (sget {}
      s.m.bnk.monitors (20 * k.val + m.val)).frame / 2 ^ 48 % 256 = frame.toNat / 2 ^ 48 % 256)) ∧
    (∃ (s : State), s.m.mode = .boot) ∧
    (∃ (k : Fin 4) (m : Fin 20) (s : State), powerless s.m = false ∧ followsLoop s.m = false ∧ s.m.ptn.executing =
      false ∧ obj Obj.BNK_MON_TIMEOUT_MS s.m * 1000000 ≤ monitorAge k.val m.val s.m) ∧
    (∃ (k : Fin 4) (s : State), powerless s.m = false ∧ followsLoop s.m = false ∧ (∀ m < 20, 1000000000 ≤ monitorAge
      k.val m s.m)) ∧
    (∃ (s : State), powerless s.m = false) ∧
    (∃ (s : State), powerless s.m = false) :=
  ⟨⟨3, 19, 5, W id, by decide +kernel⟩,
   ⟨W fun s => { s with mode := .boot }, by decide +kernel⟩,
   ⟨3, 19, W id, by decide +kernel⟩,
   ⟨3, W id, by decide +kernel⟩,
   ⟨W id, by decide +kernel⟩,
   ⟨W fun s => { s with grd.canErr := 2 }, by decide +kernel⟩⟩

theorem test_meets_EstimatorActs :
    (∃ (u : Fin 5) (s : State), powerless s.m = false ∧ s.m.mode ≠ .boot ∧ (((unit u.val s.m).started = false ∧ sget
      0 s.m.bnk.winN u.val ≠ 0) ∨ ((unit u.val s.m).started = true ∧ (unit u.val s.m).lastAt + (unit u.val s.m).dt *
      1000 ≤ s.m.now))) ∧
    (∃ (u : Fin 5) (s : State), powerless s.m = false ∧ s.m.mode ≠ .boot ∧ (((unit u.val s.m).started = false ∧ sget
      0 s.m.bnk.winN u.val ≠ 0) ∨ ((unit u.val s.m).started = true ∧ (unit u.val s.m).lastAt + (unit u.val s.m).dt *
      1000 ≤ s.m.now))) ∧
    (∃ (u : Fin 5) (s : State), (unit u.val s.m).started = true ∧ s.m.now < (unit u.val s.m).lastAt + (unit u.val
      s.m).dt * 1000) ∧
    (∃ (u : Fin 5) (full : Bool) (s : State), powerless s.m = false ∧ taperDue u.val s.m = some full) ∧
    (∃ (u : Fin 5) (full : Bool) (s : State), powerless s.m = false ∧ taperDue u.val s.m = some full) ∧
    (∃ (u : Fin 5) (s : State), taperDue u.val s.m = none) ∧
    (∃ (deep : Bool) (s : State), restAge deep s.m < 86400) ∧
    (∃ (deep : Bool) (s : State), powerless s.m = false ∧ s.m.bnk.reqBits.testBit (b2n deep) = false ∧ 86400 ≤
      restAge deep s.m) ∧
    (∃ (deep : Bool) (s : State), powerless s.m = false ∧ s.m.bnk.reqBits.testBit (b2n deep) = true ∧ sget 0
      s.m.bnk.reqAt (b2n deep) + 86400 ≤ opSeconds s.m) ∧
    (∃ (u : Fin 5) (s : State), powerless s.m = false ∧ (unit u.val s.m).j ≠ 0 ∧ (unit u.val s.m).jAt + 600000000 ≤
      s.m.now) ∧
    (∃ (s : State), powerless s.m = false ∧ prechargeLate s.m = true) ∧
    (∃ (s : State), prechargeLate s.m = false) ∧
    (∃ (s : State), powerless s.m = false ∧ s.m.bnk.lifeAt + 60 ≤ opSeconds s.m) ∧
    (∃ (r : Req) (v : BitVec 8) (u : Fin 5) (s : State), Admitted r 0x2540 1 0 (toBytes 1 v.toNat) s ∧
      v.toNat.testBit u.val = true) :=
  ⟨⟨0, W fun s => { s with bnk.winN := [(0, 3)], bnk.winSum := [(0, 9000)] }, by decide +kernel⟩,
   ⟨4, W (withUnit 4 { started := true }), by decide +kernel⟩,
   ⟨4, W (withUnit 4 { started := true, lastAt := clock }), by decide +kernel⟩,
   ⟨0, true, W (withUnit 0 { fullAt := some 0 }), by decide +kernel⟩,
   ⟨4, false, W (withUnit 4 { emptyAt := some 0 }), by decide +kernel⟩,
   ⟨4, W id, by decide +kernel⟩,
   ⟨true, W id, by decide +kernel⟩,
   ⟨false, W fun s => { s with gl.opBase := 86400 }, by decide +kernel⟩,
   ⟨true, W fun s => { s with bnk.reqBits := 2, gl.opBase := 86400 }, by decide +kernel⟩,
   ⟨4, W (withUnit 4 { j := -3 }), by decide +kernel⟩,
   ⟨W fun s => { s with mode := .start, bnk.st := .precharge }, by decide +kernel⟩,
   ⟨W fun s => { s with mode := .start, bnk.st := .precharge, bnk.preAt := clock }, by decide +kernel⟩,
   ⟨W id, by decide +kernel⟩,
   ⟨rq, 16, 4, V fun s => { s with mode := .commission }, adm (by decide +kernel), by decide +kernel⟩⟩

theorem test_meets_RectifiersAct :
    (∃ (f : Fin 2) (s : State), powerless s.m = false ∧ frameDue f.val s.m = true ∧ s.m.mode ≠ .boot) ∧
    (∃ (f : Fin 2) (s : State), frameDue f.val s.m = false) ∧
    (∃ (s : State), powerless s.m = false ∧ s.m.mode ≠ .boot ∧ followsLoop s.m = false) ∧
    (∃ (r : Fin 24) (s : State), powerless s.m = false ∧ followsLoop s.m = false ∧ s.m.ptn.executing = false ∧ max
      (rect r.val s.m).lastAt s.m.gl.upAt + 30000000 < s.m.now ∧ fitted r.val s.m = true) ∧
    (∃ (r : Fin 24) (s : State), powerless s.m = false ∧ (rect r.val s.m).echoed = false ∧ (rect r.val s.m).modeAt +
      100000000 ≤ s.m.now ∧ fitted r.val s.m = true) ∧
    (∃ (r : Fin 24) (s : State), powerless s.m = false ∧ (rect r.val s.m).echoed = false ∧ (rect r.val s.m).modeAt +
      100000000 ≤ s.m.now ∧ fitted r.val s.m = true ∧ echoOf r.val s.m = (rect r.val s.m).mode) ∧
    (∃ (s : State), powerless s.m = false) ∧
    (∃ (s : State), powerless s.m = false) ∧
    (∃ (q : Req) (v : BitVec 32) (r : Fin 24) (s : State), Admitted q 0x2622 2 0 (toBytes 4 v.toNat) s ∧
      v.toNat.testBit r.val = true ∧ fitted r.val s.m = true ∧ (rect r.val s.m).healthy = false) ∧
    (∃ (r : Fin 24) (a b : Nat) (s : State), powerless s.m = false ∧ (rect r.val s.m).readmit = some a ∧ (rect r.val
      s.m).goodAt = some b ∧ max a b + 1000000000 ≤ s.m.now ∧ s.m.now ≤ (rect r.val s.m).lastAt + 30000000 ∧ echoOf
      r.val s.m = (rect r.val s.m).mode ∧ (rect r.val s.m).alarm = false) :=
  ⟨⟨1, W id, by decide +kernel⟩,
   ⟨1, W fun s => { s with grd.feeds := ({}, { lastCmd := clock }) }, by decide +kernel⟩,
   ⟨W id, by decide +kernel⟩,
   ⟨23, W allRects, by decide +kernel⟩,
   ⟨0, W (withRect 0 { echoed := false, mode := 2, healthy := true }), by decide +kernel⟩,
   ⟨23, W (withRect 23 { echoed := false }), by decide +kernel⟩,
   ⟨W (withRect 23 { healthy := true }), by decide +kernel⟩,
   ⟨W (withRect 23 { healthy := true, alarm := true }), by decide +kernel⟩,
   ⟨rq, 8388608, 23, V allRects, adm (by decide +kernel), by decide +kernel⟩,
   ⟨23, 5, 6, W (withRect 23 { readmit := some 5, goodAt := some 6, lastAt := clock }), by decide +kernel⟩⟩

theorem test_meets_FeedsAct :
    (∃ (r : Req) (v : BitVec 32) (s : State), Admitted r 0x2610 0 0 (toBytes 4 v.toNat) s) ∧
    (∃ (f : Fin 2) (a : Nat) (s : State), powerless s.m = false ∧ (feed f.val s.m).aboveAt = some a ∧ (feed f.val
      s.m).present = false ∧ a + obj Obj.FEED_RETURN_MS s.m * 1000000 ≤ s.m.now ∧ ((feed f.val s.m).lost = true →
      (feed f.val s.m).lostAt + obj Obj.FEED_RETURN_MS s.m * 1000000 ≤ s.m.now)) ∧
    (∃ (f : Fin 2) (s : State), powerless s.m = false ∧ (feed f.val s.m).lost = false ∧ monitored f.val s.m = true ∧
      ((∃ b, (feed f.val s.m).belowAt = some b ∧ b + obj Obj.FEED_LOSS_US s.m * 1000 ≤ s.m.now) ∨ alarmLoss f.val s.m
      = true)) ∧
    (∃ (f : Fin 2) (s : State), powerless s.m = false ∧ (feed f.val s.m).lost = false ∧ monitored f.val s.m = true ∧
      ((∃ b, (feed f.val s.m).belowAt = some b ∧ b + obj Obj.FEED_LOSS_US s.m * 1000 ≤ s.m.now) ∨ alarmLoss f.val s.m
      = true) ∧ alarmLoss f.val s.m = true) ∧
    (∃ (r : Req) (v : BitVec 8) (s : State), Admitted r 0x2601 3 0 (toBytes 1 v.toNat) s) ∧
    (∃ (f g : Nat) (s : State), powerless s.m = false ∧ s.m.grd.st = .transfer ∧ s.m.grd.tx = none ∧ s.m.grd.incoming
      = some f ∧ s.m.grd.inService = some g ∧ s.m.grd.xferAt + 100000000 ≤ s.m.now) ∧
    (∃ (s : State), s.m.now < s.m.grd.xferAt + 100000000) ∧
    (∃ (a f g : Nat) (s : State), powerless s.m = false ∧ s.m.grd.st = .transfer ∧ s.m.grd.tx = some a ∧
      s.m.grd.incoming = some f ∧ s.m.grd.inService = some g ∧ a + obj Obj.FEED_XFER_MS s.m * 1000000 ≤ s.m.now) ∧
    (∃ (a : Nat) (s : State), s.m.grd.tx = some a ∧ s.m.now < a + obj Obj.FEED_XFER_MS s.m * 1000000) :=
  ⟨⟨rq, 5000, V id, adm (by decide +kernel)⟩,
   ⟨1, 0, W fun s => { s with grd.feeds := ({}, { aboveAt := some 0 }) }, by decide +kernel⟩,
   ⟨1, W fun s => allRects
     { s with grd.feeds := ({}, { belowAt := some 0, present := true }), grd.inService := some 1 },
     by decide +kernel⟩,
   ⟨0, W fun s => allRects
     { s with grd.feeds := ({ present := true }, {}), grd.inService := some 0, grd.rects := [(0, { alarm := true, alarmAt := clock }), (1, { alarm := true, alarmAt := clock }), (2, { alarm := true, alarmAt := clock })] },
     by decide +kernel⟩,
   ⟨rq, 2, V fun s => allRects
     { s with grd.feeds := ({}, { present := true }), grd.inService := some 0, grd.rects := (List.range 24).map fun r => (r, { healthy := true }) },
     adm (by decide +kernel)⟩,
   ⟨1, 0, W fun s => { s with grd.st := .transfer, grd.incoming := some 1, grd.inService := some 0 },
     by decide +kernel⟩,
   ⟨W fun s => { s with grd.st := .transfer, grd.xferAt := clock }, by decide +kernel⟩,
   ⟨0, 1, 0, W fun s =>
     { s with grd.st := .transfer, grd.tx := some 0, grd.incoming := some 1, grd.inService := some 0 },
     by decide +kernel⟩,
   ⟨clock, W fun s =>
     { s with grd.st := .transfer, grd.tx := some clock, grd.incoming := some 1, grd.inService := some 0 },
     by decide +kernel⟩⟩

theorem test_meets_FeederLinksAndReadsAct :
    (∃ (s : State), powerless s.m = false ∧ s.m.mode ≠ .boot ∧ s.m.fdr.downAt ≤ s.m.now) ∧
    (∃ (s : State), s.m.now < s.m.fdr.downAt) ∧
    (∃ (w : BitVec 64) (s : State), powerless s.m = false ∧ s.m.mode ≠ .boot ∧ followsLoop s.m = false ∧ ¬ (w.toNat /
      2 ^ 60 = 1 ∧ w.toNat % 65536 = crc16 ((toBytes 8 w.toNat).take 6))) ∧
    (∃ (w : BitVec 64) (s : State), powerless s.m = false ∧ s.m.mode ≠ .boot ∧ followsLoop s.m = false ∧ ¬ (w.toNat /
      2 ^ 60 = 1 ∧ w.toNat % 65536 = crc16 ((toBytes 8 w.toNat).take 6))) ∧
    (∃ (w : BitVec 64) (s : State), powerless s.m = false ∧ s.m.mode ≠ .boot ∧ followsLoop s.m = false ∧ w.toNat / 2
      ^ 60 = 1 ∧ w.toNat % 65536 = crc16 ((toBytes 8 w.toNat).take 6)) ∧
    (∃ (w : BitVec 64) (s : State), powerless s.m = false ∧ s.m.mode ≠ .boot ∧ followsLoop s.m = false ∧ w.toNat / 2
      ^ 60 = 1 ∧ w.toNat % 65536 = crc16 ((toBytes 8 w.toNat).take 6)) ∧
    (∃ (k : Fin 64) (s : State), powerless s.m = false ∧ followsLoop s.m = false ∧ s.m.ptn.executing = false ∧ (3 ≤
      (feeder k.val s.m).badRun ∨ max (feeder k.val s.m).lastUp s.m.gl.upAt + 30000 ≤ s.m.now)) ∧
    (∃ (k : Fin 64) (w : BitVec 256) (s : State), powerless s.m = false ∧ followsLoop s.m = false ∧ (feeder k.val
      s.m).reading = true ∧ recordGood w.toNat = true) ∧
    (∃ (k : Fin 64) (s : State), powerless s.m = false ∧ followsLoop s.m = false ∧ (feeder k.val s.m).reading = true) ∧
    (∃ (k : Fin 64) (s : State), powerless s.m = false ∧ followsLoop s.m = false ∧ (feeder k.val s.m).reading = true) ∧
    (∃ (r : Req) (v : BitVec 64) (k : Fin 64) (s : State), Admitted r 0x2651 0 0 (toBytes 8 v.toNat) s ∧
      v.toNat.testBit k.val = true) :=
  ⟨⟨W id, by decide +kernel⟩,
   ⟨W fun s => { s with fdr.downAt := clock + 1 }, by decide +kernel⟩,
   ⟨5, W id, by decide +kernel⟩,
   ⟨5, W (withFeeder 0 { badRun := 3 }), by decide +kernel⟩,
   ⟨BitVec.ofNat 64 (framed 8 (2 ^ 60 + 2 ^ 59 + 300 * 2 ^ 32)), W id, by decide +kernel⟩,
   ⟨BitVec.ofNat 64 (framed 8 (2 ^ 60 + 2 ^ 59 + 300 * 2 ^ 32 + 63 * 2 ^ 16)), W (withFeeder 63
     { slotBad := true, seated := true }), by decide +kernel⟩,
   ⟨63, W id, by decide +kernel⟩,
   ⟨63, BitVec.ofNat 256 (framed 32 (2 ^ 252)), W (withFeeder 63 { reading := true }), by decide +kernel⟩,
   ⟨0, W (withFeeder 0 { reading := true }), by decide +kernel⟩,
   ⟨63, W (withFeeder 63 { reading := true, tries := 2 }), by decide +kernel⟩,
   ⟨rq, 9223372036854775808, 63, V id, adm (by decide +kernel), by decide +kernel⟩⟩

theorem test_meets_FeederSwitchingActs :
    (∃ (r : Req) (v : BitVec 64) (k : Fin 64) (s : State), Admitted r 0x2642 0 0 (toBytes 8 v.toNat) s ∧
      v.toNat.testBit k.val = true) ∧
    (∃ (k : Fin 64) (a : Nat) (s : State), powerless s.m = false ∧ (feeder k.val s.m).openAt = some a ∧ a ≤ s.m.now ∧
      linkGood k.val s.m = true) ∧
    (∃ (r : Req) (v : BitVec 64) (k : Fin 64) (s : State), Admitted r 0x2643 0 0 (toBytes 8 v.toNat) s ∧
      v.toNat.testBit k.val = true) ∧
    (∃ (k : Fin 64) (s : State), powerless s.m = false ∧ obj Obj.FDR_HOT_INSERT s.m = 1 ∧ cstPlanned (cst k.val s.m)
      = true ∧ (feeder k.val s.m).seated = true ∧ (feeder k.val s.m).st = .opened ∧ (feeder k.val s.m).used = false ∧
      (feeder k.val s.m).wantClose = false ∧ (feeder k.val s.m).cmd ≠ 1 ∧ (s.m.mode = .run ∨ s.m.mode = .drain) ∧
      (feeder k.val s.m).seatedAt + obj Obj.FDR_SETTLE_MS s.m * 1000000 ≤ s.m.now) ∧
    (∃ (k : Fin 64) (s : State), powerless s.m = false ∧ (feeder k.val s.m).wantClose = true ∧ (feeder k.val
      s.m).closeAt ≤ s.m.now ∧ (feeder k.val s.m).reading = false ∧ mayClose k.val s.m = true ∧ linkGood k.val s.m =
      true ∧ inrushRoom s.m = true ∧ (((s.m.mode = .run ∨ s.m.mode = .drain) ∧ s.m.fdr.seq ≠ .ordinary) ∨ (s.m.mode =
      .start ∧ s.m.fdr.seq = .privileged ∧ cstPriv (cst k.val s.m) = true) ∨ (s.m.mode = .start ∧ s.m.fdr.seq =
      .ordinary ∧ ∀ j < k.val, (feeder j s.m).wantClose = false))) ∧
    (∃ (k : Fin 64) (s : State), powerless s.m = false ∧ (feeder k.val s.m).wantClose = true ∧ (feeder k.val
      s.m).closeAt ≤ s.m.now ∧ (feeder k.val s.m).reading = false ∧ mayClose k.val s.m = true ∧ linkGood k.val s.m =
      true ∧ inrushRoom s.m = true ∧ (((s.m.mode = .run ∨ s.m.mode = .drain) ∧ s.m.fdr.seq ≠ .ordinary) ∨ (s.m.mode =
      .start ∧ s.m.fdr.seq = .privileged ∧ cstPriv (cst k.val s.m) = true) ∨ (s.m.mode = .start ∧ s.m.fdr.seq =
      .ordinary ∧ ∀ j < k.val, (feeder j s.m).wantClose = false))) ∧
    (∃ (k : Fin 64) (s : State), powerless s.m = false ∧ (feeder k.val s.m).wantClose = true ∧ (feeder k.val
      s.m).closeAt ≤ s.m.now ∧ (feeder k.val s.m).reading = false ∧ mayClose k.val s.m = true ∧ linkGood k.val s.m =
      true ∧ inrushRoom s.m = true ∧ (((s.m.mode = .run ∨ s.m.mode = .drain) ∧ s.m.fdr.seq ≠ .ordinary) ∨ (s.m.mode =
      .start ∧ s.m.fdr.seq = .privileged ∧ cstPriv (cst k.val s.m) = true) ∨ (s.m.mode = .start ∧ s.m.fdr.seq =
      .ordinary ∧ ∀ j < k.val, (feeder j s.m).wantClose = false))) ∧
    (∃ (k : Fin 64) (s : State), mayClose k.val s.m = false) ∧
    (∃ (k : Fin 64) (d : Nat) (s : State), powerless s.m = false ∧ (feeder k.val s.m).deadline = some d ∧ d ≤ s.m.now
      ∧ (feeder k.val s.m).st ≠ .closed) ∧
    (∃ (k : Fin 64) (d : Nat) (s : State), (feeder k.val s.m).deadline = some d ∧ s.m.now < d) :=
  ⟨⟨rq, 9223372036854775808, 63, V id, adm (by decide +kernel), by decide +kernel⟩,
   ⟨63, 0, W (withFeeder 63 { openAt := some 0 }), by decide +kernel⟩,
   ⟨rq, 1, 0, V id, adm (by decide +kernel), by decide +kernel⟩,
   ⟨63, W fun s => setObj Obj.FDR_HOT_INSERT 1 (withFeeder 63 { seated := true }
     { s with fdr.cst := [(63, 2 ^ 255)] }), by decide +kernel⟩,
   ⟨63, W fun s => withFeeder 63 { wantClose := true } { s with fdr.cst := [(63, 2 ^ 255 + 2 ^ 251)] },
     by decide +kernel⟩,
   ⟨63, W fun s => withFeeder 63 { wantClose := true }
     { s with mode := .start, fdr.seq := .privileged, fdr.cst := [(63, 2 ^ 255 + 2 ^ 254 + 2 ^ 251)] },
     by decide +kernel⟩,
   ⟨63, W fun s => withFeeder 63 { wantClose := true }
     { s with mode := .start, fdr.seq := .ordinary, fdr.cst := [(63, 2 ^ 255 + 2 ^ 251)] }, by decide +kernel⟩,
   ⟨63, W id, by decide +kernel⟩,
   ⟨63, 0, W (withFeeder 63 { deadline := some 0 }), by decide +kernel⟩,
   ⟨63, clock + 1, W (withFeeder 63 { deadline := some (clock + 1) }), by decide +kernel⟩⟩

theorem test_meets_StatesAndDiscoveryAct :
    (∃ (r : Req) (s : State), Admitted r 0x1011 0 0 (toBytes 1 1) s) ∧
    (∃ (r : Req) (s : State), Admitted r 0x1011 0 0 (toBytes 1 1) s) ∧
    (∃ (r : Req) (s : State), Admitted r 0x1011 0 0 (toBytes 1 2) s) ∧
    (∃ (r : Req) (s : State), Admitted r 0x1011 0 0 (toBytes 1 2) s) ∧
    (∃ (r : Req) (s : State), Admitted r 0x1011 0 0 (toBytes 1 3) s) ∧
    (∃ (r : Req) (s : State), Admitted r 0x1011 0 0 (toBytes 1 4) s) ∧
    (∃ (s : State), powerless s.m = false ∧ s.m.role = .none ∧ s.m.mode = .start ∧ s.m.ptn.ident = none ∧
      s.m.ptn.discAt + 200000000 ≤ s.m.now) ∧
    (∃ (m r : Nat) (s : State), powerless s.m = false ∧ s.m.role = .none ∧ s.m.mode = .start ∧ s.m.ptn.ident = some
      (m, r) ∧ (r = 1 ∨ r = 3)) ∧
    (∃ (r : Nat) (s : State), powerless s.m = false ∧ s.m.role = .none ∧ s.m.mode = .start ∧ s.m.ptn.ident = some (3,
      r) ∧ r ≠ 1 ∧ r ≠ 3) ∧
    (∃ (r : Nat) (s : State), powerless s.m = false ∧ s.m.role = .none ∧ s.m.mode = .start ∧ s.m.ptn.ident = some (3,
      r) ∧ r ≠ 1 ∧ r ≠ 3) ∧
    (∃ (s : State), s.m.ptn.ident = none ∧ s.m.now < s.m.ptn.discAt + 200000000) ∧
    (∃ (a : Nat) (s : State), s.m.ptn.holdAt = some a ∧ s.m.now < a + 300000000) ∧
    (∃ (a : Nat) (s : State), powerless s.m = false ∧ s.m.mode = .start ∧ s.m.ptn.holdAt = some a ∧ a + 300000000 ≤
      s.m.now) :=
  ⟨⟨rq, V fun s => setObj Obj.GRID_CAP_W 1000 { s with mode := .stop, role := .none, fdr.cst := [(63, 2 ^ 255)] },
     adm (by decide +kernel)⟩,
   ⟨rq, V fun s => setObj Obj.GRID_CAP_W 1000 { s with mode := .stop, role := .solo, fdr.cst := [(63, 2 ^ 255)] },
     adm (by decide +kernel)⟩,
   ⟨rq, V id, adm (by decide +kernel)⟩,
   ⟨rq, V fun s => { s with mode := .start }, adm (by decide +kernel)⟩,
   ⟨rq, V fun s => { s with mode := .stop }, adm (by decide +kernel)⟩,
   ⟨rq, V id, adm (by decide +kernel)⟩,
   ⟨W fun s => { s with mode := .start, role := .none }, by decide +kernel⟩,
   ⟨4, 1, W fun s => { s with mode := .start, role := .none, ptn.ident := some (4, 1) }, by decide +kernel⟩,
   ⟨0, W fun s => { s with mode := .start, role := .none, ptn.ident := some (3, 0) }, by decide +kernel⟩,
   ⟨0, W fun s => { s with mode := .start, role := .none, slotB := true, ptn.ident := some (3, 0) },
     by decide +kernel⟩,
   ⟨W fun s => { s with mode := .start, role := .none, ptn.discAt := clock }, by decide +kernel⟩,
   ⟨clock, W fun s => { s with mode := .start, ptn.holdAt := some clock }, by decide +kernel⟩,
   ⟨0, W fun s => { s with mode := .start, ptn.holdAt := some 0 }, by decide +kernel⟩⟩

theorem test_meets_SequencesAct :
    (∃ (f : Nat) (s : State), powerless s.m = false ∧ s.m.fdr.seq = .rectOn ∧ s.m.grd.inService = some f ∧ healthyOf
      f s.m ≠ [] ∧ (∀ r ∈ healthyOf f s.m, echoOf r s.m = 2) ∧ (obj Obj.BNK_FAST_MIN_MV s.m : Int) ≤ bankMv false
      s.m) ∧
    (∃ (a : Nat) (s : State), powerless s.m = false ∧ s.m.fdr.seq = .busRamp ∧ s.m.grd.rampAt = some a ∧ a + obj
      Obj.RECT_BUS_RAMP_MS s.m * 1000000 ≤ s.m.now) ∧
    (∃ (k : Fin 64) (s : State), powerless s.m = false ∧ s.m.fdr.seq = .privileged ∧ cstPriv (cst k.val s.m) = true ∧
      mayClose k.val s.m = true ∧ (feeder k.val s.m).cmd = 0 ∧ (feeder k.val s.m).wantClose = false ∧ (feeder k.val
      s.m).used = false ∧ s.m.fdr.seqAt + cstOnDelay (cst k.val s.m) * 1000000 ≤ s.m.now) ∧
    (∃ (s : State), powerless s.m = false ∧ s.m.mode = .start ∧ s.m.fdr.seq = .ordinary ∧ allClosed s.m = true) ∧
    (∃ (k : Fin 64) (s : State), powerless s.m = false ∧ s.m.fdr.seq = .stopOrdinary ∧ ((liveTrays false s.m).filter
      fun j => decide ((feeder j s.m).cmd = 1) && linkGood j s.m).getLast? = some k.val ∧ s.m.fdr.stopAt + 1000000 ≤
      s.m.now) ∧
    (∃ (k : Fin 64) (s : State), powerless s.m = false ∧ s.m.fdr.seq = .stopPrivileged ∧ cstPriv (cst k.val s.m) =
      true ∧ (feeder k.val s.m).cmd = 1 ∧ s.m.fdr.seqAt + cstOffDelay (cst k.val s.m) * 1000000 ≤ s.m.now) ∧
    (∃ (s : State), powerless s.m = false ∧ s.m.fdr.seq = .stopPrivileged ∧ allOpen true s.m = true ∧ allOpen false
      s.m = true) :=
  ⟨⟨0, W fun s =>
     { withRect 0 { healthy := true, frame := 2 * 2 ^ 62 } s with fdr.seq := .rectOn, grd.inService := some 0, cnv.chan := (List.range 64).map fun c => (c, 300000) },
     by decide +kernel⟩,
   ⟨0, W fun s => { s with fdr.seq := .busRamp, grd.rampAt := some 0 }, by decide +kernel⟩,
   ⟨63, W fun s => { s with fdr.seq := .privileged, fdr.cst := [(63, 2 ^ 255 + 2 ^ 254 + 2 ^ 251)] },
     by decide +kernel⟩,
   ⟨W fun s => { s with mode := .start, fdr.seq := .ordinary }, by decide +kernel⟩,
   ⟨63, W fun s =>
     { s with fdr.seq := .stopOrdinary, fdr.feeders := [(63, { cmd := 1 })], fdr.cst := [(63, 2 ^ 255)] },
     by decide +kernel⟩,
   ⟨63, W fun s =>
     { s with fdr.seq := .stopPrivileged, fdr.feeders := [(63, { cmd := 1 })], fdr.cst := [(63, 2 ^ 255 + 2 ^ 254)] },
     by decide +kernel⟩,
   ⟨W fun s => { s with fdr.seq := .stopPrivileged }, by decide +kernel⟩⟩

theorem test_meets_ControlCellsAct :
    (∃ (c : BitVec 1024) (s : State), NextCell 1 c s) ∧
    (∃ (c : BitVec 1024) (s : State), NextCell 2 c s ∧ s.m.ptn.switchAt = none) ∧
    (∃ (c : BitVec 1024) (s : State), NextCell 0xD c s ∧ s.m.role = .active) ∧
    (∃ (c : BitVec 1024) (s : State), NextCell 0xE c s ∧ s.m.role = .standby ∧ s.m.ptn.switchAt = none) ∧
    (∃ (c : BitVec 1024) (s : State), NextCell 0xF c s) ∧
    (∃ (c : BitVec 1024) (s : State), NextCell 0xF c s) :=
  ⟨⟨cellOf 1 7 8 (pay 1 1 4 + pay 2 1 1 + pay 3 2 300), W fun s =>
     { s with role := .none, mode := .start, ptn.rxSeq := some 6 }, nextCell (by decide +kernel)⟩,
   ⟨cellOf 2 0 14 (pay 0 1 2 + pay 1 1 4 + pay 6 8 9), W id, nextCell (by decide +kernel), by decide +kernel⟩,
   ⟨cellOf 0xD 0 0 0, W fun s => { s with role := .active, ptn.rxSeq := some (2 ^ 32 - 1) }, nextCell
     (by decide +kernel), by decide +kernel⟩,
   ⟨cellOf 0xE 3 4 (pay 0 4 99), W fun s => { s with role := .standby }, nextCell (by decide +kernel),
     by decide +kernel⟩,
   ⟨cellOf 0xF 3 2 (pay 1 1 3), W fun s => { s with role := .standby }, nextCell (by decide +kernel)⟩,
   ⟨cellOf 0xF 3 2 (pay 1 1 3), W fun s => { s with role := .active }, nextCell (by decide +kernel)⟩⟩

theorem test_meets_ForwardedCellsAct :
    (∃ (c : BitVec 1024) (s : State), NextCell 3 c s ∧ follows s.m = true) ∧
    (∃ (c : BitVec 1024) (s : State), NextCell 4 c s ∧ follows s.m = true) ∧
    (∃ (c : BitVec 1024) (s : State), NextCell 5 c s ∧ follows s.m = true ∧ nfld c.toNat 959 952 = 1 ∧ byteNum
      (cellPayload c) 0 2 < 25) ∧
    (∃ (c : BitVec 1024) (s : State), NextCell 6 c s ∧ follows s.m = true ∧ nfld c.toNat 959 952 = 1) ∧
    (∃ (c : BitVec 1024) (s : State), NextCell 7 c s ∧ follows s.m = true) ∧
    (∃ (c : BitVec 1024) (cyc since : Nat) (f : Bool) (s : State), NextCell 0xC c s ∧ follows s.m = true ∧
      s.m.ptn.epochs = [] ∧ s.m.ptn.items = [.wait cyc (tkRid (beNat ((cellPayload c).take 32))) (tkSeq (beNat
      ((cellPayload c).take 32)) % 256) since f]) :=
  ⟨⟨cellOf 3 3 2 (pay 0 4 99), W fun s => { s with role := .standby }, nextCell (by decide +kernel),
     by decide +kernel⟩,
   ⟨cellOf 4 3 2 (pay 76 8 99 + pay 0 2 5 + pay 38 2 6), W fun s => { s with role := .standby }, nextCell
     (by decide +kernel), by decide +kernel⟩,
   ⟨cellOf 5 3 1 (pay 0 2 24 + pay 2 16 7), W fun s => { s with role := .standby }, nextCell (by decide +kernel),
     by decide +kernel⟩,
   ⟨cellOf 6 3 1 (pay 0 4 24 + pay 4 8 7), W fun s => { s with role := .standby }, nextCell (by decide +kernel),
     by decide +kernel⟩,
   ⟨cellOf 7 3 1 (pay 0 8 24), W fun s => { s with role := .standby, ptn.items := [.can 1 2 3] }, nextCell
     (by decide +kernel), by decide +kernel⟩,
   ⟨cellOf 0xC 3 40 (pay 0 32 req8), 5, 6, true, W fun s =>
     { s with role := .standby, ptn.items := [.wait 5 8 5 6 true] }, nextCell (by decide +kernel), by decide +kernel⟩⟩

theorem test_meets_ServiceCellsAct :
    (∃ (c : BitVec 1024) (s : State), NextCell 8 c s ∧ byteNum (cellPayload c) 0 4 / 2 ^ 24 ≠ bulkResync ∧ 0 <
      byteNum (cellPayload c) 4 8 ∧ byteNum (cellPayload c) 4 8 = (sget [] s.m.ptn.bulkIn (byteNum (cellPayload c) 0
      4)).length ∧ (sget [] s.m.ptn.bulkIn (byteNum (cellPayload c) 0 4) ++ ((cellPayload c).drop 12).take (min 96
      (nfld c.toNat 959 952))).length ≠ 8 + byteNum (sget [] s.m.ptn.bulkIn (byteNum (cellPayload c) 0 4) ++
      ((cellPayload c).drop 12).take (min 96 (nfld c.toNat 959 952))) 0 8) ∧
    (∃ (c : BitVec 1024) (s : State), NextCell 9 c s ∧ s.m.ptn.outBulk.contains (byteNum (cellPayload c) 0 4) = true
      ∧ byteNum (cellPayload c) 0 4 / 2 ^ 24 ≠ bulkResync) ∧
    (∃ (c : BitVec 1024) (q : Nat × Nat × List Byte) (s : State), NextCell 0xA c s ∧ nfld c.toNat 959 952 = 1 ∧
      s.m.ptn.sent.find? (fun q => decide (q.1 = byteNum (cellPayload c) 0 4)) = some q) ∧
    (∃ (c : BitVec 1024) (l : List Byte) (s : State), NextCell 0xB c s ∧ s.m.ptn.seen.find? (fun l => decide (tkRid
      (beNat l) = byteNum (cellPayload c) 0 2 ∧ tkSeq (beNat l) % 256 = byteNum (cellPayload c) 2 1)) = some l) :=
  ⟨⟨cellOf 8 3 4 (pay 0 4 9 + pay 4 8 12 + pay 12 4 77), W fun s =>
     { s with ptn.bulkIn := [(9, List.replicate 12 1)] }, nextCell (by decide +kernel), by decide +kernel⟩,
   ⟨cellOf 9 3 4 (pay 0 4 9), W fun s => { s with ptn.outBulk := [8, 9] }, nextCell (by decide +kernel),
     by decide +kernel⟩,
   ⟨cellOf 0xA 3 1 (pay 0 4 5), (5, 2, [1, 2]), W fun s => { s with ptn.sent := [(4, 1, []), (5, 2, [1, 2])] },
     nextCell (by decide +kernel), by decide +kernel⟩,
   ⟨cellOf 0xB 3 1 (pay 0 2 8 + pay 2 1 5), toBytes 32 req8, W fun s => { s with ptn.seen := [toBytes 32 req8] },
     nextCell (by decide +kernel), by decide +kernel⟩⟩

theorem test_meets_HeartbeatsAndRequestsAct :
    (∃ (s : State), powerless s.m = false ∧ s.m.role = .none) ∧
    (∃ (w : BitVec 16) (s : State), powerless s.m = false ∧ s.m.mode ≠ .boot ∧ (s.m.role = .resync ∨ s.m.role = .none
      ∨ partnerHalf s.m = true) ∧ 800 ≤ w.toNat ∧ w.toNat ≤ 1200) ∧
    (∃ (w : BitVec 16) (s : State), powerless s.m = false ∧ s.m.mode ≠ .boot ∧ (s.m.role = .resync ∨ s.m.role = .none
      ∨ partnerHalf s.m = true) ∧ 800 ≤ w.toNat ∧ w.toNat ≤ 1200 ∧ partnerHalf s.m = true) ∧
    (∃ (w : BitVec 16) (s : State), powerless s.m = false ∧ s.m.mode ≠ .boot ∧ partnerHalf s.m = true ∧ 2600 ≤
      w.toNat ∧ w.toNat ≤ 3400 ∧ s.m.role = .active) ∧
    (∃ (wire : Bool) (s : State), (if wire then s.m.ptn.missW else s.m.ptn.missL) < obj Obj.PTN_HB_FRAMES s.m) ∧
    (∃ (wire : Bool) (s : State), powerless s.m = false ∧ obj Obj.PTN_HB_FRAMES s.m ≤ (if wire then s.m.ptn.missW
      else s.m.ptn.missL)) ∧
    (∃ (wire : Bool) (s : State), powerless s.m = false ∧ obj Obj.PTN_HB_FRAMES s.m ≤ (if wire then s.m.ptn.missW
      else s.m.ptn.missL)) ∧
    (∃ (r : Req) (s : State), Admitted r 0x2709 0 0 (toBytes 1 1) s) ∧
    (∃ (r : Req) (s : State), Admitted r 0x2707 0 0 (toBytes 1 1) s) :=
  ⟨⟨W fun s => { s with role := .none }, by decide +kernel⟩,
   ⟨800, W fun s => { s with role := .none }, by decide +kernel⟩,
   ⟨1200, W fun s => { s with role := .active, cnv.frameAt := clock * 8 - 50000 }, by decide +kernel⟩,
   ⟨3400, W fun s => { s with role := .active, cnv.frameAt := clock * 8 - 50000 }, by decide +kernel⟩,
   ⟨true, W id, by decide +kernel⟩,
   ⟨true, W fun s => { s with ptn.missW := 1000 }, by decide +kernel⟩,
   ⟨false, W fun s => { s with ptn.missL := 1000 }, by decide +kernel⟩,
   ⟨rq, V fun s => setObj Obj.PTN_PARTNER_ROLE 2 { s with role := .active }, adm (by decide +kernel)⟩,
   ⟨rq, V fun s => { s with role := .resync, mg.remote := 1 }, adm (by decide +kernel)⟩⟩

theorem test_meets_RoleChangesAct :
    (∃ (s : State), powerless s.m = false ∧ s.m.role = .standby ∧ partnerSilent s.m = true) ∧
    (∃ (s : State), powerless s.m = false ∧ s.m.role = .active ∧ partnerSilent s.m = true ∧ s.m.ptn.claimAt = none) ∧
    (∃ (a : Nat) (s : State), powerless s.m = false ∧ s.m.ptn.claimAt = some a ∧ a + 40000 ≤ s.m.now) ∧
    (∃ (a : Nat) (s : State), s.m.ptn.claimAt = some a ∧ s.m.now < a + 40000) ∧
    (∃ (e : Epoch) (rest : List Epoch) (s : State), powerless s.m = false ∧ s.m.role = .standby ∧ s.m.ptn.epochs = e
      :: rest ∧ epochReady e = true) ∧
    (∃ (s : State), powerless s.m = false ∧ s.m.role = .standby ∧ s.m.ptn.gaps = [] ∧ s.m.ptn.unheard = 0 ∧
      s.m.cnv.frameAt + frameLen s.m ≤ s.m.now * 8 + 24000 ∧ s.m.ptn.lostCell = true) ∧
    (∃ (s : State), powerless s.m = false) ∧
    (∃ (s : State), powerless s.m = false ∧ s.m.role ≠ .none ∧ s.m.mode ≠ .boot ∧ s.m.ptn.lastCell ≠ 0 ∧
      s.m.ptn.lastCell * 8 + 3 * frameLen s.m ≤ s.m.now * 8) ∧
    (∃ (s : State), powerless s.m = false ∧ s.m.mode ≠ .boot ∧ s.m.ptn.lastCell ≠ 0 ∧ s.m.ptn.lastCell + 100000000 ≤
      s.m.now ∧ obj Obj.PTN_LANE s.m ≠ 9) ∧
    (∃ (s : State), powerless s.m = false ∧ s.m.mode ≠ .boot ∧ s.m.ptn.lastCell ≠ 0 ∧ s.m.ptn.lastCell + 100000000 ≤
      s.m.now ∧ obj Obj.PTN_LANE s.m ≠ 9) ∧
    (∃ (s : State), powerless s.m = false ∧ s.m.role = .resync ∧ obj Obj.PTN_RESYNC_STAGE s.m = 4 ∧
      s.m.ptn.epochs.length ≤ 1) ∧
    (∃ (s : State), powerless s.m = false ∧ s.m.role = .resync ∧ obj Obj.PTN_RESYNC_STAGE s.m = 4 ∧
      s.m.ptn.epochs.length ≤ 1) :=
  ⟨⟨W fun s => { s with role := .standby, ptn.missW := 1000, ptn.missL := 1000 }, by decide +kernel⟩,
   ⟨W fun s => { s with role := .active, ptn.missW := 1000, ptn.missL := 1000 }, by decide +kernel⟩,
   ⟨0, W fun s => { s with role := .active, ptn.claimAt := some 0 }, by decide +kernel⟩,
   ⟨clock, W fun s => { s with role := .active, ptn.claimAt := some clock }, by decide +kernel⟩,
   ⟨{ start := 5, items := [], words := 0, close := 0, at_ := clock }, [], W fun s =>
     { s with role := .standby, ptn.epochs := [{ start := 5, items := [], words := 0, close := 0, at_ := clock }] },
     by decide +kernel⟩,
   ⟨W fun s => { s with role := .standby, ptn.lostCell := true }, by decide +kernel⟩,
   ⟨W fun s => { s with ptn.items := [.wait 1 2 3 0 false] }, by decide +kernel⟩,
   ⟨W fun s => { s with role := .standby, ptn.lastCell := 1 }, by decide +kernel⟩,
   ⟨W fun s => { s with ptn.lastCell := 1 }, by decide +kernel⟩,
   ⟨W fun s => { s with role := .resync, ptn.lastCell := 1 }, by decide +kernel⟩,
   ⟨W fun s => setObj Obj.PTN_RESYNC_STAGE 4 { s with role := .resync, ptn.pMode := 4 }, by decide +kernel⟩,
   ⟨W fun s => setObj Obj.PTN_RESYNC_STAGE 4
     { s with mode := .start, role := .resync, ptn.pMode := 3, fdr.seq := .discovery }, by decide +kernel⟩⟩

theorem test_meets_FaultEventsLatch :
    (∃ (n : Fin 64) (s : State), powerless s.m = false ∧ n.val < 54 ∧ levelBits.contains n.val = false ∧ blanked
      n.val s.m = false) ∧
    (∃ (n : Fin 64) (s : State), powerless s.m = false ∧ n.val < 54 ∧ levelBits.contains n.val = false ∧ blanked
      n.val s.m = false) ∧
    (∃ (n : Fin 64) (s : State), powerless s.m = false ∧ levelBits.contains n.val = true ∧ s.m.ptn.executing = false) ∧
    (∃ (n : Fin 64) (s : State), powerless s.m = false ∧ levelBits.contains n.val = true ∧ s.m.ptn.executing = false) ∧
    (∃ (n : Fin 64), 54 ≤ n.val) ∧
    (∃ (s : State), powerless s.m = false) ∧
    (∃ (s : State), powerless s.m = false) ∧
    (∃ (p : Fin 14) (s : State), powerless s.m = false ∧ s.m.life.pairsWork.testBit p.val = true ∧ blanked 36 s.m =
      false) ∧
    (∃ (p : Fin 14) (s : State), s.m.life.pairsWork.testBit p.val = false) ∧
    (∃ (s : State), powerless s.m = false) ∧
    (∃ (s : State), powerless s.m = false) ∧
    (∃ (s : State), powerless s.m = false) ∧
    (∃ (s : State), powerless s.m = false) :=
  ⟨⟨6, W id, by decide +kernel⟩,
   ⟨53, W id, by decide +kernel⟩,
   ⟨2, W id, by decide +kernel⟩,
   ⟨13, W fun s => { s with fc.lines := 2 ^ 13 }, by decide +kernel⟩,
   ⟨63, by decide +kernel⟩,
   ⟨W id, by decide +kernel⟩,
   ⟨W fun s => { s with fc.lines := 2 ^ 37 }, by decide +kernel⟩,
   ⟨0, W id, by decide +kernel⟩,
   ⟨13, W id, by decide +kernel⟩,
   ⟨W fun s => { s with life.lanesDown := 128, fc.lines := 2 ^ 28 }, by decide +kernel⟩,
   ⟨W fun s => { s with life.lanesDown := 129, fc.lines := 2 ^ 28 }, by decide +kernel⟩,
   ⟨W fun s => { s with life.lane9Lock := false }, by decide +kernel⟩,
   ⟨W fun s => { s with det.tripHi := 9 }, by decide +kernel⟩⟩

theorem test_meets_CollectorLogAndCountersAct :
    (∃ (r : Req) (v : BitVec 64) (s : State), Admitted r 0x2800 0 0 (toBytes 8 v.toNat) s) ∧
    (∃ (r : Req) (v : BitVec 64) (s : State), Admitted r 0x2802 0 0 (toBytes 8 v.toNat) s) ∧
    (∃ (s : State), powerless s.m = false) ∧
    (∃ (r : Req) (s : State), Admitted r 0x2830 4 0 (toBytes 1 1) s ∧ s.m.fc.inj = none) ∧
    (∃ (w : InjWin) (s : State), powerless s.m = false ∧ s.m.fc.inj = some w ∧ w.ends ≤ s.m.now) ∧
    (∃ (a : Nat) (s : State), powerless s.m = false ∧ s.m.fc.pulseEnd = some a ∧ a ≤ s.m.now) ∧
    (∃ (w : InjWin) (s : State), s.m.fc.inj = some w ∧ s.m.now < w.ends) ∧
    (∃ (a : Nat) (s : State), s.m.fc.pulseEnd = some a ∧ s.m.now < a) ∧
    (∃ (s : State), s.m.gl.queue = []) ∧
    (∃ (q : GRec) (rest : List GRec) (s : State), powerless s.m = false ∧ s.m.gl.queue = q :: rest ∧ s.m.gl.lost = 0
      ∧ s.m.gl.primBad = false ∧ s.m.gl.mirrBad = false) ∧
    (∃ (q : GRec) (rest : List GRec) (s : State), powerless s.m = false ∧ s.m.gl.queue = q :: rest ∧ s.m.gl.primBad =
      false ∧ s.m.life.blocksA = 0) ∧
    (∃ (r : Req) (s : State), Admitted r 0x2851 0 0 (toBytes 1 1) s ∧ s.m.mg.pend = []) ∧
    (∃ (r : Req) (v : BitVec 64) (c : Fin 64) (s : State), Admitted r 0x2862 0 0 (toBytes 8 v.toNat) s ∧ s.m.mg.pend
      = [] ∧ v.toNat.testBit c.val = true) :=
  ⟨⟨rq, 9223372036854775809, V fun s => { s with fc.lines := 1 }, adm (by decide +kernel)⟩,
   ⟨rq, 5, V fun s => { s with role := .active }, adm (by decide +kernel)⟩,
   ⟨W fun s => { s with fc.wins := [⟨63, 0, clock, 5, 0⟩, ⟨62, 0, clock, 5, 0⟩] }, by decide +kernel⟩,
   ⟨rq, V id, adm (by decide +kernel), by decide +kernel⟩,
   ⟨⟨clock, 1, true, 0, false⟩, W fun s => setObj Obj.INJ_OPEN 1
     { s with fc.inj := some ⟨clock, 1, true, 0, false⟩ }, by decide +kernel⟩,
   ⟨clock, W fun s => { s with fc.pulseEnd := some clock }, by decide +kernel⟩,
   ⟨⟨clock + 1, 1, true, 0, false⟩, W fun s => { s with fc.inj := some ⟨clock + 1, 1, true, 0, false⟩ },
     by decide +kernel⟩,
   ⟨clock + 1, W fun s => { s with fc.pulseEnd := some (clock + 1) }, by decide +kernel⟩,
   ⟨W id, by decide +kernel⟩,
   ⟨⟨1, 2, 3, 4, 5, 6, 7, 131072, 9, 10, false, false⟩, [], W fun s =>
     { s with gl.queue := [⟨1, 2, 3, 4, 5, 6, 7, 131072, 9, 10, false, false⟩] }, by decide +kernel⟩,
   ⟨⟨1, 2, 3, 4, 5, 6, 7, 131071, 9, 10, false, false⟩, [], W fun s =>
     { s with gl.queue := [⟨1, 2, 3, 4, 5, 6, 7, 131071, 9, 10, false, false⟩], life.blocksA := 0 },
     by decide +kernel⟩,
   ⟨rq, V fun s => { s with mode := .commission, gl.prim := [(0, 5)] }, adm (by decide +kernel), by decide +kernel⟩,
   ⟨rq, 9223372036854775808, 63, V fun s => { s with ctr.val := [(63, 5)] }, adm (by decide +kernel),
     by decide +kernel⟩⟩

theorem test_meets_SessionsAct :
    (∃ (p : Fin 3) (ident key addr : List Byte) (m slot k : Nat) (s : State), powerless s.m = false ∧ s.m.mode ≠
      .boot ∧ p.val ≠ 2 ∧ s.m.mg.linkUp.testBit p.val = true ∧ answersOn p.val (addr.drop 16) s.m = true ∧ identityOf
      ident = some (m, slot) ∧ keyProves m slot key s.m = true ∧ handshakeOf p.val addr s.m = none ∧ freeSession s.m
      = some k ∧ sessionsOf m s.m < 4) ∧
    (∃ (p : Fin 3) (ident key addr : List Byte) (m slot k : Nat) (s : State), powerless s.m = false ∧ s.m.mode ≠
      .boot ∧ p.val ≠ 2 ∧ s.m.mg.linkUp.testBit p.val = true ∧ answersOn p.val (addr.drop 16) s.m = true ∧ identityOf
      ident = some (m, slot) ∧ keyProves m slot key s.m = false ∧ handshakeOf p.val addr s.m = none ∧ freeSession s.m
      = some k ∧ sessionsOf m s.m < 4) ∧
    (∃ (p : Fin 3) (ident addr : List Byte) (groups suites : List (BitVec 16)) (dhe : Bool) (m slot : Nat) (s :
      State), powerless s.m = false ∧ s.m.mode ≠ .boot ∧ p.val ≠ 2 ∧ s.m.mg.linkUp.testBit p.val = true ∧ answersOn
      p.val (addr.drop 16) s.m = true ∧ identityOf ident = some (m, slot) ∧ helloFits groups suites dhe = false) ∧
    (∃ (p : Fin 3) (ident addr : List Byte) (groups suites : List (BitVec 16)) (dhe : Bool) (m slot k : Nat) (s :
      State), powerless s.m = false ∧ s.m.mode ≠ .boot ∧ p.val ≠ 2 ∧ s.m.mg.linkUp.testBit p.val = true ∧ answersOn
      p.val (addr.drop 16) s.m = true ∧ identityOf ident = some (m, slot) ∧ helloFits groups suites dhe = true ∧
      handshakeOf p.val addr s.m = none ∧ freeSession s.m = some k ∧ sessionsOf m s.m < 4) ∧
    (∃ (addr : List Byte) (k : Nat) (s : State), powerless s.m = false ∧ s.m.mode ≠ .boot ∧ (s.m.life.guest = 1 ∨
      s.m.life.guest = 2 ∨ s.m.life.guest = 3) ∧ obj Obj.MGMT_LOOPBACK_AS s.m ≠ 0 ∧ handshakeOf 2 addr s.m = none ∧
      freeSession s.m = some k ∧ sessionsOf (obj Obj.MGMT_LOOPBACK_AS s.m) s.m < 4) ∧
    (∃ (k : Fin 8) (s : State), s.m.now < (session k.val s.m).openedAt + 1000000000) ∧
    (∃ (k : Fin 8) (s : State), s.m.now < (session k.val s.m).lastMsg + obj Obj.MGMT_SESSION_TIMEOUT_S s.m *
      1000000000) ∧
    (∃ (k : Fin 8) (s : State), powerless s.m = false ∧ (session k.val s.m).st = 1 ∧ (session k.val s.m).openedAt +
      1000000000 ≤ s.m.now) ∧
    (∃ (k : Fin 8) (s : State), powerless s.m = false ∧ (session k.val s.m).st = 2 ∧ (session k.val s.m).lastMsg +
      obj Obj.MGMT_SESSION_TIMEOUT_S s.m * 1000000000 ≤ s.m.now) ∧
    (∃ (k : Fin 8) (q : Nat × Nat × VopOp) (s : State), powerless s.m = false ∧ (session k.val s.m).st = 2 ∧
      s.m.mg.waiting = none ∧ q ∈ (session k.val s.m).held ∧ q.2.1 + 50000000 ≤ s.m.now) ∧
    (∃ (p : Fin 2) (s : State), powerless s.m = false ∧ oGet Obj.MGMT_ENABLE p.val 0 s.m ≠ 0) ∧
    (∃ (p : Fin 2) (s : State), powerless s.m = false ∧ s.m.mg.linkUp.testBit p.val = true) ∧
    (∃ (p : Fin 2) (k : Fin 8) (s : State), powerless s.m = false ∧ s.m.mg.linkUp.testBit p.val = false ∧ sget 0
      s.m.mg.linkAt p.val + 1000000000 ≤ s.m.now ∧ (session k.val s.m).st ≠ 0 ∧ (session k.val s.m).port = p.val) :=
  ⟨⟨0, ascii "M0-0", List.replicate 32 0, List.replicate 16 7 ++ linkLocal 0, 1, 0, 0, W fun s => oSet
     Obj.MGMT_PSK_VALID 0 0 1 { s with mg.linkUp := 3 }, by decide +kernel, by decide +kernel, by decide +kernel,
     by decide +kernel, answers _ _, by decide +kernel⟩,
   ⟨1, ascii "M1-1", List.replicate 32 0, List.replicate 16 7 ++ linkLocal 1, 2, 1, 0, W fun s =>
     { s with mg.linkUp := 3 }, by decide +kernel, by decide +kernel, by decide +kernel, by decide +kernel, answers _
     _, by decide +kernel⟩,
   ⟨1, ascii "M1-1", List.replicate 16 7 ++ linkLocal 1, [0x18], [0x1301], true, 2, 1, W fun s =>
     { s with mg.linkUp := 3 }, by decide +kernel, by decide +kernel, by decide +kernel, by decide +kernel, answers _
     _, by decide +kernel⟩,
   ⟨1, ascii "M1-1", List.replicate 16 7 ++ linkLocal 1, [0x17], [0x1302], true, 2, 1, 0, W fun s =>
     { s with mg.linkUp := 3 }, by decide +kernel, by decide +kernel, by decide +kernel, by decide +kernel, answers _
     _, by decide +kernel⟩,
   ⟨List.replicate 32 7, 0, W fun s => setObj Obj.MGMT_LOOPBACK_AS 2 { s with life.guest := 2 }, by decide +kernel⟩,
   ⟨7, W fun s => { s with mg.sessions := [(7, { st := 1, openedAt := clock })] }, by decide +kernel⟩,
   ⟨7, W fun s => { s with mg.sessions := [(7, { st := 2, lastMsg := clock })] }, by decide +kernel⟩,
   ⟨7, W fun s => { s with mg.sessions := [(7, { st := 1 })] }, by decide +kernel⟩,
   ⟨7, W fun s => { s with mg.sessions := [(7, { st := 2 })] }, by decide +kernel⟩,
   ⟨7, (5, 0, .keepalive), W fun s =>
     { s with mg.sessions := [(7, { st := 2, lastMsg := clock, held := [(5, 0, .keepalive)] })] }, by decide +kernel⟩,
   ⟨1, W id, by decide +kernel⟩,
   ⟨1, W fun s => { s with mg.linkUp := 3 }, by decide +kernel⟩,
   ⟨1, 7, W fun s => { s with mg.linkUp := 1, mg.sessions := [(7, { st := 2, port := 1 })] }, by decide +kernel⟩⟩

theorem test_meets_RequestsAnswered :
    (∃ (r : Req) (s : State), r.version = 1 ∧ r.badOp = none ∧ powerless s.m = false ∧ (session r.session.val s.m).st
      = 2 ∧ (s.m.mg.holder = 0 ∨ lapseDue s.m = none)) ∧
    (∃ (r : Req) (s : State), r.version = 1 ∧ r.badOp = none ∧ powerless s.m = false ∧ (session r.session.val s.m).st
      = 2 ∧ (s.m.mg.holder = 0 ∨ lapseDue s.m = none)) ∧
    (∃ (r : Req) (st : Bool) (idx : BitVec 16) (sub : BitVec 8) (n : BitVec 16) (l : List Byte) (b : Bool) (s :
      State), Turn r s ∧ readObject st idx.toNat sub.toNat 0 n.toNat false (heard r.session.val s.m) = .ok (l, b)) ∧
    (∃ (r : Req) (st : Bool) (idx : BitVec 16) (sub : BitVec 8) (off : BitVec 64) (n : BitVec 16) (l : List Byte) (b
      : Bool) (s : State), Turn r s ∧ readObject st idx.toNat sub.toNat off.toNat n.toNat true (heard r.session.val
      s.m) = .ok (l, b)) ∧
    (∃ (r : Req) (idx : BitVec 16) (sub : BitVec 8) (data : List Byte) (d : ObjDef) (i j g : Nat) (s : State),
      Admitted r idx.toNat sub.toNat 0 data s ∧ lookup idx.toNat sub.toNat = .ok (d, i, j) ∧ d.acc = .rws ∧ d.ty ≠
      .domain ∧ d.group = some g ∧ idx.toNat ≠ 0x3030 ∧ idx.toNat ≠ 0x3080) ∧
    (∃ (r : Req) (idx : BitVec 16) (sub : BitVec 8) (off : BitVec 64) (data : List Byte) (d : ObjDef) (i j g : Nat)
      (s : State), Admitted r idx.toNat sub.toNat off.toNat data s ∧ lookup idx.toNat sub.toNat = .ok (d, i, j) ∧
      d.acc = .rws ∧ d.ty = .domain ∧ d.group = some g ∧ idx.toNat ≠ 0x3030 ∧ idx.toNat ≠ 0x3080) ∧
    (∃ (r : Req) (s : State), Turn r s) ∧
    (∃ (r : Req) (s : State), Turn r s) ∧
    (∃ (r : Req) (idx : BitVec 16) (sub : BitVec 8) (d : ObjDef) (i j : Nat) (s : State), Turn r s ∧ lookup idx.toNat
      sub.toNat = .ok (d, i, j)) ∧
    (∃ (k : Fin 8) (o : Fin 5) (s : State), powerless s.m = false ∧ (session k.val s.m).st = 2 ∧ (session k.val
      s.m).dirty.testBit o.val = true ∧ (∀ p, (session k.val s.m).sentAt.find? (fun p => decide (p.1 = o.val)) = some
      p → p.2 + 10000000 ≤ s.m.now)) ∧
    (∃ (k : Fin 8) (o : Fin 5) (s : State), (session k.val s.m).dirty.testBit o.val = false) :=
  ⟨⟨{ rq with reqId := 5 }, V id, by decide +kernel⟩,
   ⟨rq, V id, by decide +kernel⟩,
   ⟨rq, false, 0x1010, 0, 1, [4], false, V id, turn (by decide +kernel), isOk (by decide +kernel)⟩,
   ⟨rq, true, 0x3080, 0, 0, 32, toBytes 32 (100 * 2 ^ 72 + 200 * 2 ^ 48), false, V id, turn (by decide +kernel), isOk
     (by decide +kernel)⟩,
   ⟨rq, 0x2002, 0, [3], Obj.TRK_BIN_WIDTH, 0, 0, 3, V id, adm (by decide +kernel), isOk (by decide +kernel),
     by decide +kernel⟩,
   ⟨rq, 0x1101, 3, 0, List.replicate 16 1, Obj.MGMT_ADDR, 1, 0, 5, V id, adm (by decide +kernel), isOk
     (by decide +kernel), by decide +kernel⟩,
   ⟨rq, V id, turn (by decide +kernel)⟩,
   ⟨rq, V id, turn (by decide +kernel)⟩,
   ⟨rq, 0x210B, 0, Obj.TKT_EGRESS_HOLD_NS, 0, 0, V id, turn (by decide +kernel), isOk (by decide +kernel)⟩,
   ⟨0, 4, V fun s => { s with mg.sessions := [(0, { st := 2, dirty := 16, sentAt := [(4, 5)] })] },
     by decide +kernel⟩,
   ⟨0, 4, V id, by decide +kernel⟩⟩

theorem test_meets_UnknownRequests :
    (∃ (c : Instr) (r : Req) (s : State), requestOf c = some r ∧ (session r.session.val s.m).st ≠ 2) ∧
    (∃ (c : Instr) (r : Req) (s : State), requestOf c = some r ∧ (r.version ≠ 1 ∨ r.badOp ≠ none) ∧ powerless s.m =
      false ∧ (session r.session.val s.m).st = 2 ∧ (s.m.mg.holder = 0 ∨ lapseDue s.m = none) ∧ r.reqId.toNat =
      (session r.session.val s.m).nextReq ∧ s.m.mg.waiting = none ∧ (session r.session.val s.m).held = [] ∧
      s.m.mg.pend = []) ∧
    (∃ (c : Instr) (r : Req) (s : State), requestOf c = some r ∧ (r.version ≠ 1 ∨ r.badOp ≠ none) ∧ powerless s.m =
      false ∧ (session r.session.val s.m).st = 2 ∧ (s.m.mg.holder = 0 ∨ lapseDue s.m = none) ∧ r.reqId.toNat =
      (session r.session.val s.m).nextReq ∧ s.m.mg.waiting = none ∧ (session r.session.val s.m).held = [] ∧
      s.m.mg.pend = []) :=
  ⟨⟨.vopKeepalive rq, rq, W id, by decide +kernel⟩,
   ⟨.vopKeepalive { rq with version := 2 }, { rq with version := 2 }, V id, by decide +kernel⟩,
   ⟨.mdlBegin { rq with badOp := some .opF }, { rq with badOp := some .opF }, V id, by decide +kernel⟩⟩

theorem test_meets_RefusedWrites :
    (∃ (r : Req) (idx : BitVec 16) (sub : BitVec 8) (data : List Byte) (c : Nat) (s : State), Turn r s ∧ writeChecks
      (decide (idx.toNat = 0x1120) || decide (holderSeen s.m = (session r.session.val s.m).mgr)) idx.toNat sub.toNat
      0 data s.m = .error c) ∧
    (∃ (r : Req) (idx : BitVec 16) (sub : BitVec 8) (data : List Byte) (c : Nat) (s : State), Turn r s ∧ writeChecks
      (decide (idx.toNat = 0x1120) || decide (holderSeen s.m = (session r.session.val s.m).mgr)) idx.toNat sub.toNat
      0 data s.m = .error c) ∧
    (∃ (r : Req) (idx : BitVec 16) (sub : BitVec 8) (data : List Byte) (c : Nat) (s : State), Turn r s ∧ writeChecks
      (decide (idx.toNat = 0x1120) || decide (holderSeen s.m = (session r.session.val s.m).mgr)) idx.toNat sub.toNat
      0 data s.m = .error c) ∧
    (∃ (r : Req) (idx : BitVec 16) (sub : BitVec 8) (data : List Byte) (c : Nat) (s : State), Turn r s ∧ writeChecks
      (decide (idx.toNat = 0x1120) || decide (holderSeen s.m = (session r.session.val s.m).mgr)) idx.toNat sub.toNat
      0 data s.m = .error c) :=
  ⟨⟨rq, 0x210B, 0, [1], 6, V id, turn (by decide +kernel), isErr (by decide +kernel)⟩,
   ⟨rq, 0x9999, 0, [1], 1, V id, turn (by decide +kernel), isErr (by decide +kernel)⟩,
   ⟨rq, 0x210B, 0, [255, 255], 5, V id, turn (by decide +kernel), isErr (by decide +kernel)⟩,
   ⟨rq, 0x210B, 0, [0, 1], 4, V fun s => { s with mg.holder := 0 }, turn (by decide +kernel), isErr
     (by decide +kernel)⟩⟩

theorem test_meets_TokenAndStagingAct :
    (∃ (r : Req) (v : BitVec 8) (s : State), Admitted r 0x1120 0 0 (toBytes 1 v.toNat) s ∧ grantsToken s.m = true ∧
      s.m.mg.holder = 0 ∧ v.toNat ≠ 0 ∧ v.toNat = (session r.session.val s.m).mgr) ∧
    (∃ (r : Req) (s : State), Admitted r 0x1120 0 0 (toBytes 1 0) s ∧ grantsToken s.m = true ∧ s.m.mg.holder =
      (session r.session.val s.m).mgr) ∧
    (∃ (c : Nat) (s : State), powerless s.m = false ∧ s.m.mg.holder ≠ 0 ∧ lapseDue s.m = some c) ∧
    (∃ (s : State), lapseDue s.m = none) ∧
    (∃ (r : Req) (v : BitVec 8) (s : State), Admitted r 0x2F00 0 0 (toBytes 1 v.toNat) s ∧ pageNamed v.toNat s.m =
      false ∧ commitFail v.toNat s.m.mg.staged s.m = none) ∧
    (∃ (r : Req) (v : BitVec 8) (f : Fail) (s : State), Admitted r 0x2F00 0 0 (toBytes 1 v.toNat) s ∧ ¬ (pageNamed
      v.toNat s.m = true ∧ s.m.tt.valid.isSome = true) ∧ commitFail v.toNat s.m.mg.staged s.m = some f) ∧
    (∃ (s : State), powerless s.m = false) ∧
    (∃ (r : Req) (s : State), Admitted r 0x2F10 0 0 (toBytes 1 1) s ∧ pendMask s.m = 0) :=
  ⟨⟨rq, 1, V fun s => { s with mg.holder := 0 }, adm (by decide +kernel), by decide +kernel⟩,
   ⟨rq, V fun s => { s with mg.staged := [(0, .scalar 5 6)] }, adm (by decide +kernel), by decide +kernel⟩,
   ⟨2, W fun s => { s with mg.holder := 1, mg.staged := [(0, .scalar 5 6)] }, by decide +kernel⟩,
   ⟨V id, by decide +kernel⟩,
   ⟨rq, 8, V id, adm (by decide +kernel), by decide +kernel⟩,
   ⟨rq, 8, (commitFail 8 [(3, .scalar (Obj.TRK_PERIOD_MIN_MS.key 0 0) 16777), (3, .scalar (Obj.TRK_PERIOD_MAX_MS.key
     0 0) 100)] v0).getD (0, 0, 0), V fun s =>
     { s with mg.staged := [(3, .scalar (Obj.TRK_PERIOD_MIN_MS.key 0 0) 16777), (3, .scalar (Obj.TRK_PERIOD_MAX_MS.key 0 0) 100)] },
     adm (by decide +kernel), by decide +kernel⟩,
   ⟨W fun s =>
     { s with mg.pend := [{ mask := 8, vals := [], mgr := 1, at_ := 0, acked := false, solo := false, late := false, bulk := 0, rw := false }] },
     by decide +kernel⟩,
   ⟨rq, V fun s => { s with mode := .commission }, adm (by decide +kernel), by decide +kernel⟩⟩

theorem test_meets_BootAndConfirmAct :
    (∃ (s : State), s.m.life.held = true) ∧
    (∃ (s : State), powerless s.m = false ∧ s.m.mode = .boot) ∧
    (∃ (s : State), s.m.life.held = false) ∧
    (∃ (s : State), s.m.mode ≠ .boot) ∧
    (∃ (s : State), powerless s.m = false ∧ s.m.life.trial = true ∧ s.m.life.preferred = s.m.life.running ∧ (imgSlot
      s.m.life.running s.m).st = 1 ∧ obj Obj.BOOT_CONFIRM_S s.m * 1000000000 ≤ confirmedNs s.m) ∧
    (∃ (s : State), confirmedNs s.m < obj Obj.BOOT_CONFIRM_S s.m * 1000000000) ∧
    (∃ (k : Nat) (s : State), powerless s.m = false ∧ s.m.life.guestImg = k + 1 ∧ (cusSlot k s.m).st = 1 ∧
      guestRunning s.m = true ∧ guestSince s.m + obj Obj.BOOT_CONFIRM_S s.m * 1000000000 ≤ s.m.now) :=
  ⟨⟨W fun s => { s with life.held := true }, by decide +kernel⟩,
   ⟨W fun s => { s with mode := .boot }, by decide +kernel⟩,
   ⟨W id, by decide +kernel⟩,
   ⟨W id, by decide +kernel⟩,
   ⟨W fun s => { s with life.trial := true, life.img := ({ st := 1 }, {}), life.confNs := 10 ^ 18 },
     by decide +kernel⟩,
   ⟨W fun s => { s with life.trial := true }, by decide +kernel⟩,
   ⟨0, W fun s =>
     { s with life.guestImg := 1, life.cus := ({ st := 1 }, {}), life.guest := 2, life.guestRun := some 0 },
     by decide +kernel⟩⟩

theorem test_meets_PairsAndGuestAct :
    (∃ (p : Fin 14) (s : State), powerless s.m = false ∧ s.m.mode ≠ .boot ∧ s.m.life.pairsWork.testBit p.val = true) ∧
    (∃ (p : Fin 14) (s : State), powerless s.m = false ∧ s.m.mode = .boot ∧ p.val = s.m.life.romPair ∧ p.val < 13) ∧
    (∃ (p a k : Nat) (rest : List Nat) (s : State), powerless s.m = false ∧ s.m.mode ≠ .run ∧ s.m.mode ≠ .drain ∧
      s.m.life.pairWait = [(p, a)] ∧ bitsBelow s.m.life.pairsSpare 14 = k :: rest) ∧
    (∃ (s : State), powerless s.m = false ∧ (s.m.life.guest = 1 ∨ s.m.life.guest = 3) ∧ s.m.life.guestAt +
      60000000000 ≤ s.m.now) ∧
    (∃ (s : State), s.m.life.guest = 0) ∧
    (∃ (s : State), s.m.now < s.m.life.guestAt + 60000000000) ∧
    (∃ (s : State), powerless s.m = false ∧ s.m.life.guest ≠ 0) ∧
    (∃ (s : State), powerless s.m = false ∧ guestRunning s.m = true) ∧
    (∃ (r : Req) (s : State), Admitted r 0x121A 3 0 (toBytes 1 1) s ∧ s.m.life.guest ≠ 0) :=
  ⟨⟨0, W id, by decide +kernel⟩,
   ⟨12, W fun s => { s with mode := .boot, life.romPair := 12 }, by decide +kernel⟩,
   ⟨5, 7, 12, [13], W fun s => { s with mode := .stop, life.pairWait := [(5, 7)] }, by decide +kernel⟩,
   ⟨W fun s => { s with life.guest := 3, life.guestFails := 2 }, by decide +kernel⟩,
   ⟨W id, by decide +kernel⟩,
   ⟨W fun s => { s with life.guest := 1, life.guestAt := clock }, by decide +kernel⟩,
   ⟨W fun s => { s with life.guest := 2 }, by decide +kernel⟩,
   ⟨W fun s => { s with life.guest := 2 }, by decide +kernel⟩,
   ⟨rq, V fun s => { s with life.guest := 2 }, adm (by decide +kernel), by decide +kernel⟩⟩

theorem test_meets_ImageLoadActs :
    (∃ (r : Req) (s : State), Admitted r 0x1208 0 0 (toBytes 1 1) s ∧ s.m.life.upd.erasing = false ∧ (updState s.m =
      0 ∨ updState s.m = 5) ∧ obj Obj.UPD_LENGTH s.m ≠ 0) ∧
    (∃ (s : State), powerless s.m = false ∧ s.m.life.upd.erasing = true) ∧
    (∃ (s : State), s.m.life.upd.erasing = false) ∧
    (∃ (s : State), updState s.m ≠ 2) ∧
    (∃ (r : Req) (off : BitVec 64) (data : List Byte) (s : State), Admitted r 0x1210 0 off.toNat data s ∧ updState
      s.m = 1 ∧ off.toNat = s.m.life.upd.bytes.length ∧ off.toNat + data.length ≤ s.m.life.upd.len) ∧
    (∃ (r : Req) (s : State), Admitted r 0x1208 0 0 (toBytes 1 2) s ∧ updState s.m = 1 ∧ s.m.life.upd.bytes.length =
      s.m.life.upd.len) ∧
    (∃ (s : State), powerless s.m = false ∧ updState s.m = 2) ∧
    (∃ (r : Req) (s : State), Admitted r 0x1208 0 0 (toBytes 1 3) s ∧ (updState s.m ≠ 0 ∨ s.m.life.upd.erasing =
      true)) ∧
    (∃ (r : Req) (s : State), Admitted r 0x1208 0 0 (toBytes 1 4) s ∧ s.m.role = .active ∧ obj Obj.UPD_PARTNER_STATUS
      s.m = 1) ∧
    (∃ (r : Req) (s : State), Admitted r 0x1208 0 0 (toBytes 1 5) s ∧ updState s.m = 3 ∧ (s.m.mode = .commission ∨
      s.m.mode = .stop ∨ s.m.mode = .trip ∨ s.m.mode = .safe ∨ (s.m.role = .solo ∧ loopOpen s.m = true ∧ partnerHolds
      s.m = true))) ∧
    (∃ (r : Req) (s : State), Admitted r 0x1208 0 0 (toBytes 1 5) s ∧ updState s.m = 3 ∧ switchoverOk s.m = true) :=
  ⟨⟨rq, V (setObj Obj.UPD_LENGTH 4096), adm (by decide +kernel), by decide +kernel⟩,
   ⟨W fun s => { s with life.upd.erasing := true }, by decide +kernel⟩,
   ⟨W id, by decide +kernel⟩,
   ⟨W id, by decide +kernel⟩,
   ⟨rq, 0, [1, 2], V fun s => setObj Obj.UPD_STATE 1 { s with life.upd.len := 4096 }, adm (by decide +kernel),
     by decide +kernel⟩,
   ⟨rq, V (setObj Obj.UPD_STATE 1), adm (by decide +kernel), by decide +kernel⟩,
   ⟨W (setObj Obj.UPD_STATE 2), by decide +kernel⟩,
   ⟨rq, V (setObj Obj.UPD_STATE 3), adm (by decide +kernel), by decide +kernel⟩,
   ⟨rq, V fun s => setObj Obj.UPD_PARTNER_STATUS 1 { s with role := .active }, adm (by decide +kernel),
     by decide +kernel⟩,
   ⟨rq, V fun s => setObj Obj.UPD_STATE 3 { s with mode := .stop }, adm (by decide +kernel), by decide +kernel⟩,
   ⟨rq, V fun s => setObj Obj.PTN_PARTNER_ROLE 2 (setObj Obj.UPD_STATE 3 { s with role := .active }), adm
     (by decide +kernel), by decide +kernel⟩⟩

theorem test_meets_ServiceAndPowerAct :
    (∃ (r : Req) (k leaf : Nat) (s : State), Admitted r 0x1221 0 0 (toBytes 1 1) s ∧ nextLeaf s.m = some (k, leaf) ∧
      (∀ a, s.m.life.attAt = some a → a + obj Obj.ATT_MIN_INTERVAL_S s.m * 1000000000 ≤ s.m.now) ∧ s.m.life.attTree =
      none) ∧
    (∃ (r : Req) (k leaf : Nat) (s : State), Admitted r 0x1221 0 0 (toBytes 1 1) s ∧ nextLeaf s.m = some (k, leaf) ∧
      (∀ a, s.m.life.attAt = some a → a + obj Obj.ATT_MIN_INTERVAL_S s.m * 1000000000 ≤ s.m.now) ∧ s.m.life.attTree =
      none ∧ s.m.life.blocksA = 0) ∧
    (∃ (q : Nat × Nat) (s : State), powerless s.m = false ∧ s.m.life.attTree = some q ∧ tasksWait s.m = false) ∧
    (∃ (s : State), powerless s.m = false) ∧
    (∃ (q : NvTx) (rest : List NvTx) (s : State), powerless s.m = false ∧ s.m.mg.nvQueue = q :: rest) ∧
    (∃ (s : State), s.m.mg.nvQueue = []) ∧
    (∃ (s : State), powerless s.m = false) ∧
    (∃ (n : Fin 2) (s : State), powerless s.m = false ∧ sget 0 s.m.life.auxOffAt n.val + 100000000 ≤ s.m.now) ∧
    (∃ (n : Fin 2) (s : State), s.m.now < sget 0 s.m.life.auxOffAt n.val + 100000000) ∧
    (∃ (s : State), s.m.life.warnAt = none) ∧
    (∃ (s : State), powerless s.m = false ∧ s.m.life.warnAt = none) ∧
    (∃ (a : Nat) (s : State), s.m.life.warnAt = some a ∧ s.m.life.stopped = false) ∧
    (∃ (a : Nat) (s : State), s.m.life.warnAt = some a ∧ a + 100000000 ≤ s.m.now) :=
  ⟨⟨rq, 0, 0, V id, adm (by decide +kernel), by decide +kernel⟩,
   ⟨rq, 0, 0, V fun s => { s with life.blocksA := 0 }, adm (by decide +kernel), by decide +kernel⟩,
   ⟨(0, 0), W fun s => { s with life.attTree := some (0, 0) }, by decide +kernel⟩,
   ⟨W id, by decide +kernel⟩,
   ⟨⟨[], 1, 0, false⟩, [], W fun s =>
     { s with life.blocksA := 0, life.blocksB := 0, mg.nvQueue := [⟨[], 1, 0, false⟩] }, by decide +kernel⟩,
   ⟨W id, by decide +kernel⟩,
   ⟨W fun s => { s with fc.lines := 12 }, by decide +kernel⟩,
   ⟨1, W fun s => { s with life.auxOff := 2 }, by decide +kernel⟩,
   ⟨1, W fun s => { s with life.auxOffAt := [(1, clock)] }, by decide +kernel⟩,
   ⟨W id, by decide +kernel⟩,
   ⟨W id, by decide +kernel⟩,
   ⟨5, W fun s => { s with life.warnAt := some 5 }, by decide +kernel⟩,
   ⟨5, W fun s => { s with life.warnAt := some 5 }, by decide +kernel⟩⟩

theorem test_meets_StepTakesFront :
    (∃ (s : State), s.pending = []) :=
  ⟨W id, by decide +kernel⟩

theorem test_meets_IgnoredCommandsChangeNothing :
    (∃ (c : Instr) (s : State), powerless s.m = true ∧ (∀ b, c ≠ .powerOnReset b) ∧ c ≠ .holdUpEnd ∧ c ≠
      .powerRestart) ∧
    (∃ (c : Instr) (s : State), (s.m.role = .standby ∨ s.m.role = .resync) ∧ ((∃ k, c = .stringTimeout k) ∨ (∃ p, c =
      .diodeExit p) ∨ (∃ d, c = .phaseShed d) ∨ (∃ p, c = .warmHoldExpiry p) ∨ (∃ p, c = .coldWakeExpiry p) ∨ (∃ d, c
      = .overloadCreditExhausted d) ∨ c = .allFireEnd ∨ c = .allFireHeldStart ∨ c = .cnvRegulateEntry ∨ (∃ p, c =
      .calOffset p) ∨ c = .binEnd)) :=
  ⟨⟨.binEnd, W fun s => { s with life.held := true }, by decide +kernel⟩,
   ⟨.allFireEnd, W fun s => { s with role := .standby, cnv.fire := { active := true } }, by decide +kernel⟩⟩

theorem test_meets_TicketsDiscardedOutsideRun :
    (∃ (s : State), s.m.mode ≠ .run ∧ s.m.mode ≠ .drain) :=
  ⟨W fun s => { s with mode := .stop }, by decide +kernel⟩

theorem test_meets_DiscardDropsStaged :
    (∃ (r : Req) (v : BitVec 8) (s : State), Admitted r 0x2F01 0 0 (toBytes 1 v.toNat) s) :=
  ⟨rq, 8, V fun s => { s with mg.staged := [(3, .scalar 5 6)] }, adm (by decide +kernel)⟩

theorem test_meets_TokenGrantedByRole :
    (∃ (r : Req) (s : State), Turn r s ∧ ¬ (s.m.role = .active ∨ s.m.role = .solo ∨ s.m.role = .none ∨ (s.m.role =
      .resync ∧ 3 ≤ s.m.ptn.unheard))) :=
  ⟨rq, V fun s => { s with role := .standby }, turn (by decide +kernel), by decide +kernel⟩

theorem test_meets_MaintenanceBins :
    (∃ (b : Nat) (s : Mach), b % obj Obj.TT_MAINT_INTERVAL s = obj Obj.TT_MAINT_INTERVAL s - 1) ∧
    (∃ (b : Nat) (s : Mach), s.tt.synth = false ∧ s.tt.bad.contains b = false ∧ rowMaint (pageRow (livePage s) b) = true) :=
  ⟨⟨obj Obj.TT_MAINT_INTERVAL b0 - 1, b0, by decide +kernel⟩, ⟨0, maintBin b0, by decide +kernel⟩⟩

theorem test_meets_StepEndClearsArbiter :
    ∃ (n0 : Nat) (s : Mach), (arbiterWrap n0 s).arb.reqs ≠ [] :=
  ⟨250000, withSlot (fun x => { x with early := true }) b0, by decide +kernel⟩

theorem test_meets_FusesOneTime :
    ∃ (s t : State), step s = .next t ∧ s.m.life.revoked.testBit 1 = true ∧ ∀ rest, s.pending ≠ .imageConfirm :: rest :=
  ⟨W fun s => { s with life.revoked := 2 }, _, rfl, by decide +kernel, fun _ h => nomatch h⟩

theorem test_meets_FuseRangeKept :
    ∃ (s t : State), (s.m.life.svn ≤ 64 ∧ s.m.life.revoked < 8) ∧ step s = .next t :=
  ⟨W fun s => { s with life.svn := 64, life.revoked := 7 }, _, by decide +kernel, rfl⟩

theorem test_meets_LeavesOnlyRise : ∃ (s t : State), step s = .next t :=
  ⟨W fun s => { s with life.leafA := [(0, 5)] }, _, rfl⟩

theorem test_meets_TablesCanonical :
    ∃ m n : SMap Nat, swf 0 m = true ∧ swf 0 n = true ∧ ∀ k, sget 0 m k = sget 0 n k :=
  ⟨[(1, 2), (4, 1)], [(1, 2), (4, 1)], by decide, by decide, fun _ => rfl⟩

theorem test_meets_FramesOfEvents :
    ∃ (c : Instr) (s t : State), requestOf c = none ∧ exec c s = .next t :=
  ⟨.faultNPulseEnd, W id, _, rfl, rfl⟩

theorem test_meets_FramesOfRequests :
    ∃ (c : Instr) (r : Req) (s t : State), requestOf c = some r ∧ Turn r s ∧ exec c s = .next t :=
  ⟨.vopKeepalive rq, rq, V id, _, rfl, turn (by decide +kernel), rfl⟩

theorem test_meets_FaultsBelowTripKeep :
    (∃ (s t : State), fltClass 9 s.m < 3 ∧ exec (.faultEvent 9 0 0) s = .next t) ∧
    (∃ (s t : State), fltClass 37 s.m < 3 ∧ exec .clockLoss s = .next t) ∧
    (∃ (s t : State), fltClass 36 s.m < 3 ∧ exec (.watchdogExpiry 13) s = .next t) ∧
    (∃ (s t : State), fltClass 28 s.m < 3 ∧ exec (.fabricLaneDown 7) s = .next t) ∧
    (∃ (s t : State), fltClass 2 s.m < 3 ∧ exec (.auxInputFault 0) s = .next t) ∧
    (∃ (s t : State), fltClass 31 s.m < 3 ∧ exec (.heartbeatPathLoss true) s = .next t) :=
  let v (n : Nat) : State := W (oSet Obj.FLT_CLASS 0 n 2)
  ⟨⟨v 9, _, by decide +kernel, rfl⟩, ⟨v 37, _, by decide +kernel, rfl⟩, ⟨v 36, _, by decide +kernel, rfl⟩,
   ⟨v 28, _, by decide +kernel, rfl⟩, ⟨v 2, _, by decide +kernel, rfl⟩, ⟨v 31, _, by decide +kernel, rfl⟩⟩

theorem test_meets_ObjectFrames :
    ∃ (c : Instr) (l : List ObjDef) (s t : State), objWrites c = some l ∧ (∀ r, requestOf c = some r → Turn r s) ∧
      exec c s = .next t :=
  ⟨.faultNPulseEnd, [], W id, _, rfl, nofun, rfl⟩

/-! ### Ill-formed terms are refused -/

theorem test_refuses_frames :
    Instr.wellFormed (.ingressBundle 0 (List.replicate 12 0) (List.replicate 18 0) true) = true ∧
    Instr.wellFormed (.ingressBundle 0 (List.replicate 11 0) (List.replicate 18 0) true) = false ∧
    Instr.wellFormed (.ingressBundle 0 (List.replicate 12 0) [0] true) = false ∧
    Instr.wellFormed (.ingressBundle 0 (List.replicate 12 0) (List.replicate 9007 0) true) = false := by decide +kernel

theorem test_refuses_window_data :
    Instr.wellFormed (.reqTableWindowWrite rq 0 (List.replicate 1024 0)) = true ∧
    Instr.wellFormed (.reqTableWindowWrite rq 0 (List.replicate 1025 0)) = false ∧
    Instr.wellFormed (.mdlLoadWindowWrite rq 0 (List.replicate 1025 0)) = false ∧
    Instr.wellFormed (.updWindowWrite rq 0 (List.replicate 1025 0)) = false ∧
    Instr.wellFormed (.vopWrite rq 0 0 (List.replicate 1025 0)) = false ∧
    Instr.wellFormed (.vopWriteDomain rq 0 0 0 (List.replicate 1025 0)) = false := by decide +kernel

theorem test_refuses_handshakes :
    Instr.wellFormed (.dtlsHandshake 0 [] (.finished (List.replicate 32 0)) (List.replicate 32 0)) = true ∧
    Instr.wellFormed (.dtlsHandshake 0 [] (.finished (List.replicate 31 0)) (List.replicate 32 0)) = false ∧
    Instr.wellFormed (.dtlsHandshake 0 [] (.finished (List.replicate 32 0)) (List.replicate 31 0)) = false := by decide +kernel

theorem test_refuses_channels :
    Instr.wellFormed (.tickPublication 0 (List.replicate 257 (0, 0)) []) = false := by decide +kernel

/-! ### Values that the spec's examples and tables give -/

/-- The check values of the two CRCs that R434 names, over the digits 1 to 9. -/
theorem test_crc : crc16 (ascii "123456789") = 0x29B1 ∧ crc32 (ascii "123456789") = 0xCBF43926 := by decide +kernel

/-- Chapter 7, worked example of one MXFP8 block: 1,950, 1,500 and 0.01 W. -/
theorem test_mx_block :
    (mxConvert .e4m3 [.ofInt 1950, .ofInt 1500, .ofRat 24 1 100]).scale = 129 ∧
    ((mxConvert .e4m3 [.ofInt 1950, .ofInt 1500, .ofRat 24 1 100]).values .e4m3).map (fun v => v.floorMul 1024)
      = [1792 * 1024, 1536 * 1024, 8] := by decide +kernel

/-- Chapter 2: 1,200 kW and 600 kW are exact in the kW scale. -/
theorem test_kw_scale : kwFloorW 0x64B0 = 1200000 ∧ kwFloorW 0x60B0 = 600000 := by decide +kernel

/-- R267's example: 1,200,000 W at 800,000 mV over 12 rectifiers gives LIMIT 12,125. -/
theorem test_rect_limit :
    limitFor 0 1200000 { b0 with
      cnv.busMv := 800000
      grd.rects := (List.range 12).map fun r => (r, { healthy := true })
      od := [(Obj.RECT_FITTED.key 0 0, 4095)] } = 12125 := by decide +kernel

/-- Object 0x1004 names the package of the running release, as in its example VA-PZ96-FW-3.1. -/
theorem test_package_name :
    strOf 0x1004 (setObj Obj.ID_FW_MAJOR 3 (setObj Obj.ID_FW_MINOR 1 b0)) = ascii "VA-PZ96-FW-3.1" := by decide +kernel

/-- R39: with the default interval, the last bin of every interval has MAINT though its row does not. -/
theorem test_maint_bin :
    rowMaint (row (obj Obj.TT_MAINT_INTERVAL b0 - 1) b0) = true ∧ rowMaint (row 0 b0) = false := by decide +kernel

end Sys2Proof.Tests
end

section
/-! PROOFS. What INGRESS_BUNDLE does with each kind of frame (R56, R61, R90), and that outside RUN and DRAIN it brings
no ticket to the arbiter (R22). -/

namespace Sys2Proof.Machine

/-! ### The effect of a command, with and without power -/

/-- A command that reaches the module with power acts on it. -/
theorem drive_powered {f : Mach → Mach} {s : State} (h : powerless s.m = false) :
    drive f s = .next { s with m := f s.m } := by
  simp [h]

/-- A command's meaning that does nothing leaves the whole state alone, with power or without. -/
theorem drive_fixed {f : Mach → Mach} {s : State} (h : f s.m = s.m) : drive f s = .next s := by
  simp [h]

/-! ### INGRESS_BUNDLE, one equation per frame -/

section Ingress

variable {lane : Nat} {macs frame src payload : List Byte} {fcs ok : Bool} {s : Mach}

theorem arbRuns_eq_false_iff : arbRuns s = false ↔ s.mode ≠ .run ∧ s.mode ≠ .drain := by
  simp [arbRuns]

/-- R22: outside RUN and DRAIN an accepted bundle is dropped. -/
theorem bundleIn_of_arbRuns_false (h : arbRuns s = false) : bundleIn lane src payload s = s := by
  simp [bundleIn, h]

theorem cmdIngressBundle_boot (h : s.mode = .boot) : cmdIngressBundle lane macs frame fcs s = s := by
  simp [cmdIngressBundle, h]

theorem cmdIngressBundle_no_bundle (h : bundleOf macs frame s = none) : cmdIngressBundle lane macs frame fcs s = s := by
  simp [cmdIngressBundle, h]

theorem cmdIngressBundle_bad_version (hm : s.mode ≠ .boot) (h : bundleOf macs frame s = some (src, ok, payload))
    (hb : bundleBad payload (fcs && ok) s = some true) :
    cmdIngressBundle lane macs frame fcs s = incObj Obj.TKT_VERSION_DISCARD s := by
  simp only [cmdIngressBundle, if_neg hm, h, hb]

theorem cmdIngressBundle_bad (hm : s.mode ≠ .boot) (h : bundleOf macs frame s = some (src, ok, payload))
    (hb : bundleBad payload (fcs && ok) s = some false) :
    cmdIngressBundle lane macs frame fcs s = incObj Obj.TKT_BUNDLE_DISCARD s := by
  simp only [cmdIngressBundle, if_neg hm, h, hb]

theorem cmdIngressBundle_good (hm : s.mode ≠ .boot) (h : bundleOf macs frame s = some (src, ok, payload))
    (hb : bundleBad payload (fcs && ok) s = none) :
    cmdIngressBundle lane macs frame fcs s = bundleIn lane src payload s := by
  simp only [cmdIngressBundle, if_neg hm, h, hb]

/-- R22, R61: outside RUN and DRAIN a bundle does no more than count itself under the reason for its discard. -/
theorem cmdIngressBundle_outside_run (lane : Nat) (macs frame : List Byte) (fcs : Bool) (h : arbRuns s = false) :
    cmdIngressBundle lane macs frame fcs s = s ∨
    cmdIngressBundle lane macs frame fcs s = incObj Obj.TKT_BUNDLE_DISCARD s ∨
    cmdIngressBundle lane macs frame fcs s = incObj Obj.TKT_VERSION_DISCARD s := by
  by_cases hm : s.mode = .boot
  · exact .inl (cmdIngressBundle_boot hm)
  rcases hf : bundleOf macs frame s with _ | ⟨src, ok, payload⟩
  · exact .inl (cmdIngressBundle_no_bundle hf)
  rcases hb : bundleBad payload (fcs && ok) s with _ | _ | _
  · exact .inl ((cmdIngressBundle_good hm hf hb).trans (bundleIn_of_arbRuns_false h))
  · exact .inr (.inl (cmdIngressBundle_bad hm hf hb))
  · exact .inr (.inr (cmdIngressBundle_bad_version hm hf hb))

end Ingress

/-- The meaning of INGRESS_BUNDLE at the level of `exec`. -/
theorem exec_ingressBundle (lane : Fin 8) (macs frame : List Byte) (fcs : Bool) (s : State) :
    exec (.ingressBundle lane macs frame fcs) s = drive (cmdIngressBundle lane.val macs frame fcs) s := rfl

/-- Settles O45: without power nothing happens, and with power only the two discard counters can move. -/
theorem ticketsDiscardedOutsideRun : Obligations.TicketsDiscardedOutsideRun := by
  intro lane macs frame fcs s hrun hdrain
  rw [exec_ingressBundle]
  cases hp : powerless s.m with
  | true => exact .inl (drive_powerless hp)
  | false =>
    have hout : arbRuns s.m = false := arbRuns_eq_false_iff.mpr ⟨hrun, hdrain⟩
    rcases cmdIngressBundle_outside_run lane.val macs frame fcs hout with h | h | h
    · exact .inl (drive_fixed h)
    · exact .inr (.inl (by rw [drive_powered hp, h]))
    · exact .inr (.inr (by rw [drive_powered hp, h]))

end Sys2Proof.Machine
end

section
/-! PROOFS. The MAINT flag of the row in force (R39): the interval sets it, and nothing takes it away. -/

namespace Sys2Proof.Machine

section Maint

variable {b r : Nat} {s : Mach}

/-- R39, both ways: a row has MAINT once the interval has been applied exactly where the interval names the bin or the row
brought the flag itself. -/
theorem rowMaint_withMaint_iff : rowMaint (withMaint b s r) = true ↔
    b % obj Obj.TT_MAINT_INTERVAL s = obj Obj.TT_MAINT_INTERVAL s - 1 ∨ rowMaint r = true := by
  by_cases named : b % obj Obj.TT_MAINT_INTERVAL s = obj Obj.TT_MAINT_INTERVAL s - 1
  · simp [withMaint, named, rowMaint, rowFlag]
  · simp [withMaint, named]

/-- R41: outside synthesis the row of a bin that is not bad is the live page's, with the interval applied. -/
theorem row_of_page (hsynth : s.tt.synth = false) (hbad : s.tt.bad.contains b = false) :
    row b s = withMaint b s (pageRow (livePage s) b) := by
  simp only [row, hsynth, hbad, Bool.or_self, Bool.false_eq_true, if_false]

end Maint

/-- Settles O48: the interval's bins have MAINT over any row, synthesised ones included, and a row of the live page keeps
the MAINT it holds. -/
theorem maintenanceBins : Obligations.MaintenanceBins := by
  constructor
  · intro b s named
    exact rowMaint_withMaint_iff.mpr (.inl named)
  · intro b s hsynth hbad hmaint
    rw [row_of_page hsynth hbad]
    exact rowMaint_withMaint_iff.mpr (.inr hmaint)

end Sys2Proof.Machine
end

section
/-! PROOFS. A request whose turn has come (R360): what hearing it changes, that it runs at once, and that its answer
leaves staged values and pending commits alone. With these, STG_DISCARD (R374). -/

namespace Sys2Proof.Machine

open Sys2Proof.Safety

/-- The staged values and the pending commits. -/
def staging (s : Mach) : List (Nat × ObjVal) × List Pending := (s.mg.staged, s.mg.pend)

/-- A value of one byte is sent as that byte (R349). -/
theorem beNat_toBytes_one (v : BitVec 8) : beNat (toBytes 1 v.toNat) = v.toNat := by
  simp [toBytes, beNat]

/-! ### What a record and a session that closes leave alone -/

@[simp] theorem countEvN_mg (src n : Nat) (s : Mach) : (countEvN src n s).mg = s.mg := by
  refine each_keep (g := Mach.mg) ?_ _ _
  exact fun _ _ => rfl

@[simp] theorem countEv_mg (src : Nat) (s : Mach) : (countEv src s).mg = s.mg := countEvN_mg src 1 s

@[simp] theorem ringWrite_mg (r : GRec) (s : Mach) : (ringWrite r s).mg = s.mg := by
  simp only [ringWrite]; split <;> rfl

@[simp] theorem push_mg (code source data : Nat) (capped : Bool) (s : Mach) :
    (logRec.push code source data capped s).mg = s.mg := by
  simp only [logRec.push]; split <;> rfl

@[simp] theorem log_mg (code source data : Nat) (s : Mach) : (log code source data s).mg = s.mg := by
  simp only [log, logRec]
  repeat' split
  all_goals simp

@[simp] theorem send_staging (x : Sent) (s : Mach) : staging (send x s) = staging s := rfl

@[simp] theorem setSession_staging (k : Nat) (x : Session) (s : Mach) : staging (setSession k x s) = staging s := rfl

@[simp] theorem closeSession_staging (k cause : Nat) (s : Mach) : staging (closeSession k cause s) = staging s := by
  have logged (code source data : Nat) (t : Mach) : staging (log code source data t) = staging t := by simp [staging]
  simp only [closeSession]
  repeat' split
  all_goals simp [logged]

@[simp] theorem closeSessions_staging (which : Session → Bool) (cause : Nat) (s : Mach) :
    staging (closeSessions which cause s) = staging s := by
  refine each_keep (g := staging) (fun k s => ?_) _ _
  split <;> simp

@[simp] theorem closeCleared_staging (s : Mach) : staging (closeCleared s) = staging s := by
  simp only [closeCleared, closeSessions_staging]

/-- R361: the answer of a request leaves the staging as the request made it. -/
@[simp] theorem finish_staging (k reqId : Nat) (op : VopOp) (a : VopAnswer) (s : Mach) :
    staging (finish k reqId op a s) = staging s := by
  simp only [finish]
  repeat' split
  all_goals simp

/-! ### Hearing a request in its turn (R366) -/

section Turn

variable {r : Req} {s : State}

/-- No lapse is due, so hearing the request takes none. -/
theorem cmdTokenLapse_of_turn (h : Turn r s) : cmdTokenLapse s.m = s.m := by
  obtain ⟨-, -, -, -, hlapse | hlapse, -⟩ := h <;> simp [cmdTokenLapse, hlapse]

/-- Hearing a request dates its session's last message and, where the session is the holder's, the token's; nothing else
changes. -/
theorem heard_of_turn (h : Turn r s) : ∃ at_ : Nat, heard r.session.val s.m =
    { s.m with mg := { s.m.mg with
        sessions := sput {} s.m.mg.sessions r.session.val { session r.session.val s.m with lastMsg := s.m.now }
        heardAt := at_ } } := by
  simp only [heard, cmdTokenLapse_of_turn h]
  split
  · exact ⟨_, rfl⟩
  · exact ⟨_, rfl⟩

theorem heard_staging (h : Turn r s) : staging (heard r.session.val s.m) = staging s.m := by
  obtain ⟨at_, e⟩ := heard_of_turn h
  simp [e, staging]

theorem heard_waiting (h : Turn r s) : (heard r.session.val s.m).mg.waiting = s.m.mg.waiting := by
  obtain ⟨at_, e⟩ := heard_of_turn h
  simp [e]

theorem heard_holderSeen (h : Turn r s) : holderSeen (heard r.session.val s.m) = holderSeen s.m := by
  obtain ⟨at_, e⟩ := heard_of_turn h
  simp [e, holderSeen]

theorem heard_session (h : Turn r s) : session r.session.val (heard r.session.val s.m) =
    { session r.session.val s.m with lastMsg := s.m.now } := by
  obtain ⟨at_, e⟩ := heard_of_turn h
  simp [e, session]

/-- R359: a request of VERSION 1 and no reserved OP is taken as it is. -/
theorem opTaken_of_turn (h : Turn r s) (op : VopOp) : opTaken r op = op := by
  obtain ⟨hversion, hbad, -⟩ := h
  simp [opTaken, hversion, hbad]

/-- R360: a request whose turn has come runs once it is heard, and nothing held runs after it. -/
theorem request_of_turn (h : Turn r s) (op : VopOp) :
    request r op s.m = runReq r.session.val r.reqId.toNat op (heard r.session.val s.m) := by
  have hsession := heard_session h
  have hwait := heard_waiting h
  have htaken := opTaken_of_turn h op
  obtain ⟨-, -, -, hopen, -, hid, hwaiting, hheld⟩ := h
  simp [request, htaken, hopen, hsession, hid, hheld, sessionWaits, hwait, hwaiting]

end Turn

/-- What a request that runs leaves staged and pending is what its operation leaves so. -/
theorem runReq_staging (k reqId : Nat) (op : VopOp) (s : Mach) :
    staging (runReq k reqId op s) = staging (doOp k reqId op s).2 := by
  simp only [runReq]
  split <;> simp [*]

/-! ### STG_DISCARD (R374) -/

theorem lookup_stgDiscard : lookup 0x2F01 0 = .ok (Obj.STG_DISCARD, 0, 0) := by rfl

/-- The row that an admitted write names is the one looked up. -/
theorem lookup_of_writeChecks {tokenOk : Bool} {idx sub off : Nat} {data : List Byte} {s : Mach}
    {q : ObjDef × Nat × Nat} (h : writeChecks tokenOk idx sub off data s = .ok q) : lookup idx sub = .ok q := by
  simp only [writeChecks] at h
  split at h
  · cases h
  · rename_i e
    rw [e]
    split_ifs at h
    exact h

/-- A write to STG_DISCARD that passes the checks discards the groups it names; the object is of no group and is never
busy. -/
theorem doWrite_stgDiscard {k reqId : Nat} {env : Bool × Bool} {data : List Byte} {s : Mach} {q : ObjDef × Nat × Nat}
    (h : writeChecks (decide (holderSeen s = (session k s).mgr)) 0x2F01 0 0 data s = .ok q) :
    doWrite k reqId env false 0x2F01 0 0 data s = (some (bare 0), discardGroups (beNat data) s) := by
  obtain rfl : q = (Obj.STG_DISCARD, 0, 0) := by
    have := (lookup_of_writeChecks h).symm.trans lookup_stgDiscard
    injection this
  simp [doWrite, h, groupPending, writeBusy, Obj.STG_DISCARD]

/-- Settles O46: the write runs in its turn, and the answer that follows leaves what it discarded and kept. -/
theorem discardDropsStaged : Obligations.DiscardDropsStaged := by
  rintro r v s ⟨hturn, d, i, j, hchecks, -, -⟩
  have ⟨_, _, hpower, _⟩ := hturn
  refine completes_drive (f := writeReq r 0x2F01 0 1 v.toNat) rfl hpower ?_
  have hwrite : doWrite r.session.val r.reqId.toNat (true, true) false 0x2F01 0 0 (toBytes 1 v.toNat)
      (heard r.session.val s.m) = (some (bare 0), discardGroups v.toNat (heard r.session.val s.m)) := by
    rw [doWrite_stgDiscard (q := (d, i, j)), beNat_toBytes_one]
    simpa [heard_holderSeen hturn, heard_session hturn] using hchecks
  have hstaging : staging (writeReq r 0x2F01 0 1 v.toNat s.m) =
      staging (discardGroups v.toNat (heard r.session.val s.m)) := by
    rw [writeReq, request_of_turn hturn, runReq_staging, doOp, hwrite]
  obtain ⟨hstaged, hpend⟩ := Prod.mk.inj (heard_staging hturn)
  obtain ⟨hstaged', hpend'⟩ := Prod.mk.inj hstaging
  exact ⟨by rw [hstaged', discardGroups, hstaged], by rw [hpend', discardGroups, hpend]⟩

end Sys2Proof.Machine
end

section
/-! PROOFS. The fuses that change in service (R381): the pair of them, and that the operations shared by all
chapters, the fault collector and the Coupler leave it alone. An operation that leaves the whole record of the service
life alone says so (`_life`); one that changes something else there, as a C3 event does with the confirmation time, says
it of the fuses (`_fuses`). -/

namespace Sys2Proof.Machine

/-! ### The fuses -/

/-- The fuse fields that change in service (Table 14.1): the fused SVN and the revoked key slots. -/
def Life.fuses (l : Life) : Nat × Nat := (l.svn, l.revoked)

/-- The fuses of a record as it is written out after an update of other fields. -/
@[simp] theorem Life.fuses_mk {revoked svn : Nat} {fuseBad : Bool} {preferred : Nat} {trial : Bool} {trialBoots : Nat}
    {img cus : ImgSlot × ImgSlot} {cusPref : Nat} {cusTrial : Bool} {cusBoots running : Nat} {romDone autoStart : Bool}
    {activate confAt : Option Nat} {confNs : Nat} {confHold : Bool} {upd : Upload} {pairsWork pairsSpare : Nat}
    {pairWait : List (Nat × Nat)} {romPair : Nat} {keysLost : Bool} {guest guestImg guestAt guestFails : Nat}
    {guestRun : Option Nat} {leafA leafB : SMap Nat} {attTree : Option (Nat × Nat)} {attAt : Option Nat} {attMgr : Nat}
    {attNonce : List Byte} {ageAt : SMap Nat} {blocksA blocksB auxOff : Nat} {auxOffAt : SMap Nat} {warnAt : Option Nat}
    {stopped held : Bool} {lane9 : Nat} {lane9For : Option Nat} {lane9Lock : Bool} {lanesDown : Nat} :
    Life.fuses ⟨revoked, svn, fuseBad, preferred, trial, trialBoots, img, cus, cusPref, cusTrial, cusBoots, running,
      romDone, autoStart, activate, confAt, confNs, confHold, upd, pairsWork, pairsSpare, pairWait, romPair, keysLost,
      guest, guestImg, guestAt, guestFails, guestRun, leafA, leafB, attTree, attAt, attMgr, attNonce, ageAt, blocksA,
      blocksB, auxOff, auxOffAt, warnAt, stopped, held, lane9, lane9For, lane9Lock, lanesDown⟩ = (svn, revoked) := rfl

@[simp] theorem Life.fuses_eta (l : Life) : (l.svn, l.revoked) = l.fuses := rfl

/-! ### Branches and repetition -/

@[simp] theorem life_ite {c : Prop} [Decidable c] (s t : Mach) :
    (if c then s else t).life = if c then s.life else t.life := apply_ite Mach.life c s t

@[simp] theorem fuses_ite {c : Prop} [Decidable c] (l m : Life) :
    (if c then l else m).fuses = if c then l.fuses else m.fuses := apply_ite Life.fuses c l m

theorem snd_ite {α β : Type} {c : Prop} [Decidable c] (p q : α × β) :
    (if c then p else q).2 = if c then p.2 else q.2 := apply_ite Prod.snd c p q

/-! An update of one part, stated over a variable in its place, so that a proof never computes what is written there. -/

theorem life_withCtr (c : Counters) (s : Mach) : ({ s with ctr := c } : Mach).life = s.life := rfl

theorem life_withCnv (c : Converter) (s : Mach) : ({ s with cnv := c } : Mach).life = s.life := rfl

theorem life_withBnk (b : Banks) (s : Mach) : ({ s with bnk := b } : Mach).life = s.life := rfl

/-- `f` leaves the quantity `g` as it was. -/
def Keeps {β : Type} (g : Mach → β) (f : Mach → Mach) : Prop := ∀ s, g (f s) = g s

@[simp] theorem keeps_iff {β : Type} {g : Mach → β} {f : Mach → Mach} : Keeps g f ↔ ∀ s, g (f s) = g s := ⟨id, id⟩

@[simp] theorem each_life {ι : Type} {f : ι → Mach → Mach} (h : ∀ i, Keeps Mach.life (f i)) (l : List ι) (s : Mach) :
    (each l f s).life = s.life := each_keep (g := Mach.life) h l s

@[simp] theorem each_fuses {ι : Type} {f : ι → Mach → Mach} (h : ∀ i, Keeps (·.life.fuses) (f i)) (l : List ι)
    (s : Mach) : (each l f s).life.fuses = s.life.fuses := each_keep (g := (·.life.fuses)) h l s

@[simp] theorem foldl_life {ι : Type} {f : Mach → ι → Mach} (h : ∀ i, Keeps Mach.life (f · i)) (l : List ι) (s : Mach) :
    (l.foldl f s).life = s.life := each_life (f := fun i s => f s i) h l s

@[simp] theorem foldl_fuses {ι : Type} {f : Mach → ι → Mach} (h : ∀ i, Keeps (·.life.fuses) (f · i)) (l : List ι)
    (s : Mach) : (l.foldl f s).life.fuses = s.life.fuses := each_fuses (f := fun i s => f s i) h l s

/-- A loop that gathers something beside the module. -/
theorem foldl_fst_life {ι γ : Type} {f : Mach × γ → ι → Mach × γ} (h : ∀ a i, (f a i).1.life = a.1.life) (l : List ι)
    (a : Mach × γ) : (l.foldl f a).1.life = a.1.life := by
  induction l generalizing a with
  | nil => rfl
  | cons i l ih => exact (ih _).trans (h a i)

/-! ### Shared operations -/

@[simp] theorem draw_life (w : Nat) (s : Mach) : (draw w s).2.life = s.life := rfl

@[simp] theorem countEvN_life (src n : Nat) (s : Mach) : (countEvN src n s).life = s.life := by simp [countEvN]

@[simp] theorem countEv_life (src : Nat) (s : Mach) : (countEv src s).life = s.life := by simp [countEv]

@[simp] theorem ringWrite_life (r : GRec) (s : Mach) : (ringWrite r s).life = s.life := by simp [ringWrite]

@[simp] theorem logRec_push_life (code source data : Nat) (capped : Bool) (s : Mach) :
    (logRec.push code source data capped s).life = s.life := by simp [logRec.push]

@[simp] theorem logRec_life (code source data : Nat) (capped : Bool) (s : Mach) :
    (logRec code source data capped s).life = s.life := by
  simp only [logRec]
  split <;> simp

@[simp] theorem log_life (code source data : Nat) (s : Mach) : (log code source data s).life = s.life := by simp [log]

@[simp] theorem confirmTime_fuses (x : ModState) (s : Mach) : (confirmTime x s).life.fuses = s.life.fuses := rfl

@[simp] theorem setMode_fuses (x : ModState) (s : Mach) : (setMode x s).life.fuses = s.life.fuses := by simp [setMode]

@[simp] theorem setRole_life (x : Role) (s : Mach) : (setRole x s).life = s.life := by simp [setRole]

@[simp] theorem domPut_life (idx sub off : Nat) (l : List Byte) (s : Mach) :
    (domPut idx sub off l s).life = s.life := by
  induction l generalizing off s with
  | nil => rfl
  | cons b l ih => exact ih ..

/-! ### The fault collector -/

@[simp] theorem lineDown_life (n : Nat) (s : Mach) : (lineDown n s).life = s.life := rfl

@[simp] theorem bankFastDisarm_life (s : Mach) : (bankFastDisarm s).life = s.life := by simp [bankFastDisarm]

@[simp] theorem converterStop_life (st : CnvState) (s : Mach) :
    (converterStop st s).life = s.life := by simp [converterStop]

@[simp] theorem converterSafe_life (s : Mach) : (converterSafe s).life = s.life := by simp [converterSafe]

@[simp] theorem feedMode_life (f mode : Nat) (s : Mach) : (feedMode f mode s).life = s.life := by simp [feedMode]

@[simp] theorem tripShelf_life (s : Mach) : (tripShelf s).life = s.life := by
  simp only [tripShelf]
  split <;> simp

@[simp] theorem arbiterClose_life (s : Mach) : (arbiterClose s).life = s.life := rfl

@[simp] theorem arbiterDrop_life (s : Mach) : (arbiterDrop s).life = s.life := rfl

@[simp] theorem c3Action_fuses (s : Mach) : (c3Action s).life.fuses = s.life.fuses := by
  simp only [c3Action]
  split <;> simp

@[simp] theorem openWindow_life (n cls : Nat) (s : Mach) : (openWindow n cls s).life = s.life := by simp [openWindow]

@[simp] theorem faultNPulse_life (s : Mach) : (faultNPulse s).life = s.life := by simp [faultNPulse]

@[simp] theorem latchCore_fuses (n source data cap : Nat) (s : Mach) :
    (latchCore n source data cap s).life.fuses = s.life.fuses := by simp [latchCore]

@[simp] theorem latch_fuses (n source data cap : Nat) (s : Mach) :
    (latch n source data cap s).life.fuses = s.life.fuses := by
  simp only [latch]
  split <;> simp

@[simp] theorem pulse_fuses (n source data : Nat) (s : Mach) :
    (pulse n source data s).life.fuses = s.life.fuses := by simp [pulse]

@[simp] theorem setLine_fuses (n : Nat) (on : Bool) (source data : Nat) (s : Mach) :
    (setLine n on source data s).life.fuses = s.life.fuses := by simp [setLine]

@[simp] theorem raise_fuses (n source data : Nat) (s : Mach) :
    (raise n source data s).life.fuses = s.life.fuses := by simp [raise]

@[simp] theorem latchEdge_fuses (n cap : Nat) (s : Mach) :
    (latchEdge n cap s).life.fuses = s.life.fuses := by simp [latchEdge]

@[simp] theorem uncover_fuses (n : Nat) (s : Mach) : (uncover n s).life.fuses = s.life.fuses := by simp [uncover]

@[simp] theorem closeWindows_fuses (n : Nat) (s : Mach) :
    (closeWindows n s).life.fuses = s.life.fuses := by simp [closeWindows]

@[simp] theorem closeInjection_fuses (s : Mach) : (closeInjection s).life.fuses = s.life.fuses := by
  simp only [closeInjection]
  split <;> simp

@[simp] theorem clearStatus_life (mask : Nat) (s : Mach) : (clearStatus mask s).life = s.life := by simp [clearStatus]

@[simp] theorem refreshFaultN_life (s : Mach) : (refreshFaultN s).life = s.life := by simp [refreshFaultN]

/-! ### The Coupler -/

@[simp] theorem addWords_life (l : List Nat) (s : Mach) : (addWords l s).life = s.life := rfl

@[simp] theorem drainFresh_life (s : Mach) : (drainFresh s).life = s.life := by
  simp only [drainFresh]
  split <;> simp

@[simp] theorem orderExt_life (kind : Nat) (value : Option Nat) (s : Mach) :
    (orderExt kind value s).life = s.life := by simp [orderExt]

@[simp] theorem orderTicket_life (lane rid seq : Nat) (s : Mach) :
    (orderTicket lane rid seq s).life = s.life := by simp [orderTicket]

@[simp] theorem sendCell_life (kind count : Nat) (payload : List Byte) (s : Mach) :
    (sendCell kind count payload s).life = s.life := rfl

@[simp] theorem flushWords_life (all : Bool) (fuel : Nat) (s : Mach) : (flushWords all fuel s).life = s.life := by
  induction fuel generalizing s with
  | zero => rfl
  | succ fuel ih => simp [flushWords, ih]

@[simp] theorem flushOrder_life (all : Bool) (fuel : Nat) (s : Mach) :
    (flushOrder all fuel s).life = s.life := by simp [flushOrder]

@[simp] theorem sendBulkAt_life (id fuel off : Nat) (l : List Byte) (s : Mach) :
    (sendBulkAt id fuel off l s).life = s.life := by
  induction fuel generalizing off l s with
  | zero => rfl
  | succ fuel ih => simp [sendBulkAt, ih]

@[simp] theorem sendResync_life (stage reason : Nat) (s : Mach) : (sendResync stage reason s).life = s.life := rfl

@[simp] theorem openBulk_life (kind len : Nat) (s : Mach) : (openBulk kind len s).2.life = s.life := rfl

@[simp] theorem putBulk_life (id off : Nat) (l : List Byte) (s : Mach) :
    (putBulk id off l s).life = s.life := by simp [putBulk]

@[simp] theorem sendBulk_life (kind : Nat) (l : List Byte) (s : Mach) :
    (sendBulk kind l s).2.life = s.life := by simp [sendBulk]

end Sys2Proof.Machine
end

section
/-! PROOFS. The fuses (R381) under every operation of
the arbiter and the storage converter (chapters 4 and 5). -/

namespace Sys2Proof.Machine

/-! ### The Headroom Arbiter -/

@[simp] theorem notePrior_life (s : Mach) : (notePrior s).life = s.life := by simp [notePrior]

@[simp] theorem noteG_life (lane : Bool) (lo hi : Nat) (dp : Int) (s : Mach) :
    (noteG lane lo hi dp s).life = s.life := rfl

@[simp] theorem closeBundle_life (b : OpenBundle) (s : Mach) : (closeBundle b s).life = s.life := by simp [closeBundle]

@[simp] theorem groupLess_life (g : Option Nat) (s : Mach) : (groupLess g s).life = s.life := by
  simp only [groupLess]
  repeat' split
  all_goals simp

@[simp] theorem decided_life (a : Answer) (s : Mach) : (decided a s).life = s.life := rfl

@[simp] theorem queueAnswer_life (a : Answer) (group : Option Nat) (s : Mach) :
    (queueAnswer a group s).life = s.life := by
  simp only [queueAnswer]
  repeat' split
  all_goals simp

@[simp] theorem addAnswer_life (a : Answer) (group : Option Nat) (s : Mach) :
    (addAnswer a group s).life = s.life := by simp [addAnswer]

@[simp] theorem answer_life (kind reason rid : Nat) (x : Slot) (bin span : Nat) (o : Option TicketRef) (s : Mach) :
    (answer kind reason rid x bin span o s).life = s.life := by simp [answer]

@[simp] theorem putSlot_life (rid : Nat) (x : Slot) (s : Mach) : (putSlot rid x s).life = s.life := rfl

@[simp] theorem dropSlot_life (rid seq : Nat) (s : Mach) : (dropSlot rid seq s).life = s.life := rfl

@[simp] theorem noteSiding_life (s : Mach) : (noteSiding s).life = s.life := by simp [noteSiding]

@[simp] theorem sidingMove_life (rid : Nat) (s : Mach) : (sidingMove rid s).life = s.life := by
  simp only [sidingMove]
  repeat' split
  all_goals simp

@[simp] theorem noteWait_life (rid : Nat) (x : Slot) (s : Mach) : (noteWait rid x s).life = s.life := by simp [noteWait]

@[simp] theorem markReady_life (s : Mach) : (markReady s).life = s.life := rfl

@[simp] theorem dropFf_life (rid : Nat) (x : Slot) (s : Mach) : (dropFf rid x s).life = s.life := rfl

@[simp] theorem endFf_life (rid : Nat) (x : Slot) (e : FfEnd) (s : Mach) : (endFf rid x e s).life = s.life := rfl

@[simp] theorem keepTail_life (rid : Nat) (x : Slot) (s : Mach) : (keepTail rid x s).life = s.life := by simp [keepTail]

@[simp] theorem voidSlot_life (rid : Nat) (x : Slot) (reason bin : Nat) (o : Option TicketRef) (s : Mach) :
    (voidSlot rid x reason bin o s).life = s.life := by simp [voidSlot]

@[simp] theorem noteOver_life (b : Nat) (s : Mach) : (noteOver b s).life = s.life := by
  rw [noteOver, life_ite, setObj_life, ite_self]

@[simp] theorem reserveCheck_fuses (lane b : Nat) (s : Mach) :
    (reserveCheck lane b s).life.fuses = s.life.fuses := by simp [reserveCheck]

@[simp] theorem goLive_life (lane : Bool) (rid : Nat) (x : Slot) (b span : Nat) (s : Mach) :
    (goLive lane rid x b span s).life = s.life := by simp [goLive]

@[simp] theorem grant_life (lane : Bool) (rid : Nat) (x : Slot) (b : Nat) (s : Mach) :
    (grant lane rid x b s).life = s.life := by simp [grant]

@[simp] theorem park_life (rid : Nat) (x : Slot) (reason : Nat) (s : Mach) :
    (park rid x reason s).life = s.life := by simp [park]

@[simp] theorem handOver_life (rid : Nat) (x : Slot) (s : Mach) : (handOver rid x s).life = s.life := rfl

@[simp] theorem decideRequest_fuses (rid seq : Nat) (s : Mach) :
    (decideRequest rid seq s).life.fuses = s.life.fuses := by
  simp only [decideRequest]
  split <;> simp

@[simp] theorem offer_fuses (lane rid : Nat) (x : Slot) (s : Mach) :
    (offer lane rid x s).life.fuses = s.life.fuses := by simp [offer]

@[simp] theorem revoke_life (rid : Nat) (x : Slot) (reason rb : Nat) (frame : Bool) (s : Mach) :
    (revoke rid x reason rb frame s).life = s.life := by simp [revoke]

@[simp] theorem preempt_fuses (rid seq : Nat) (s : Mach) : (preempt rid seq s).life.fuses = s.life.fuses := by
  simp only [preempt]
  split <;> simp

@[simp] theorem fallBy_life (f : Int) (reason : Nat) (s : Mach) : (fallBy f reason s).life = s.life := by simp [fallBy]

@[simp] theorem withSupply_life (reason : Nat) (f : Mach → Mach) (s : Mach) :
    (withSupply reason f s).life = (f (notePrior s)).life := by
  simp [withSupply]

@[simp] theorem fallTask_life (t : FallTask) (s : Mach) : (fallTask t s).life = s.life := by simp [fallTask]

@[simp] theorem dropGrants_life (t : Nat) (s : Mach) : (dropGrants t s).life = s.life := rfl

@[simp] theorem queueBrake_life (a : Answer) (s : Mach) : (queueBrake a s).life = s.life := by simp [queueBrake]

@[simp] theorem brake_life (t reason : Nat) (s : Mach) : (brake t reason s).life = s.life := by simp [brake]

@[simp] theorem forgetSeq_life (t : Nat) (s : Mach) : (forgetSeq t s).life = s.life := rfl

@[simp] theorem forgetAllSeq_life (s : Mach) : (forgetAllSeq s).life = s.life := rfl

@[simp] theorem flushTray_life (t : Nat) (s : Mach) : (flushTray t s).life = s.life := by simp [flushTray]

/-! ### The storage converter -/

@[simp] theorem toWorking_life (p : Nat) (s : Mach) : (toWorking p s).life = s.life := rfl

@[simp] theorem phasesTrack_life (s : Mach) : (phasesTrack s).life = s.life := by simp [phasesTrack]

@[simp] theorem restore_life (p : Nat) (s : Mach) : (restore p s).life = s.life := by simp [restore]

@[simp] theorem assignCards_life (s : Mach) : (assignCards s).life = s.life := by simp [assignCards]

@[simp] theorem creditStart_life (s : Mach) : (creditStart s).life = s.life := by simp [creditStart]

@[simp] theorem converterTrack_life (s : Mach) : (converterTrack s).life = s.life := by simp [converterTrack]

@[simp] theorem trackAgain_life (s : Mach) : (trackAgain s).life = s.life := by simp [trackAgain]

@[simp] theorem refreshSpares_fuses (s : Mach) : (refreshSpares s).life.fuses = s.life.fuses := by simp [refreshSpares]

@[simp] theorem refreshCardLink_fuses (c : Nat) (s : Mach) :
    (refreshCardLink c s).life.fuses = s.life.fuses := by simp [refreshCardLink]

@[simp] theorem chooseSpare_life (c : Nat) (s : Mach) : (chooseSpare c s).life = s.life := by
  simp only [chooseSpare]
  repeat' split
  all_goals simp

@[simp] theorem fillShort_fuses (s : Mach) : (fillShort s).life.fuses = s.life.fuses := by simp [fillShort]

@[simp] theorem removeCard_fuses (c bits : Nat) (s : Mach) : (removeCard c bits s).life.fuses = s.life.fuses := by
  simp only [removeCard]
  split <;> simp

@[simp] theorem spareEntry_life (s : Mach) : (spareEntry s).life = s.life := by
  refine each_life (fun i s => ?_) _ _
  dsimp only
  split <;> simp

@[simp] theorem readmitCard_fuses (c : Nat) (s : Mach) :
    (readmitCard c s).life.fuses = s.life.fuses := by simp [readmitCard]

@[simp] theorem pruneFf_life (f0 : Nat) (s : Mach) : (pruneFf f0 s).life = s.life := rfl

@[simp] theorem bankDuties_life (deep : Bool) (iCmd g : Int) (s : Mach) :
    (bankDuties deep iCmd g s).1.life = s.life := by
  unfold bankDuties
  refine foldl_fst_life (fun a q => ?_) _ _
  dsimp only
  split <;> rfl

@[simp] theorem frameLoud_life (loud : Bool) (s : Mach) : (frameLoud loud s).life = s.life := by simp [frameLoud]

@[simp] theorem wake_life (p : Nat) (s : Mach) : (wake p s).life = s.life := by simp [wake]

@[simp] theorem diodeExit_life (p : Nat) (s : Mach) : (diodeExit p s).life = s.life := by simp [diodeExit]

@[simp] theorem restoreBank_life (deep shed : Bool) (s : Mach) :
    (restoreBank deep shed s).life = s.life := by simp [restoreBank]

@[simp] theorem loadStep_life (deep : Bool) (s : Mach) : (loadStep deep s).life = s.life := by simp [loadStep]

@[simp] theorem dwellBank_life (deep shed step : Bool) (s : Mach) :
    (dwellBank deep shed step s).life = s.life := by simp [dwellBank]

@[simp] theorem creditBank_life (deep : Bool) (len : Nat) (s : Mach) :
    (creditBank deep len s).life = s.life := by simp [creditBank]

@[simp] theorem brakePhases_life (deep : Bool) (iCmd : Int) (s : Mach) :
    (brakePhases deep iCmd s).life = s.life := by simp [brakePhases]

@[simp] theorem uncountFrame_life (s : Mach) : (uncountFrame s).life = s.life := by
  unfold uncountFrame
  split
  · rfl
  · exact (each_life (fun c s => life_withCtr _ s) _ _).trans (life_withCnv _ s)

@[simp] theorem fireStart_fuses (t : Nat) (s : Mach) : (fireStart t s).life.fuses = s.life.fuses := by simp [fireStart]

@[simp] theorem preload_life (s : Mach) : (preload s).life = s.life := rfl

@[simp] theorem fireResume_life (s : Mach) : (fireResume s).life = s.life := by simp [fireResume]

@[simp] theorem bankLaw_life (deep : Bool) (sh e : Int) (s : Mach) : (bankLaw deep sh e s).life = s.life := rfl

@[simp] theorem followOther_life (deep : Bool) (s : Mach) : (followOther deep s).life = s.life := rfl

@[simp] theorem calSample_life (s : Mach) : (calSample s).life = s.life := rfl

@[simp] theorem phasesMissing_life (s : Mach) : (phasesMissing s).life = s.life := by simp [phasesMissing]

@[simp] theorem samplesBack_life (s : Mach) : (samplesBack s).life = s.life := by simp [samplesBack]

@[simp] theorem busValue_life (s : Mach) : (busValue s).life = s.life := by simp [busValue]

@[simp] theorem bankLaws_life (f e : Int) (s : Mach) : (bankLaws f e s).life = s.life := by simp [bankLaws]

@[simp] theorem phaseMoves_life (shed : Bool) (s : Mach) : (phaseMoves shed s).life = s.life := by simp [phaseMoves]

@[simp] theorem regulate_fuses (f0 r : Nat) (s : Mach) : (regulate f0 r s).life.fuses = s.life.fuses := by
  simp [regulate]

@[simp] theorem restFrame_life (s : Mach) : (restFrame s).life = s.life := by simp [restFrame]

end Sys2Proof.Machine
end

section
/-! PROOFS. The fuses (R381) under every operation of
the banks, the grid side, the feeders and the detectors (chapters 9 and 10). -/

namespace Sys2Proof.Machine

/-! ### Banks and charge estimation -/

@[simp] theorem keepReports_life (f : Mach → Mach) (s : Mach) : (keepReports f s).life = (f s).life := by
  simp [keepReports]

@[simp] theorem slewReports_life (s : Mach) : (slewReports s).life = s.life := by simp [slewReports]

@[simp] theorem lifeSample_life (u : Nat) (v : Int) (s : Mach) : (lifeSample u v s).life = s.life := rfl

@[simp] theorem keepWinner_life (u : Nat) (old : Bool) (s : Mach) :
    (keepWinner u old s).life = s.life := by simp [keepWinner]

@[simp] theorem publishEnergy_life (s : Mach) : (publishEnergy s).life = s.life := life_withBnk _ s

@[simp] theorem firstSample_life (u : Nat) (v : Int) (s : Mach) : (firstSample u v s).life = s.life := rfl

@[simp] theorem modelSample_life (u : Nat) (v : Int) (s : Mach) :
    (modelSample u v s).life = s.life := by simp [modelSample]

@[simp] theorem heldSample_life (u : Nat) (s : Mach) : (heldSample u s).life = s.life := rfl

@[simp] theorem refreshBankFast_fuses (s : Mach) :
    (refreshBankFast s).life.fuses = s.life.fuses := by simp [refreshBankFast]

@[simp] theorem taperRuns_life (u : Nat) (s : Mach) : (taperRuns u s).life = s.life := by simp [taperRuns]

@[simp] theorem estimatorSample_fuses (u : Nat) (s : Mach) :
    (estimatorSample u s).life.fuses = s.life.fuses := by simp [estimatorSample]

@[simp] theorem refreshStarved_fuses (s : Mach) :
    (refreshStarved s).life.fuses = s.life.fuses := by simp [refreshStarved]

@[simp] theorem restTaken_fuses (u : Nat) (s : Mach) : (restTaken u s).life.fuses = s.life.fuses := by simp [restTaken]

@[simp] theorem takeRest_fuses (u : Nat) (qRest qRef : Int) (s : Mach) :
    (takeRest u qRest qRef s).life.fuses = s.life.fuses := by simp [takeRest]

@[simp] theorem noteLink_life (s : Mach) : (noteLink s).life = s.life := rfl

@[simp] theorem noteLinkAnew_life (s : Mach) : (noteLinkAnew s).life = s.life := rfl

@[simp] theorem restBin_fuses (r : Nat) (s : Mach) : (restBin r s).life.fuses = s.life.fuses := by
  simp only [restBin]
  repeat' split
  all_goals simp

@[simp] theorem declare_fuses (u : Nat) (full : Bool) (s : Mach) :
    (declare u full s).life.fuses = s.life.fuses := by simp [declare]

@[simp] theorem quasiRest_fuses (periodic0 : Bool) (u : Nat) (s : Mach) :
    (quasiRest periodic0 u s).life.fuses = s.life.fuses := by
  simp only [quasiRest]
  split <;> simp

@[simp] theorem refreshBankDeep_fuses (src : Nat) (s : Mach) :
    (refreshBankDeep src s).life.fuses = s.life.fuses := by simp [refreshBankDeep]

@[simp] theorem refreshCanBms_fuses (src : Nat) (s : Mach) :
    (refreshCanBms src s).life.fuses = s.life.fuses := by simp [refreshCanBms]

@[simp] theorem prechargeCheck_life (s : Mach) : (prechargeCheck s).life = s.life := by simp [prechargeCheck]

@[simp] theorem sumRound_life (k : Nat) (s : Mach) : (sumRound k s).life = s.life := by simp [sumRound]

@[simp] theorem monitorFrame_fuses (k m f : Nat) (s : Mach) :
    (monitorFrame k m f s).life.fuses = s.life.fuses := by simp [monitorFrame]

@[simp] theorem sequenceDone_life (c : Nat) (s : Mach) : (sequenceDone c s).life = s.life := rfl

@[simp] theorem calEstimateOf_life (c : Nat) (s : Mach) : (calEstimateOf c s).life = s.life := by simp [calEstimateOf]

@[simp] theorem applyCal_life (s : Mach) : (applyCal s).life = s.life := by
  refine each_life (fun u s => ?_) _ _
  dsimp only
  split <;> simp

@[simp] theorem lifeFold_life (u : Nat) (s : Mach) : (lifeFold u s).life = s.life := rfl

@[simp] theorem cmdEstimatorSample_fuses (u : Nat) (s : Mach) :
    (cmdEstimatorSample u s).life.fuses = s.life.fuses := by simp [cmdEstimatorSample]

@[simp] theorem cmdTaperDeclaration_fuses (u : Nat) (s : Mach) :
    (cmdTaperDeclaration u s).life.fuses = s.life.fuses := by
  simp only [cmdTaperDeclaration]
  split <;> simp

@[simp] theorem cmdRestRequest_life (deep : Bool) (s : Mach) :
    (cmdRestRequest deep s).life = s.life := by simp [cmdRestRequest]

@[simp] theorem cmdRestRequestOverdue_fuses (deep : Bool) (s : Mach) :
    (cmdRestRequestOverdue deep s).life.fuses = s.life.fuses := by simp [cmdRestRequestOverdue]

@[simp] theorem cmdReportSlew_life (s : Mach) : (cmdReportSlew s).life = s.life := by simp [cmdReportSlew]

@[simp] theorem cmdLifetimeUpdate_life (s : Mach) : (cmdLifetimeUpdate s).life = s.life := by simp [cmdLifetimeUpdate]

@[simp] theorem cmdMonitorTimeout_fuses (k m : Nat) (s : Mach) :
    (cmdMonitorTimeout k m s).life.fuses = s.life.fuses := by simp [cmdMonitorTimeout]

@[simp] theorem cmdStringTimeout_fuses (k : Nat) (s : Mach) :
    (cmdStringTimeout k s).life.fuses = s.life.fuses := by simp [cmdStringTimeout]

@[simp] theorem cmdCalOffset_life (p : Nat) (s : Mach) : (cmdCalOffset p s).life = s.life := by simp [cmdCalOffset]

@[simp] theorem cmdCalSequenceComplete_fuses (c : Nat) (s : Mach) :
    (cmdCalSequenceComplete c s).life.fuses = s.life.fuses := by simp [cmdCalSequenceComplete]

@[simp] theorem cmdCalEstimate_life (c : Nat) (s : Mach) :
    (cmdCalEstimate c s).life = s.life := by simp [cmdCalEstimate]

@[simp] theorem cmdCalibrationStarved_fuses (s : Mach) :
    (cmdCalibrationStarved s).life.fuses = s.life.fuses := by simp [cmdCalibrationStarved]

/-! ### The grid side -/

@[simp] theorem oweFrames_life (s : Mach) : (oweFrames s).life = s.life := by
  simp only [oweFrames]
  repeat' split
  all_goals simp

@[simp] theorem recap_life (reason : Nat) (s : Mach) : (recap reason s).life = s.life := by simp [recap]

@[simp] theorem refreshFeed_fuses (f : Nat) (s : Mach) :
    (refreshFeed f s).life.fuses = s.life.fuses := by simp [refreshFeed]

@[simp] theorem refreshCanRect_fuses (src : Nat) (s : Mach) :
    (refreshCanRect src s).life.fuses = s.life.fuses := by simp [refreshCanRect]

@[simp] theorem healthChanged_fuses (f : Nat) (s : Mach) :
    (healthChanged f s).life.fuses = s.life.fuses := by simp [healthChanged]

@[simp] theorem rectDown_fuses (r : Nat) (bad : Bool) (s : Mach) :
    (rectDown r bad s).life.fuses = s.life.fuses := by simp [rectDown]

@[simp] theorem rectUp_fuses (r : Nat) (s : Mach) : (rectUp r s).life.fuses = s.life.fuses := by simp [rectUp]

@[simp] theorem transferCheck_life (s : Mach) : (transferCheck s).life = s.life := by
  simp only [transferCheck]
  split <;> simp

@[simp] theorem rectStatus_fuses (r f : Nat) (s : Mach) :
    (rectStatus r f s).life.fuses = s.life.fuses := by simp [rectStatus]

@[simp] theorem moveBusRef_life (s : Mach) : (moveBusRef s).life = s.life := rfl

@[simp] theorem cmdRectCommandFrame_life (f : Nat) (s : Mach) :
    (cmdRectCommandFrame f s).life = s.life := by simp [cmdRectCommandFrame]

@[simp] theorem cmdRectTimeout_fuses (r : Nat) (s : Mach) :
    (cmdRectTimeout r s).life.fuses = s.life.fuses := by simp [cmdRectTimeout]

@[simp] theorem cmdRectModeEchoCheck_fuses (r : Nat) (s : Mach) :
    (cmdRectModeEchoCheck r s).life.fuses = s.life.fuses := by simp [cmdRectModeEchoCheck]

@[simp] theorem cmdRectAlarm_fuses (r : Nat) (low : Bool) (s : Mach) :
    (cmdRectAlarm r low s).life.fuses = s.life.fuses := by simp [cmdRectAlarm]

@[simp] theorem rectReadmitWrite_life (v : Nat) (s : Mach) :
    (rectReadmitWrite v s).life = s.life := by simp [rectReadmitWrite]

@[simp] theorem cmdRectReadmitComplete_fuses (r : Nat) (s : Mach) :
    (cmdRectReadmitComplete r s).life.fuses = s.life.fuses := by
  simp only [cmdRectReadmitComplete]
  split <;> simp

@[simp] theorem cmdFeedPresent_fuses (f : Nat) (s : Mach) : (cmdFeedPresent f s).life.fuses = s.life.fuses := by
  simp only [cmdFeedPresent]
  split <;> simp

@[simp] theorem brakeAll_life (reason : Nat) (s : Mach) : (brakeAll reason s).life = s.life := by simp [brakeAll]

@[simp] theorem enterRideThrough_life (lost : Nat) (s : Mach) :
    (enterRideThrough lost s).life = s.life := by simp [enterRideThrough]

@[simp] theorem cmdFeedLoss_fuses (f : Nat) (s : Mach) :
    (cmdFeedLoss f s).life.fuses = s.life.fuses := by simp [cmdFeedLoss]

@[simp] theorem startTransfer_life (f : Nat) (s : Mach) : (startTransfer f s).life = s.life := by simp [startTransfer]

@[simp] theorem cmdTransferTimeout_life (s : Mach) : (cmdTransferTimeout s).life = s.life := by
  simp only [cmdTransferTimeout]
  split <;> simp

@[simp] theorem cmdTransferRampEnd_life (s : Mach) : (cmdTransferRampEnd s).life = s.life := by
  simp only [cmdTransferRampEnd]
  split <;> simp

@[simp] theorem rideThroughEnd_life (s : Mach) : (rideThroughEnd s).life = s.life := by
  simp only [rideThroughEnd]
  split <;> simp

@[simp] theorem takeCap_life (s : Mach) : (takeCap s).life = s.life := by simp [takeCap]

@[simp] theorem deficitCheck_fuses (s : Mach) : (deficitCheck s).life.fuses = s.life.fuses := by simp [deficitCheck]

@[simp] theorem cmdCanBusError_fuses (bus : Nat) (s : Mach) :
    (cmdCanBusError bus s).life.fuses = s.life.fuses := by simp [cmdCanBusError]

@[simp] theorem cmdCanBusRecovery_fuses (bus : Nat) (s : Mach) :
    (cmdCanBusRecovery bus s).life.fuses = s.life.fuses := by simp [cmdCanBusRecovery]

/-! ### Feeders and the start and stop sequences -/

@[simp] theorem refreshSideband_fuses (src : Nat) (s : Mach) :
    (refreshSideband src s).life.fuses = s.life.fuses := by simp [refreshSideband]

@[simp] theorem refreshMismatch_fuses (src : Nat) (s : Mach) :
    (refreshMismatch src s).life.fuses = s.life.fuses := by simp [refreshMismatch]

@[simp] theorem setCstState_fuses (t x : Nat) (s : Mach) : (setCstState t x s).life.fuses = s.life.fuses := by
  have set_aside : (setCst t (cstWithState (cst t s) x) s).life = s.life := setCst_life ..
  simp only [setCstState]
  split <;> rw [refreshMismatch_fuses, set_aside]

@[simp] theorem startRead_life (t : Nat) (s : Mach) : (startRead t s).life = s.life := by simp [startRead]

@[simp] theorem startVerify_life (s : Mach) : (startVerify s).life = s.life := by simp [startVerify]

@[simp] theorem openFeeder_life (t ramp : Nat) (s : Mach) : (openFeeder t ramp s).life = s.life := rfl

@[simp] theorem wantClose_life (t at_ : Nat) (s : Mach) : (wantClose t at_ s).life = s.life := rfl

@[simp] theorem prechargeEnd_life (s : Mach) : (prechargeEnd s).life = s.life := by simp [prechargeEnd]

@[simp] theorem enterStop_fuses (s : Mach) : (enterStop s).life.fuses = s.life.fuses := by simp [enterStop]

@[simp] theorem selectFeed_fuses (s : Mach) : (selectFeed s).life.fuses = s.life.fuses := by
  simp only [selectFeed]
  split <;> simp

@[simp] theorem seqAdvance_fuses (s : Mach) : (seqAdvance s).life.fuses = s.life.fuses := by
  simp only [seqAdvance]
  split <;> simp

@[simp] theorem enterStart_fuses (s : Mach) : (enterStart s).life.fuses = s.life.fuses := by simp [enterStart]

@[simp] theorem startDiscovery_life (s : Mach) : (startDiscovery s).life = s.life := rfl

@[simp] theorem enterVerify_fuses (s : Mach) : (enterVerify s).life.fuses = s.life.fuses := by simp [enterVerify]

@[simp] theorem stopRequested_fuses (s : Mach) : (stopRequested s).1.life.fuses = s.life.fuses := by
  simp only [stopRequested]
  repeat' split
  all_goals simp

@[simp] theorem rtStopCheck_fuses (s : Mach) : (rtStopCheck s).life.fuses = s.life.fuses := by simp [rtStopCheck]

@[simp] theorem cmdBusRampStart_life (s : Mach) : (cmdBusRampStart s).life = s.life := by
  simp only [cmdBusRampStart]
  split <;> simp

@[simp] theorem cmdBusRampEnd_life (s : Mach) : (cmdBusRampEnd s).life = s.life := by
  simp only [cmdBusRampEnd]
  split <;> simp

@[simp] theorem cmdPrechargeTimeout_fuses (s : Mach) :
    (cmdPrechargeTimeout s).life.fuses = s.life.fuses := by simp [cmdPrechargeTimeout]

@[simp] theorem cmdCnvRegulateEntry_fuses (s : Mach) : (cmdCnvRegulateEntry s).life.fuses = s.life.fuses := by
  simp only [cmdCnvRegulateEntry]
  repeat' split
  all_goals simp

@[simp] theorem cmdPrivilegedOnDelay_life (t : Nat) (s : Mach) :
    (cmdPrivilegedOnDelay t s).life = s.life := by simp [cmdPrivilegedOnDelay]

@[simp] theorem cmdFeederCloseStart_life (t : Nat) (s : Mach) :
    (cmdFeederCloseStart t s).life = s.life := by simp [cmdFeederCloseStart]

@[simp] theorem cmdFeederCloseTimeout_fuses (t : Nat) (s : Mach) :
    (cmdFeederCloseTimeout t s).life.fuses = s.life.fuses := by
  simp only [cmdFeederCloseTimeout]
  split <;> simp

@[simp] theorem cmdRunEntry_fuses (s : Mach) : (cmdRunEntry s).life.fuses = s.life.fuses := by simp [cmdRunEntry]

@[simp] theorem cmdOrdinaryFeederOff_fuses (t : Nat) (s : Mach) :
    (cmdOrdinaryFeederOff t s).life.fuses = s.life.fuses := by simp [cmdOrdinaryFeederOff]

@[simp] theorem cmdPrivilegedOffDelay_life (t : Nat) (s : Mach) :
    (cmdPrivilegedOffDelay t s).life = s.life := by simp [cmdPrivilegedOffDelay]

@[simp] theorem cmdBusRampDown_life (s : Mach) : (cmdBusRampDown s).life = s.life := by
  simp only [cmdBusRampDown]
  repeat' split
  all_goals simp

@[simp] theorem trackOffCheck_life (s : Mach) : (trackOffCheck s).life = s.life := by
  simp only [trackOffCheck]
  repeat' split
  all_goals simp

@[simp] theorem cmdFeederDownlink_life (s : Mach) : (cmdFeederDownlink s).life = s.life := by simp [cmdFeederDownlink]

@[simp] theorem trayPulled_fuses (t : Nat) (s : Mach) :
    (trayPulled t s).life.fuses = s.life.fuses := by simp [trayPulled]

@[simp] theorem cmdFeederUplink_fuses (t f : Nat) (s : Mach) :
    (cmdFeederUplink t f s).life.fuses = s.life.fuses := by simp [cmdFeederUplink]

@[simp] theorem cmdFeederLinkLoss_fuses (t : Nat) (s : Mach) :
    (cmdFeederLinkLoss t s).life.fuses = s.life.fuses := by simp [cmdFeederLinkLoss]

@[simp] theorem cmdIdentityReadComplete_fuses (t : Nat) (r : Option Nat) (s : Mach) :
    (cmdIdentityReadComplete t r s).life.fuses = s.life.fuses := by
  simp only [cmdIdentityReadComplete]
  repeat' split
  all_goals simp

@[simp] theorem reverify_life (v : Nat) (s : Mach) : (reverify v s).life = s.life := by simp [reverify]

@[simp] theorem openRequested_life (v : Nat) (s : Mach) : (openRequested v s).life = s.life := by simp [openRequested]

@[simp] theorem cmdFeederOpenAfterBrake_life (t : Nat) (s : Mach) : (cmdFeederOpenAfterBrake t s).life = s.life := by
  simp only [cmdFeederOpenAfterBrake]
  split <;> simp

@[simp] theorem closeRequested_life (v : Nat) (s : Mach) :
    (closeRequested v s).life = s.life := by simp [closeRequested]

@[simp] theorem cmdHotInsert_life (t : Nat) (s : Mach) : (cmdHotInsert t s).life = s.life := by simp [cmdHotInsert]

@[simp] theorem overrideCommitted_life (t : Nat) (s : Mach) :
    (overrideCommitted t s).life = s.life := by simp [overrideCommitted]

/-! ### Sense-link detectors -/

@[simp] theorem refreshSenseLink_fuses (s : Mach) :
    (refreshSenseLink s).life.fuses = s.life.fuses := by simp [refreshSenseLink]

@[simp] theorem channelSample_life (c : Nat) (code : Option Nat) (s : Mach) :
    (channelSample c code s).life = s.life := by
  simp only [channelSample]
  split <;> simp

@[simp] theorem pairCheck_life (i : Nat) (a b : Option Int) (tol : Nat) (s : Mach) :
    (pairCheck i a b tol s).life = s.life := rfl

@[simp] theorem busDetectors_fuses (mv : Int) (s : Mach) :
    (busDetectors mv s).life.fuses = s.life.fuses := by simp [busDetectors]

@[simp] theorem fireTrigger_fuses (s : Mach) : (fireTrigger s).life.fuses = s.life.fuses := by simp [fireTrigger]

@[simp] theorem busSample_fuses (mv : Option Int) (s : Mach) : (busSample mv s).life.fuses = s.life.fuses := by
  simp only [busSample]
  split <;> simp

@[simp] theorem bankSample_fuses (deep : Bool) (mv : Option Int) (s : Mach) :
    (bankSample deep mv s).life.fuses = s.life.fuses := by
  simp only [bankSample]
  split <;> simp

@[simp] theorem feedSample_life (f : Nat) (env amps : Option Nat) (s : Mach) :
    (feedSample f env amps s).life = s.life := rfl

@[simp] theorem senseSet_fuses (l : List (Option Nat)) (s : Mach) :
    (senseSet l s).life.fuses = s.life.fuses := by simp [senseSet]

@[simp] theorem cmdSenseFrame_fuses (f : Nat) (s : Mach) :
    (cmdSenseFrame f s).life.fuses = s.life.fuses := by simp [cmdSenseFrame]

@[simp] theorem cmdSenseTimeout_fuses (c : Nat) (s : Mach) :
    (cmdSenseTimeout c s).life.fuses = s.life.fuses := by simp [cmdSenseTimeout]

end Sys2Proof.Machine
end

section
/-! PROOFS. The fuses (R381) under every operation of
the timetable, the tracker and the Long Record (chapters 2, 6 and 7). -/

namespace Sys2Proof.Machine

/-! ### Timetable pages and the signature table -/

@[simp] theorem acceptPage_life (s : Mach) : (acceptPage s).life = s.life := rfl

@[simp] theorem refusePage_fuses (code r : Nat) (s : Mach) :
    (refusePage code r s).life.fuses = s.life.fuses := by simp [refusePage]

@[simp] theorem pageAtWrap_fuses (n0 w0 : Nat) (rebin : Bool) (s : Mach) :
    (pageAtWrap n0 w0 rebin s).life.fuses = s.life.fuses := by simp [pageAtWrap]

@[simp] theorem cmdShadowCopyComplete_life (s : Mach) :
    (cmdShadowCopyComplete s).life = s.life := by simp [cmdShadowCopyComplete]

@[simp] theorem liveRowLost_life (b : Nat) (s : Mach) : (liveRowLost b s).life = s.life := by simp [liveRowLost]

@[simp] theorem excursionRun_life (b : Nat) (s : Mach) : (excursionRun b s).life = s.life := rfl

@[simp] theorem excursionAct_life (s : Mach) : (excursionAct s).life = s.life := by simp [excursionAct]

@[simp] theorem sigBinEnd_life (b : Nat) (s : Mach) : (sigBinEnd b s).life = s.life := by simp [sigBinEnd]

@[simp] theorem sigForget_life (s : Mach) : (sigForget s).life = s.life := rfl

/-! ### The Step Phase Tracker -/

@[simp] theorem aggSample_life (s : Mach) : (aggSample s).life = s.life := rfl

@[simp] theorem unlocked_fuses (s : Mach) : (unlocked s).life.fuses = s.life.fuses := by simp [unlocked]

@[simp] theorem cmdTrkSearchLimit_fuses (s : Mach) :
    (cmdTrkSearchLimit s).life.fuses = s.life.fuses := by simp [cmdTrkSearchLimit]

/-! ### The Long Record -/

@[simp] theorem lrRecord_life (c : Nat) (x : Int) (s : Mach) : (lrRecord c x s).life = s.life := setLrChan_life ..

@[simp] theorem lrSplit_life (s : Mach) : (lrSplit s).life = s.life := by simp [lrSplit]

@[simp] theorem cmdLongRecordBlockClose_life (c : Nat) (s : Mach) :
    (cmdLongRecordBlockClose c s).life = s.life := by simp [cmdLongRecordBlockClose]

@[simp] theorem lrSamplePeriod_life (nth : Nat) (s : Mach) : (lrSamplePeriod nth s).life = s.life := by
  -- the named intermediate modules keep the chain of records from being written out again at each of them
  delta lrSamplePeriod
  extract_lets phases feeders load draw fast deep grants corr held base quarter
  have phases_life : phases.life = s.life := each_life (fun p s => lrRecord_life ..) _ _
  have feeders_life : feeders.life = phases.life := each_life (fun t s => lrRecord_life ..) _ _
  have recorded : quarter.life = s.life := by
    simp only [quarter, base, held, corr, grants, deep, fast, draw, load, lrRecord_life, feeders_life, phases_life]
  split
  · simp only [lrRecord_life, recorded]
  · exact recorded

@[simp] theorem lrSense_life (samples : Nat → Nat) (s : Mach) : (lrSense samples s).life = s.life := by simp [lrSense]

end Sys2Proof.Machine
end

section
/-! PROOFS. The fuses (R381) under every operation of
the Forecast Engine and the loader (chapters 6 to 8). -/

namespace Sys2Proof.Machine

/-! ### Coaches and memory -/

@[simp] theorem countCarts_life (s : Mach) : (countCarts s).life = s.life := rfl

@[simp] theorem restoreGranule_life (g : Nat) (s : Mach) :
    (restoreGranule g s).life = s.life := by simp [restoreGranule]

@[simp] theorem putDepot_life (line : Nat) (l : List DepotLine) (s : Mach) : (putDepot line l s).life = s.life := rfl

@[simp] theorem writeBack_life (x : DepotLine) (s : Mach) : (writeBack x s).life = s.life := by simp [writeBack]

@[simp] theorem depotTouch_life (line : Nat) (s : Mach) : (depotTouch line s).life = s.life := by
  simp only [depotTouch]
  repeat' split
  all_goals simp

@[simp] theorem depotFill_life (bypass : Bool) (line : Nat) (s : Mach) :
    (depotFill bypass line s).life = s.life := by simp [depotFill]

@[simp] theorem depotDrop_life (lo hi : Nat) (s : Mach) : (depotDrop lo hi s).life = s.life := rfl

@[simp] theorem hbmWrite_life (bypass : Bool) (a : Nat) (b : Byte) (s : Mach) :
    (hbmWrite bypass a b s).life = s.life := by
  simp only [hbmWrite]
  split <;> simp

@[simp] theorem hbmPut_life (bypass : Bool) (a : Nat) (l : List Byte) (s : Mach) :
    (hbmPut bypass a l s).life = s.life := by
  induction l generalizing a s with
  | nil => rfl
  | cons b l ih => simp [hbmPut, ih]

@[simp] theorem sramPut_life (c o : Nat) (l : List Byte) (s : Mach) : (sramPut c o l s).life = s.life := rfl

@[simp] theorem sramLose_life (c w : Nat) (s : Mach) : (sramLose c w s).life = s.life := rfl

@[simp] theorem placeImages_life (only : Bool) (s : Mach) : (placeImages only s).life = s.life := by
  refine each_life (fun i s => ?_) _ _
  split <;> simp

@[simp] theorem engOp_life (c : Nat) (op : EngOp) (s : Mach) : (engOp c op s).life = s.life := by
  simp only [engOp]
  repeat' split
  all_goals simp

/-! ### The Forecast Engine -/

@[simp] theorem forwardCorr_life (kind : Nat) (c : Int) (s : Mach) :
    (forwardCorr kind c s).life = s.life := by simp [forwardCorr]

@[simp] theorem limitNow_life (s : Mach) : (limitNow s).life = s.life := rfl

@[simp] theorem limitCorr_life (s : Mach) : (limitCorr s).life = s.life := by simp [limitCorr]

@[simp] theorem warmTick_life (s : Mach) : (warmTick s).life = s.life := by simp [warmTick]

@[simp] theorem dropTick_life (t : Tick) (s : Mach) : (dropTick t s).life = s.life := by simp [dropTick]

@[simp] theorem endTick_fuses (s : Mach) : (endTick s).life.fuses = s.life.fuses := by
  simp only [endTick]
  split <;> simp

@[simp] theorem cutTick_fuses (s : Mach) : (cutTick s).life.fuses = s.life.fuses := by
  simp only [cutTick]
  split <;> simp

@[simp] theorem writeHeader_life (t : Tick) (s : Mach) : (writeHeader t s).life = s.life := by simp [writeHeader]

@[simp] theorem reloadWords_life (s : Mach) : (reloadWords s).life = s.life := by simp [reloadWords]

@[simp] theorem cmdForecastTickStart_fuses (s : Mach) : (cmdForecastTickStart s).life.fuses = s.life.fuses := by
  simp only [cmdForecastTickStart]
  split <;> simp

@[simp] theorem cmdTickAbandon_fuses (s : Mach) : (cmdTickAbandon s).life.fuses = s.life.fuses := by
  simp only [cmdTickAbandon]
  split <;> simp

@[simp] theorem failTick_life (s : Mach) : (failTick s).life = s.life := by
  simp only [failTick]
  split <;> simp

@[simp] theorem stageRow_life (b r : Nat) (s : Mach) : (stageRow b r s).life = s.life := by
  simp only [stageRow]
  split <;> simp

@[simp] theorem releaseRows_life (t : Tick) (s : Mach) : (releaseRows t s).life = s.life := by simp [releaseRows]

@[simp] theorem cmdRowRelease_life (s : Mach) : (cmdRowRelease s).life = s.life := by
  simp only [cmdRowRelease]
  split <;> simp

@[simp] theorem engineCommit_life (s : Mach) : (engineCommit s).life = s.life := by simp [engineCommit]

@[simp] theorem reopenPage_life (s : Mach) : (reopenPage s).life = s.life := by simp [reopenPage]

@[simp] theorem withdrawCommit_life (s : Mach) : (withdrawCommit s).life = s.life := by simp [withdrawCommit]

@[simp] theorem publishCorr_life (c : Int) (s : Mach) : (publishCorr c s).life = s.life := by simp [publishCorr]

@[simp] theorem publishChans_life (l : List (Nat × Nat)) (s : Mach) : (publishChans l s).life = s.life := by
  refine each_life (fun i s => ?_) _ _
  split <;> simp

@[simp] theorem cmdTickPublication_life (corr : Nat) (chans : List (Nat × Nat)) (state : List Byte) (s : Mach) :
    (cmdTickPublication corr chans state s).life = s.life := by
  simp only [cmdTickPublication]
  split <;> simp

@[simp] theorem descDeliver_life (c d : Nat) (snap : Snapshot) (range : Option (Nat × Nat)) (s : Mach) :
    (descDeliver c d snap range s).life = s.life := by
  refine each_life (fun e s => ?_) _ _
  rw [life_ite, ite_eq_left_iff]
  intro _
  split <;> simp

@[simp] theorem unreadable_life (l : List Nat) (s : Mach) : (unreadable l s).life = s.life := by simp [unreadable]

@[simp] theorem pchFails_fuses (pch : Nat) (lost : List Nat) (s : Mach) :
    (pchFails pch lost s).life.fuses = s.life.fuses := by simp [pchFails]

@[simp] theorem rowDue_fuses (pch r : Nat) (s : Mach) : (rowDue pch r s).life.fuses = s.life.fuses := by simp [rowDue]

@[simp] theorem hbmError_fuses (pch r : Nat) (s : Mach) :
    (hbmError pch r s).life.fuses = s.life.fuses := by simp [hbmError]

@[simp] theorem loseSample_fuses (c i : Nat) (s : Mach) :
    (loseSample c i s).life.fuses = s.life.fuses := by simp [loseSample]

@[simp] theorem descLoses_fuses (d : Nat) (snap : Snapshot) (e : Nat) (s : Mach) :
    (descLoses d snap e s).life.fuses = s.life.fuses := by
  simp only [descLoses]
  split <;> simp

@[simp] theorem complete_life (c id status first last : Nat) (s : Mach) :
    (complete c id status first last s).life = s.life := rfl

@[simp] theorem stageRows_life (l : List Byte) (n : Nat) (s : Mach) : (stageRows l n s).life = s.life := by
  induction n generalizing l s with
  | zero => rfl
  | succ n ih => simp [stageRows, ih]

@[simp] theorem descStore_life (c d : Nat) (s : Mach) : (descStore c d s).life = s.life := by
  refine each_life (fun i s => ?_) _ _
  split <;> simp

@[simp] theorem descStage_life (c d : Nat) (s : Mach) : (descStage c d s).life = s.life := by
  refine each_life (fun r s => ?_) _ _
  split
  · exact stageRows_life ..
  · rfl

@[simp] theorem descFetch_fuses (c d : Nat) (snap : Snapshot) (ue : Option (Nat × Nat × Nat × Nat)) (s : Mach) :
    (descFetch c d snap ue s).life.fuses = s.life.fuses := by
  simp only [descFetch]
  split <;> simp

@[simp] theorem cmdStreamDescriptorComplete_fuses (c d : Nat) (ue : Option (Nat × Nat × Nat × Nat)) (ops : List EngOp)
    (s : Mach) : (cmdStreamDescriptorComplete c d ue ops s).life.fuses = s.life.fuses := by
  simp only [cmdStreamDescriptorComplete]
  repeat' split
  all_goals simp

@[simp] theorem unitLost_life (s : Mach) : (unitLost s).life = s.life := by simp [unitLost]

@[simp] theorem cmdCartFailure_fuses (c k : Nat) (s : Mach) :
    (cmdCartFailure c k s).life.fuses = s.life.fuses := by simp [cmdCartFailure]

@[simp] theorem refreshBackground_fuses (s : Mach) :
    (refreshBackground s).life.fuses = s.life.fuses := by simp [refreshBackground]

@[simp] theorem passDone_fuses (a : Nat) (s : Mach) : (passDone a s).life.fuses = s.life.fuses := by simp [passDone]

@[simp] theorem selftestPass_fuses (s : Mach) : (selftestPass s).life.fuses = s.life.fuses := by simp [selftestPass]

@[simp] theorem cmdCartSelftest_fuses (c k : Nat) (pass : Bool) (s : Mach) :
    (cmdCartSelftest c k pass s).life.fuses = s.life.fuses := by simp [cmdCartSelftest]

@[simp] theorem cmdCoachmanLockstep_fuses (c : Nat) (s : Mach) :
    (cmdCoachmanLockstep c s).life.fuses = s.life.fuses := by simp [cmdCoachmanLockstep]

@[simp] theorem cmdEngineSramUe_fuses (w : EngWord) (used : Bool) (s : Mach) :
    (cmdEngineSramUe w used s).life.fuses = s.life.fuses := by
  simp only [cmdEngineSramUe]
  repeat' split
  all_goals simp

@[simp] theorem cmdHbmCorrectableError_fuses (pch r : Nat) (s : Mach) :
    (cmdHbmCorrectableError pch r s).life.fuses = s.life.fuses := by
  simp only [cmdHbmCorrectableError]
  split <;> simp

@[simp] theorem cmdHbmRowRepair_fuses (pch r : Nat) (s : Mach) :
    (cmdHbmRowRepair pch r s).life.fuses = s.life.fuses := by simp [cmdHbmRowRepair]

@[simp] theorem cmdPseudoChannelFailure_fuses (pch : Nat) (lost : List Nat) (s : Mach) :
    (cmdPseudoChannelFailure pch lost s).life.fuses = s.life.fuses := by simp [cmdPseudoChannelFailure]

@[simp] theorem cmdPseudoChannelRestoreComplete_fuses (pch : Nat) (s : Mach) :
    (cmdPseudoChannelRestoreComplete pch s).life.fuses = s.life.fuses := by simp [cmdPseudoChannelRestoreComplete]

@[simp] theorem adaptReset_life (s : Mach) : (adaptReset s).life = s.life := rfl

@[simp] theorem cmdHbmUe_fuses (hit : HbmHit) (pch r : Nat) (s : Mach) :
    (cmdHbmUe hit pch r s).life.fuses = s.life.fuses := by
  simp only [cmdHbmUe]
  split <;> simp

@[simp] theorem cmdTimetableSramUe_fuses (live : Bool) (b : Nat) (s : Mach) :
    (cmdTimetableSramUe live b s).life.fuses = s.life.fuses := by simp [cmdTimetableSramUe]

@[simp] theorem cmdBackgroundPassComplete_fuses (a : Nat) (corrected : List (Option Nat)) (s : Mach) :
    (cmdBackgroundPassComplete a corrected s).life.fuses = s.life.fuses := by
  rw [cmdBackgroundPassComplete, passDone_fuses]
  split
  · refine each_fuses (fun c s => ?_) _ _
    cases c <;> simp
  · rfl

@[simp] theorem cmdBackgroundStarved_fuses (a : Nat) (s : Mach) :
    (cmdBackgroundStarved a s).life.fuses = s.life.fuses := by simp [cmdBackgroundStarved]

/-! ### The loader -/

@[simp] theorem reportRefusal_life (f : MdlFail) (s : Mach) :
    (reportRefusal f s).life = s.life := by simp [reportRefusal]

@[simp] theorem noteCheckAt_life (r : Resources) (c : List Byte) (s : Mach) : (noteCheckAt r c s).life = s.life := rfl

@[simp] theorem noteCheck_life (c : List Byte) (s : Mach) : (noteCheck c s).life = s.life := rfl

@[simp] theorem recheck_life (s : Mach) : (recheck s).life = s.life := by
  simp only [recheck]
  repeat' split
  all_goals simp

@[simp] theorem placeModel_life (c : List Byte) (s : Mach) : (placeModel c s).life = s.life := by simp [placeModel]

@[simp] theorem startModel_life (s : Mach) : (startModel s).life = s.life := by simp [startModel]

@[simp] theorem chooseModel_fuses (s : Mach) : (chooseModel s).life.fuses = s.life.fuses := by simp [chooseModel]

@[simp] theorem noteLoaded_life (c : List Byte) (s : Mach) : (noteLoaded c s).life = s.life := rfl

@[simp] theorem engineStart_fuses (s : Mach) : (engineStart s).life.fuses = s.life.fuses := by simp [engineStart]

@[simp] theorem setLoad_life (n : Nat) (s : Mach) : (setLoad n s).life = s.life := rfl

@[simp] theorem loadEmpty_life (s : Mach) : (loadEmpty s).life = s.life := rfl

@[simp] theorem beginLoad_life (len : Nat) (s : Mach) : (beginLoad len s).life = s.life := by
  simp only [beginLoad]
  split <;> simp

@[simp] theorem mdlBegin_life (s : Mach) : (mdlBegin s).2.life = s.life := by
  simp only [mdlBegin]
  repeat' split
  all_goals simp

@[simp] theorem cmdMdlEraseComplete_life (s : Mach) :
    (cmdMdlEraseComplete s).life = s.life := by simp [cmdMdlEraseComplete]

@[simp] theorem mdlWindow_life (off : Nat) (data : List Byte) (s : Mach) : (mdlWindow off data s).2.life = s.life := by
  simp only [mdlWindow]
  repeat' split
  all_goals simp

@[simp] theorem mdlVerify_life (s : Mach) : (mdlVerify s).2.life = s.life := by
  simp only [mdlVerify]
  split <;> simp

@[simp] theorem cmdMdlVerifyComplete_life (s : Mach) : (cmdMdlVerifyComplete s).life = s.life := by
  simp only [cmdMdlVerifyComplete]
  repeat' split
  all_goals simp

@[simp] theorem mdlSwitch_life (s : Mach) : (mdlSwitch s).2.life = s.life := by
  simp only [mdlSwitch]
  split <;> simp

@[simp] theorem mdlCancel_life (s : Mach) : (mdlCancel s).2.life = s.life := by
  simp only [mdlCancel]
  split <;> simp

@[simp] theorem loadLapse_life (s : Mach) : (loadLapse s).life = s.life := by simp [loadLapse]

@[simp] theorem cmdAdaptPassComplete_fuses (adopt : Bool) (candidate : List Byte) (s : Mach) :
    (cmdAdaptPassComplete adopt candidate s).life.fuses = s.life.fuses := by
  simp only [cmdAdaptPassComplete]
  repeat' split
  all_goals simp

@[simp] theorem adaptRevert_life (s : Mach) : (adaptRevert s).life = s.life := by simp [adaptRevert]

@[simp] theorem cmdAdaptRevertCopyComplete_life (s : Mach) : (cmdAdaptRevertCopyComplete s).life = s.life := by
  simp only [cmdAdaptRevertCopyComplete]
  repeat' split
  all_goals simp

@[simp] theorem adaptFlip_life (s : Mach) : (adaptFlip s).life = s.life := by
  simp only [adaptFlip]
  split <;> simp

@[simp] theorem cartEntry_fuses (c k : Nat) (s : Mach) :
    (cartEntry c k s).life.fuses = s.life.fuses := by simp [cartEntry]

@[simp] theorem coachEntry_fuses (c : Nat) (s : Mach) :
    (coachEntry c s).life.fuses = s.life.fuses := by simp [coachEntry]

@[simp] theorem switchModel_life (s : Mach) : (switchModel s).life = s.life := by simp [switchModel]

@[simp] theorem switchUnfit_life (s : Mach) : (switchUnfit s).life = s.life := by simp [switchUnfit]

@[simp] theorem switchCheck_life (width0 : Nat) (s : Mach) : (switchCheck width0 s).life = s.life := by
  simp only [switchCheck]
  repeat' split
  all_goals simp

@[simp] theorem cmdModelImageCopyComplete_life (s : Mach) :
    (cmdModelImageCopyComplete s).life = s.life := by simp [cmdModelImageCopyComplete]

@[simp] theorem gridRestart_fuses (s : Mach) : (gridRestart s).life.fuses = s.life.fuses := by simp [gridRestart]

@[simp] theorem engineBoundary_fuses (tick0 maint0 width0 : Nat) (s : Mach) :
    (engineBoundary tick0 maint0 width0 s).life.fuses = s.life.fuses := by simp [engineBoundary]

@[simp] theorem engineWrap_life (moved swapped : Bool) (s : Mach) : (engineWrap moved swapped s).life = s.life := rfl

/-! ### What an object admits -/

@[simp] theorem keySet_life (key v : Nat) (s : Mach) : (keySet key v s).life = s.life := by
  simp only [keySet]
  split <;> simp

end Sys2Proof.Machine
end

section
/-! PROOFS. The fuses (R381) under every operation of
commits, snapshots, the step boundary, tickets and frames (chapters 2, 3, 5 and 13). -/

namespace Sys2Proof.Machine

/-! ### Staging, COMMIT and effect points -/

@[simp] theorem pendTouch_life (before : Nat) (s : Mach) : (pendTouch before s).life = s.life := by simp [pendTouch]

@[simp] theorem discardGroups_life (mask : Nat) (s : Mach) : (discardGroups mask s).life = s.life := rfl

@[simp] theorem closeSession_life (k cause : Nat) (s : Mach) :
    (closeSession k cause s).life = s.life := by simp [closeSession]

@[simp] theorem closeSessions_life (which : Session → Bool) (cause : Nat) (s : Mach) :
    (closeSessions which cause s).life = s.life := by simp [closeSessions]

@[simp] theorem queueNv_life (mgr : Nat) (vals : List ObjVal) (s : Mach) :
    (queueNv mgr vals s).life = s.life := by simp [queueNv]

@[simp] theorem afterScalar_fuses (key old : Nat) (s : Mach) :
    (afterScalar key old s).life.fuses = s.life.fuses := by simp [afterScalar]

@[simp] theorem setHeader_life (key v : Nat) (s : Mach) : (setHeader key v s).life = s.life := rfl

@[simp] theorem applyScalar_fuses (key v : Nat) (s : Mach) :
    (applyScalar key v s).life.fuses = s.life.fuses := by simp [applyScalar]

@[simp] theorem applyCst_fuses (t e : Nat) (s : Mach) : (applyCst t e s).life.fuses = s.life.fuses := by
  rw [applyCst, overrideCommitted_life, refreshFaultN_life, refreshMismatch_fuses, setCst_life]

@[simp] theorem applyVal_fuses (v : ObjVal) (s : Mach) : (applyVal v s).life.fuses = s.life.fuses := by
  simp only [applyVal]
  split <;> simp

@[simp] theorem applyVals_fuses (mgr : Nat) (vals : List ObjVal) (s : Mach) :
    (applyVals mgr vals s).life.fuses = s.life.fuses := by simp [applyVals]

@[simp] theorem acceptVals_life (mask mgr : Nat) (vals : List (Nat × ObjVal)) (s : Mach) :
    (acceptVals mask mgr vals s).life = s.life := by
  simp only [acceptVals]
  split <;> simp

@[simp] theorem takeGroups_fuses (mask : Nat) (keep : ObjVal → Bool) (p : Pending) (s : Mach) :
    (takeGroups mask keep p s).life.fuses = s.life.fuses := by simp [takeGroups]

@[simp] theorem epochEffects_fuses (s : Mach) : (epochEffects s).life.fuses = s.life.fuses := by simp [epochEffects]

@[simp] theorem stepEffects_fuses (s : Mach) : (stepEffects s).1.life.fuses = s.life.fuses := by simp [stepEffects]

@[simp] theorem cmdCommitAckTimeout_fuses (s : Mach) :
    (cmdCommitAckTimeout s).life.fuses = s.life.fuses := by simp [cmdCommitAckTimeout]

@[simp] theorem cmdAgeingMonitor_fuses (n v u : Nat) (s : Mach) :
    (cmdAgeingMonitor n v u s).life.fuses = s.life.fuses := by simp [cmdAgeingMonitor]

@[simp] theorem spareBlock_fuses (dev block : Nat) (s : Mach) :
    (spareBlock dev block s).life.fuses = s.life.fuses := by simp [spareBlock]

@[simp] theorem mramWrite_fuses (dev : Nat) (ok : Bool) (s : Mach) :
    (mramWrite dev ok s).2.life.fuses = s.life.fuses := by
  simp only [mramWrite]
  repeat' split
  all_goals simp

@[simp] theorem cmdPersistentWriteComplete_fuses (okA okB : Bool) (s : Mach) :
    (cmdPersistentWriteComplete okA okB s).life.fuses = s.life.fuses := by
  simp only [cmdPersistentWriteComplete]
  split <;> simp

/-! ### Estimator state, snapshot and configuration stream -/

@[simp] theorem takeFeeders_life (m : SMap Feeder) (s : Mach) : (takeFeeders m s).life = s.life := by simp [takeFeeders]

/-- Reading the part from a list leaves the service life's record alone. -/
def Part.KeepsLife (p : Part) : Prop := ∀ s l, (p.dec s l).1.life = s.life

theorem part_keepsLife {α : Type} {c : Cod α} {get : Mach → α} {set : α → Mach → Mach}
    (h : ∀ a, Keeps Mach.life (set a)) : (part c get set).KeepsLife := fun s l => h (c.dec l).1 s

theorem partsDec_life {ps : List Part} (h : ∀ p ∈ ps, p.KeepsLife) (l : List Int) (s : Mach) :
    (partsDec ps l s).life = s.life := by
  induction ps generalizing l s with
  | nil => rfl
  | cons p ps ih =>
    rw [List.forall_mem_cons] at h
    exact (ih h.2 ..).trans (h.1 s l)

theorem calParts_keepsLife : ∀ p ∈ calParts, p.KeepsLife := by
  simp only [calParts, List.forall_mem_cons]
  exact ⟨part_keepsLife fun l => each_life (fun u s => oSet_life ..) _,
    part_keepsLife fun l => each_life (fun x s => oSet_life ..) _,
    part_keepsLife fun l => each_life (fun p s => setPhase_life ..) _, List.forall_mem_nil _⟩

theorem estParts_keepsLife : ∀ p ∈ estParts, p.KeepsLife := by
  simpa [estParts, part_keepsLife, or_imp, forall_and] using calParts_keepsLife

@[simp] theorem takeEst_life (l : List Byte) (s : Mach) : (takeEst l s).life = s.life :=
  partsDec_life estParts_keepsLife ..

theorem snapParts_keepsLife : ∀ p ∈ snapParts, p.KeepsLife := by
  simpa [snapParts, part_keepsLife, or_imp, forall_and] using estParts_keepsLife

@[simp] theorem takeSnap_life (l : List Byte) (s : Mach) : (takeSnap l s).life = s.life :=
  partsDec_life snapParts_keepsLife ..

theorem configParts_keepsLife : ∀ p ∈ configParts, p.KeepsLife := by
  simp [configParts, part_keepsLife]

@[simp] theorem takeConfig_life (l : List Byte) (s : Mach) : (takeConfig l s).life = s.life :=
  partsDec_life configParts_keepsLife ..

/-! ### The step boundary and the end of a bin -/

@[simp] theorem laneSubstitute_fuses (s : Mach) : (laneSubstitute s).life.fuses = s.life.fuses := by
  simp only [laneSubstitute]
  split <;> simp

@[simp] theorem laneMove_fuses (s : Mach) : (laneMove s).life.fuses = s.life.fuses := by simp [laneMove]

@[simp] theorem resumePair_fuses (failed : Nat) (s : Mach) : (resumePair failed s).life.fuses = s.life.fuses := by
  simp only [resumePair]
  split <;> simp

@[simp] theorem resumePairs_fuses (s : Mach) : (resumePairs s).life.fuses = s.life.fuses := by simp [resumePairs]

@[simp] theorem endRequest_life (n0 rid : Nat) (x : Slot) (s : Mach) :
    (endRequest n0 rid x s).life = s.life := by simp [endRequest]

@[simp] theorem staleEarly_life (rid : Nat) (x : Slot) (s : Mach) :
    (staleEarly rid x s).life = s.life := by simp [staleEarly]

@[simp] theorem arbiterWrap_life (n0 : Nat) (s : Mach) : (arbiterWrap n0 s).life = s.life := by
  have ended : (each s.arb.reqs (fun p s =>
      each (p.2.slots.filter fun x => !x.early && decide (x.st ≠ .live)) (endRequest n0 p.1) s) s).life = s.life := by
    simp
  refine (each_life (fun p s => ?_) _ _).trans ended
  split <;> simp

@[simp] theorem snapCounters_life (step0 : Nat) (s : Mach) : (snapCounters step0 s).life = s.life := rfl

@[simp] theorem switchCut_life (s : Mach) : (switchCut s).life = s.life := by simp [switchCut]

@[simp] theorem takeCorr_life (s : Mach) : (takeCorr s).life = s.life := by
  simp only [takeCorr]
  split <;> simp

@[simp] theorem snapSend_life (s : Mach) : (snapSend s).life = s.life := by simp [snapSend]

@[simp] theorem snapCut_life (s : Mach) : (snapCut s).life = s.life := by simp [snapCut]

@[simp] theorem forwardEst_life (s : Mach) : (forwardEst s).life = s.life := by simp [forwardEst]

@[simp] theorem boundaryEffects_fuses (step0 tick0 maint0 width0 : Nat) (locked0 rebin swapped : Bool) (s : Mach) :
    (boundaryEffects step0 tick0 maint0 width0 locked0 rebin swapped s).life.fuses = s.life.fuses := by
  simp [boundaryEffects]

@[simp] theorem boundary_fuses (t' : Tracker) (rebin unlock : Bool) (s : Mach) :
    (boundary t' rebin unlock s).life.fuses = s.life.fuses := by simp [boundary]

@[simp] theorem cmdStepBoundary_fuses (s : Mach) : (cmdStepBoundary s).life.fuses = s.life.fuses := by
  simp only [cmdStepBoundary]
  repeat' split
  all_goals simp

@[simp] theorem endGrants_life (s : Mach) : (endGrants s).life = s.life := by simp [endGrants]

@[simp] theorem nextBin_life (s : Mach) : (nextBin s).life = s.life := rfl

@[simp] theorem binEnd_fuses (s : Mach) : (binEnd s).life.fuses = s.life.fuses := by simp [binEnd]

@[simp] theorem cmdBinEnd_fuses (s : Mach) : (cmdBinEnd s).life.fuses = s.life.fuses := by simp [cmdBinEnd]

@[simp] theorem phaseEvent_fuses (e : Int) (k : Option Nat) (s : Mach) :
    (phaseEvent e k s).life.fuses = s.life.fuses := by
  simp only [phaseEvent]
  split <;> simp

@[simp] theorem cmdLoadEvent_fuses (s : Mach) : (cmdLoadEvent s).life.fuses = s.life.fuses := by
  simp only [cmdLoadEvent]
  repeat' split
  all_goals simp

@[simp] theorem windowMissed_fuses (s : Mach) : (windowMissed s).life.fuses = s.life.fuses := by simp [windowMissed]

@[simp] theorem trackClose_fuses (s : Mach) : (trackClose s).life.fuses = s.life.fuses := by
  simp only [trackClose]
  split <;> simp

@[simp] theorem cmdCaptureWindowClose_fuses (s : Mach) : (cmdCaptureWindowClose s).life.fuses = s.life.fuses := by
  simp only [cmdCaptureWindowClose]
  repeat' split
  all_goals simp

@[simp] theorem pageAccepted_life (s : Mach) : (pageAccepted s).life = s.life := by simp [pageAccepted]

@[simp] theorem enginePage_fuses (s : Mach) : (enginePage s).life.fuses = s.life.fuses := by
  simp only [enginePage]
  split <;> simp

/-! ### The Ticket protocol -/

@[simp] theorem voidAtOnce_life (w reason : Nat) (g : Option Nat) (s : Mach) :
    (voidAtOnce w reason g s).life = s.life := by simp [voidAtOnce]

@[simp] theorem joinIngress_life (lane rid seq : Nat) (s : Mach) : (joinIngress lane rid seq s).life = s.life := rfl

@[simp] theorem requestTicket_life (lane w : Nat) (resv : Bool) (g : Option Nat) (s : Mach) :
    (requestTicket lane w resv g s).life = s.life := by simp [requestTicket]

@[simp] theorem releaseLive_life (rid : Nat) (x : Slot) (stop : Nat) (s : Mach) :
    (releaseLive rid x stop s).life = s.life := by simp [releaseLive]

@[simp] theorem releaseTicket_life (w : Nat) (g : Option Nat) (s : Mach) : (releaseTicket w g s).life = s.life := by
  simp only [releaseTicket]
  split <;> simp

@[simp] theorem reportTicket_life (w : Nat) (s : Mach) : (reportTicket w s).life = s.life := by simp [reportTicket]

@[simp] theorem markerTicketIn_fuses (w : Nat) (s : Mach) : (markerTicketIn w s).life.fuses = s.life.fuses := by
  simp only [markerTicketIn]
  repeat' split
  all_goals simp

@[simp] theorem ticketActs_fuses (lane w : Nat) (resv : Bool) (g : Option Nat) (s : Mach) :
    (ticketActs lane w resv g s).life.fuses = s.life.fuses := by
  simp only [ticketActs]
  split <;> simp

@[simp] theorem authFail_fuses (t : Nat) (s : Mach) : (authFail t s).life.fuses = s.life.fuses := by simp [authFail]

@[simp] theorem ticketIn_fuses (lane t minor : Nat) (g : Option Nat) (l : List Byte) (s : Mach) :
    (ticketIn lane t minor g l s).life.fuses = s.life.fuses := by simp [ticketIn]

@[simp] theorem fillRecord_life (rid low : Nat) (bytes : List Byte) (s : Mach) :
    (fillRecord rid low bytes s).1.life = s.life := by
  simp only [fillRecord]
  repeat' split
  all_goals simp

@[simp] theorem ticketKept_fuses (t minor g : Nat) (l : List Byte) (s : Mach) :
    (ticketKept t minor g l s).life.fuses = s.life.fuses := by simp [ticketKept]

@[simp] theorem bundleTickets_fuses (lane t minor : Nat) (l : List (List Byte)) (s : Mach) :
    (bundleTickets lane t minor l s).life.fuses = s.life.fuses := by simp [bundleTickets]

@[simp] theorem bundleIn_fuses (lane : Nat) (src payload : List Byte) (s : Mach) :
    (bundleIn lane src payload s).life.fuses = s.life.fuses := by simp [bundleIn]

@[simp] theorem cmdIngressBundle_fuses (lane : Nat) (macs frame : List Byte) (fcsOk : Bool) (s : Mach) :
    (cmdIngressBundle lane macs frame fcsOk s).life.fuses = s.life.fuses := by
  simp only [cmdIngressBundle]
  repeat' split
  all_goals simp

@[simp] theorem laneActs_life (lane : Nat) (s : Mach) : (laneActs lane s).life = s.life := rfl

@[simp] theorem laneDecides_fuses (lane : Nat) (s : Mach) : (laneDecides lane s).life.fuses = s.life.fuses := by
  simp only [laneDecides]
  repeat' split
  all_goals simp

@[simp] theorem laneOffers_fuses (lane : Nat) (s : Mach) : (laneOffers lane s).life.fuses = s.life.fuses := by
  simp only [laneOffers]
  repeat' split
  all_goals simp

@[simp] theorem unitFall_life (s : Mach) : (unitFall s).life = s.life := by
  simp only [unitFall]
  split <;> simp

@[simp] theorem unitPreempt_fuses (s : Mach) : (unitPreempt s).life.fuses = s.life.fuses := by
  simp only [unitPreempt]
  split <;> simp

@[simp] theorem cmdRequestDecision_fuses (lane : Nat) (s : Mach) :
    (cmdRequestDecision lane s).life.fuses = s.life.fuses := by simp [cmdRequestDecision]

@[simp] theorem cmdSidingOffer_fuses (lane : Nat) (s : Mach) :
    (cmdSidingOffer lane s).life.fuses = s.life.fuses := by simp [cmdSidingOffer]

@[simp] theorem cmdPreemptionTask_fuses (s : Mach) :
    (cmdPreemptionTask s).life.fuses = s.life.fuses := by simp [cmdPreemptionTask]

@[simp] theorem cmdFallTask_life (s : Mach) : (cmdFallTask s).life = s.life := by simp [cmdFallTask]

@[simp] theorem arbiterCycle_fuses (s : Mach) : (arbiterCycle s).life.fuses = s.life.fuses := by simp [arbiterCycle]

@[simp] theorem cmdEgressHoldExpiry_life (t prio : Nat) (s : Mach) : (cmdEgressHoldExpiry t prio s).life = s.life := by
  simp only [cmdEgressHoldExpiry]
  split <;> simp

@[simp] theorem measureAnswer_fuses (a : Answer) (s : Mach) : (measureAnswer a s).life.fuses = s.life.fuses := by
  simp only [measureAnswer]
  split <;> simp

@[simp] theorem bundleLeft_fuses (b : ReadyBundle) (s : Mach) :
    (bundleLeft b s).life.fuses = s.life.fuses := by simp [bundleLeft]

@[simp] theorem cmdEgressSend_fuses (port : Nat) (s : Mach) : (cmdEgressSend port s).life.fuses = s.life.fuses := by
  simp only [cmdEgressSend]
  split <;> simp

@[simp] theorem brakeRequested_life (v : Nat) (s : Mach) :
    (brakeRequested v s).life = s.life := by simp [brakeRequested]

@[simp] theorem cmdBrakeCheck_life (t : Nat) (s : Mach) : (cmdBrakeCheck t s).life = s.life := by
  simp only [cmdBrakeCheck]
  split <;> simp

/-! ### The PWM frame -/

@[simp] theorem phaseShed_life (deep : Bool) (s : Mach) : (phaseShed deep s).life = s.life := by
  simp only [phaseShed]
  split <;> simp

@[simp] theorem warmHold_life (p : Nat) (s : Mach) : (warmHold p s).life = s.life := by simp [warmHold]

@[simp] theorem coldWake_life (p : Nat) (s : Mach) : (coldWake p s).life = s.life := by
  simp only [coldWake]
  split <;> simp

@[simp] theorem creditGone_life (deep : Bool) (s : Mach) : (creditGone deep s).life = s.life := by simp [creditGone]

@[simp] theorem refreshSupply_life (s : Mach) : (refreshSupply s).life = s.life := by simp [refreshSupply]

@[simp] theorem removeDue_fuses (s : Mach) : (removeDue s).life.fuses = s.life.fuses := by
  refine each_fuses (fun i s => ?_) _ _
  split <;> simp

@[simp] theorem downlinks_life (s : Mach) : (downlinks s).life = s.life := by simp [downlinks]

@[simp] theorem followCheck_life (s : Mach) : (followCheck s).life = s.life := by simp [followCheck]

@[simp] theorem closeEpoch_life (s : Mach) : (closeEpoch s).life = s.life := by simp [closeEpoch]

@[simp] theorem heartbeats_life (s : Mach) : (heartbeats s).life = s.life := by simp [heartbeats]

@[simp] theorem heartbeatFrame_fuses (s : Mach) :
    (heartbeatFrame s).life.fuses = s.life.fuses := by simp [heartbeatFrame]

@[simp] theorem cmdDiodeExit_life (p : Nat) (s : Mach) : (cmdDiodeExit p s).life = s.life := by simp [cmdDiodeExit]

@[simp] theorem frameLoop_fuses (s : Mach) : (frameLoop s).life.fuses = s.life.fuses := by simp [frameLoop]

@[simp] theorem frameCounted_life (f0 : Nat) (s : Mach) : (frameCounted f0 s).life = s.life := by simp [frameCounted]

@[simp] theorem framePeriod_life (s : Mach) : (framePeriod s).life = s.life := rfl

@[simp] theorem pathUsed_life (s : Mach) : (pathUsed s).life = s.life := by simp [pathUsed]

@[simp] theorem cmdPwmComputePoint_fuses (s : Mach) :
    (cmdPwmComputePoint s).life.fuses = s.life.fuses := by simp [cmdPwmComputePoint]

@[simp] theorem cmdAllFireEnd_life (s : Mach) : (cmdAllFireEnd s).life = s.life := by simp [cmdAllFireEnd]

@[simp] theorem cmdAllFireHeldStart_fuses (s : Mach) :
    (cmdAllFireHeldStart s).life.fuses = s.life.fuses := by simp [cmdAllFireHeldStart]

@[simp] theorem cmdCardDownlinkRepeat_life (c : Nat) (s : Mach) :
    (cmdCardDownlinkRepeat c s).life = s.life := by simp [cmdCardDownlinkRepeat]

@[simp] theorem uplinkPhases_life (c f : Nat) (s : Mach) : (uplinkPhases c f s).life = s.life := by simp [uplinkPhases]

@[simp] theorem uplinkGood_fuses (c f : Nat) (s : Mach) :
    (uplinkGood c f s).life.fuses = s.life.fuses := by simp [uplinkGood]

@[simp] theorem cardLost_fuses (c : Nat) (s : Mach) : (cardLost c s).life.fuses = s.life.fuses := by simp [cardLost]

@[simp] theorem cardUplink_fuses (c f : Nat) (s : Mach) :
    (cardUplink c f s).life.fuses = s.life.fuses := by simp [cardUplink]

@[simp] theorem cmdCardLinkLoss_fuses (c : Nat) (s : Mach) :
    (cmdCardLinkLoss c s).life.fuses = s.life.fuses := by simp [cmdCardLinkLoss]

@[simp] theorem cardReadmit_life (v : Nat) (s : Mach) : (cardReadmit v s).life = s.life := by simp [cardReadmit]

end Sys2Proof.Machine
end

section
/-! PROOFS. The fuses (R381) under every operation of
the collector's commands, boot, images, attestation and power (chapters 12, 14 and 15). -/

namespace Sys2Proof.Machine

/-! ### The collector's commands -/

@[simp] theorem cmdBlankingWindowClose_fuses (n : Nat) (s : Mach) :
    (cmdBlankingWindowClose n s).life.fuses = s.life.fuses := by simp [cmdBlankingWindowClose]

@[simp] theorem cmdInjectionWindowClose_fuses (s : Mach) : (cmdInjectionWindowClose s).life.fuses = s.life.fuses := by
  simp only [cmdInjectionWindowClose]
  split <;> simp

@[simp] theorem cmdFaultNPulseEnd_life (s : Mach) : (cmdFaultNPulseEnd s).life = s.life := by
  simp only [cmdFaultNPulseEnd]
  split <;> simp

@[simp] theorem injStart_fuses (s : Mach) : (injStart s).life.fuses = s.life.fuses := by simp [injStart]

@[simp] theorem cmdDieThermalSample_fuses (c : Nat) (s : Mach) :
    (cmdDieThermalSample c s).life.fuses = s.life.fuses := by simp [cmdDieThermalSample]

@[simp] theorem cmdClockLoss_fuses (s : Mach) : (cmdClockLoss s).life.fuses = s.life.fuses := by simp [cmdClockLoss]

@[simp] theorem cmdClockLockRegained_fuses (s : Mach) :
    (cmdClockLockRegained s).life.fuses = s.life.fuses := by simp [cmdClockLockRegained]

@[simp] theorem cmdWatchdogExpiry_fuses (p : Nat) (s : Mach) :
    (cmdWatchdogExpiry p s).life.fuses = s.life.fuses := by simp [cmdWatchdogExpiry]

@[simp] theorem cmdFabricLaneDown_fuses (l : Nat) (s : Mach) :
    (cmdFabricLaneDown l s).life.fuses = s.life.fuses := by simp [cmdFabricLaneDown]

@[simp] theorem cmdFabricLaneBlockLock_fuses (l : Nat) (s : Mach) :
    (cmdFabricLaneBlockLock l s).life.fuses = s.life.fuses := by simp [cmdFabricLaneBlockLock]

@[simp] theorem cmdLane9BlockLock_fuses (s : Mach) : (cmdLane9BlockLock s).life.fuses = s.life.fuses := rfl

@[simp] theorem failRing_life (dev : Nat) (s : Mach) : (failRing dev s).life = s.life := rfl

@[simp] theorem ringAfter_fuses (dev block : Nat) (spare : Bool) (s : Mach) :
    (ringAfter dev block spare s).life.fuses = s.life.fuses := by simp [ringAfter]

@[simp] theorem overflowRecord_life (s : Mach) : (overflowRecord s).life = s.life := by simp [overflowRecord]

@[simp] theorem flushOne_fuses (r : GRec) (failA failB : Bool) (s : Mach) :
    (flushOne r failA failB s).life.fuses = s.life.fuses := by simp [flushOne]

@[simp] theorem cmdGuardLogFlush_fuses (failA failB : Bool) (s : Mach) :
    (cmdGuardLogFlush failA failB s).life.fuses = s.life.fuses := by
  simp only [cmdGuardLogFlush]
  split <;> simp

@[simp] theorem flushAll_fuses (n : Nat) (s : Mach) : (flushAll n s).life.fuses = s.life.fuses := by
  induction n generalizing s with
  | zero => rfl
  | succ n ih => simp [flushAll, ih]

@[simp] theorem glClear_life (mgr : Nat) (s : Mach) : (glClear mgr s).life = s.life := rfl

@[simp] theorem ctrClear_life (v : Nat) (s : Mach) : (ctrClear v s).life = s.life := by simp [ctrClear]

/-! ### Images -/

@[simp] theorem setImg_fuses (k : Nat) (x : ImgSlot) (s : Mach) : (setImg k x s).life.fuses = s.life.fuses := rfl

@[simp] theorem setCus_fuses (k : Nat) (x : ImgSlot) (s : Mach) : (setCus k x s).life.fuses = s.life.fuses := rfl

/-! ### Boot, trust, service life and power -/

@[simp] theorem setUpd_life (n : Nat) (s : Mach) : (setUpd n s).life = s.life := rfl

@[simp] theorem updEmpty_fuses (s : Mach) : (updEmpty s).life.fuses = s.life.fuses := rfl

@[simp] theorem updLapse_fuses (s : Mach) : (updLapse s).life.fuses = s.life.fuses := by simp [updLapse]

@[simp] theorem tellHolder_life (s : Mach) : (tellHolder s).life = s.life := by simp [tellHolder]

@[simp] theorem tokenLapse_fuses (cause : Nat) (s : Mach) :
    (tokenLapse cause s).life.fuses = s.life.fuses := by simp [tokenLapse]

@[simp] theorem pairFailed_life (p : Nat) (s : Mach) : (pairFailed p s).life = s.life := rfl

@[simp] theorem cmdControlPairLockstep_fuses (p : Nat) (s : Mach) :
    (cmdControlPairLockstep p s).life.fuses = s.life.fuses := by simp [cmdControlPairLockstep]

@[simp] theorem cmdPairResume_fuses (s : Mach) : (cmdPairResume s).life.fuses = s.life.fuses := by simp [cmdPairResume]

@[simp] theorem selfTest_fuses (pass : Nat) (s : Mach) :
    (selfTest pass s).life.fuses = s.life.fuses := by simp [selfTest]

@[simp] theorem rejectCustomer_fuses (k reason : Nat) (s : Mach) :
    (rejectCustomer k reason s).life.fuses = s.life.fuses := by simp [rejectCustomer]

@[simp] theorem customerTrial_fuses (s : Mach) : (customerTrial s).life.fuses = s.life.fuses := by simp [customerTrial]

@[simp] theorem tryCustomer_fuses (k : Nat) (s : Mach) : (tryCustomer k s).2.life.fuses = s.life.fuses := by
  simp only [tryCustomer]
  repeat' split
  all_goals simp

@[simp] theorem customerChoice_fuses (s : Mach) : (customerChoice s).2.life.fuses = s.life.fuses := by
  simp only [customerChoice]
  repeat' split
  all_goals simp

@[simp] theorem guestStart_fuses (img : Nat) (s : Mach) : (guestStart img s).life.fuses = s.life.fuses := rfl

@[simp] theorem guestReached_fuses (s : Mach) : (guestReached s).life.fuses = s.life.fuses := by simp [guestReached]

@[simp] theorem guestSelect_fuses (s : Mach) : (guestSelect s).life.fuses = s.life.fuses := by
  have chosen := customerChoice_fuses s
  simp only [guestSelect]
  split
  · simp
  · split <;> simp_all

@[simp] theorem guestFallback_fuses (s : Mach) : (guestFallback s).life.fuses = s.life.fuses := by simp [guestFallback]

@[simp] theorem cmdGuestStartTimeout_fuses (s : Mach) :
    (cmdGuestStartTimeout s).life.fuses = s.life.fuses := by simp [cmdGuestStartTimeout]

@[simp] theorem appCore_fuses (s : Mach) : (appCore s).life.fuses = s.life.fuses := by simp [appCore]

@[simp] theorem cmdGuestWatchdogLapse_fuses (s : Mach) :
    (cmdGuestWatchdogLapse s).life.fuses = s.life.fuses := by simp [cmdGuestWatchdogLapse]

@[simp] theorem cmdCustomerImageConfirm_fuses (s : Mach) : (cmdCustomerImageConfirm s).life.fuses = s.life.fuses := by
  simp only [cmdCustomerImageConfirm]
  split <;> simp

@[simp] theorem settleNv_fuses (s : Mach) : (settleNv s).life.fuses = s.life.fuses := by simp [settleNv]

@[simp] theorem cleared_fuses (cause : Nat) (power : Bool) (s : Mach) :
    (cleared cause power s).life.fuses = s.life.fuses := rfl

@[simp] theorem nameImage_life (k : Nat) (s : Mach) : (nameImage k s).life = s.life := rfl

@[simp] theorem rejectSlot_fuses (k reason : Nat) (s : Mach) :
    (rejectSlot k reason s).life.fuses = s.life.fuses := by simp [rejectSlot]

@[simp] theorem trialStep_fuses (s : Mach) : (trialStep s).life.fuses = s.life.fuses := by simp [trialStep]

@[simp] theorem trySlot_fuses (k : Nat) (s : Mach) : (trySlot k s).2.life.fuses = s.life.fuses := by
  simp only [trySlot]
  repeat' split
  all_goals simp

@[simp] theorem runSlot_fuses (k : Nat) (s : Mach) : (runSlot k s).life.fuses = s.life.fuses := by simp [runSlot]

@[simp] theorem restoreVal_life (v : ObjVal) (s : Mach) : (restoreVal v s).life = s.life := by
  cases v with
  | scalar key x => exact keySet_life ..
  | bytes idx sub off l => exact domPut_life ..
  | req rid cls burst => exact setRequester_life ..
  | cst t e => exact setCst_life ..

@[simp] theorem loadNv_fuses (lostA lostB : Bool) (s : Mach) :
    (loadNv lostA lostB s).life.fuses = s.life.fuses := by simp [loadNv]

@[simp] theorem romStart_fuses (s : Mach) : (romStart s).life.fuses = s.life.fuses := by
  simp only [romStart]
  split <;> simp

@[simp] theorem restart_fuses (cause : Nat) (s : Mach) :
    (restart cause s).life.fuses = s.life.fuses := by simp [restart]

@[simp] theorem moduleReset_fuses (s : Mach) : (moduleReset s).life.fuses = s.life.fuses := by simp [moduleReset]

@[simp] theorem cmdPowerOnReset_fuses (slotB : Bool) (s : Mach) :
    (cmdPowerOnReset slotB s).life.fuses = s.life.fuses := by simp [cmdPowerOnReset]

@[simp] theorem refreshLeaves_fuses (s : Mach) : (refreshLeaves s).life.fuses = s.life.fuses := by simp [refreshLeaves]

@[simp] theorem leaveBoot_fuses (s : Mach) : (leaveBoot s).life.fuses = s.life.fuses := by simp [leaveBoot]

@[simp] theorem cmdBootComplete_fuses (lostA lostB : Bool) (pass : Nat) (s : Mach) :
    (cmdBootComplete lostA lostB pass s).life.fuses = s.life.fuses := by simp [cmdBootComplete]

@[simp] theorem updBegin_fuses (mgr : Nat) (s : Mach) : (updBegin mgr s).2.life.fuses = s.life.fuses := by
  simp only [updBegin]
  repeat' split
  all_goals simp

@[simp] theorem cmdUpdEraseComplete_fuses (s : Mach) :
    (cmdUpdEraseComplete s).life.fuses = s.life.fuses := by simp [cmdUpdEraseComplete]

@[simp] theorem eraseNamed_fuses (before : Nat) (s : Mach) :
    (eraseNamed before s).life.fuses = s.life.fuses := by simp [eraseNamed]

@[simp] theorem updWindow_fuses (off : Nat) (data : List Byte) (s : Mach) :
    (updWindow off data s).2.life.fuses = s.life.fuses := by
  simp only [updWindow]
  repeat' split
  all_goals simp

@[simp] theorem updVerify_fuses (mgr : Nat) (s : Mach) : (updVerify mgr s).2.life.fuses = s.life.fuses := by
  simp only [updVerify]
  split <;> simp

@[simp] theorem updResult_life (reason : Nat) (s : Mach) : (updResult reason s).life = s.life := by simp [updResult]

@[simp] theorem cmdUpdVerifyComplete_life (s : Mach) : (cmdUpdVerifyComplete s).life = s.life := by
  simp only [cmdUpdVerifyComplete]
  repeat' split
  all_goals simp

@[simp] theorem updCancel_fuses (s : Mach) : (updCancel s).2.life.fuses = s.life.fuses := by
  simp only [updCancel]
  split <;> simp

@[simp] theorem activateNow_fuses (s : Mach) : (activateNow s).life.fuses = s.life.fuses := by simp [activateNow]

@[simp] theorem activateSelf_fuses (mgr : Nat) (s : Mach) : (activateSelf mgr s).2.life.fuses = s.life.fuses := by
  simp only [activateSelf]
  repeat' split
  all_goals simp

@[simp] theorem activatePartner_life (mgr : Nat) (s : Mach) : (activatePartner mgr s).2.life = s.life := by
  simp only [activatePartner]
  split <;> simp

@[simp] theorem writeLeaf_fuses (k leaf : Nat) (okA okB : Bool) (s : Mach) :
    (writeLeaf k leaf okA okB s).2.life.fuses = s.life.fuses := by simp [writeLeaf]

@[simp] theorem attRequest_fuses (mgr : Nat) (okA okB : Bool) (s : Mach) :
    (attRequest mgr okA okB s).2.life.fuses = s.life.fuses := by
  simp only [attRequest]
  repeat' split
  all_goals simp

@[simp] theorem cmdAttSignComplete_fuses (s : Mach) : (cmdAttSignComplete s).life.fuses = s.life.fuses := by
  simp only [cmdAttSignComplete]
  split <;> simp

@[simp] theorem cmdAuxInputFault_fuses (n : Nat) (s : Mach) :
    (cmdAuxInputFault n s).life.fuses = s.life.fuses := by simp [cmdAuxInputFault]

@[simp] theorem cmdAuxInputReturn_fuses (n : Nat) (s : Mach) :
    (cmdAuxInputReturn n s).life.fuses = s.life.fuses := by simp [cmdAuxInputReturn]

@[simp] theorem cmdAuxOvervoltage_fuses (n : Nat) (s : Mach) : (cmdAuxOvervoltage n s).life.fuses = s.life.fuses := rfl

@[simp] theorem cmdAuxReconnect_fuses (n : Nat) (s : Mach) :
    (cmdAuxReconnect n s).life.fuses = s.life.fuses := by simp [cmdAuxReconnect]

@[simp] theorem cmdPowerFailWarning_fuses (s : Mach) :
    (cmdPowerFailWarning s).life.fuses = s.life.fuses := by simp [cmdPowerFailWarning]

@[simp] theorem cmdHoldUpEnd_fuses (s : Mach) : (cmdHoldUpEnd s).life.fuses = s.life.fuses := by simp [cmdHoldUpEnd]

@[simp] theorem cmdPowerRestart_fuses (s : Mach) : (cmdPowerRestart s).life.fuses = s.life.fuses := by
  simp only [cmdPowerRestart]
  split <;> simp

/-! ### Writes that act at once -/

@[simp] theorem startRequested_fuses (s : Mach) : (startRequested s).life.fuses = s.life.fuses := by
  simp only [startRequested]
  split <;> simp

@[simp] theorem stateRequested_fuses (v : Nat) (s : Mach) :
    (stateRequested v s).life.fuses = s.life.fuses := by simp [stateRequested]

@[simp] theorem keyWritten_life (idx sub off mgr : Nat) (data : List Byte) (s : Mach) :
    (keyWritten idx sub off mgr data s).life = s.life := by simp [keyWritten]

@[simp] theorem lifeReset_life (v : Nat) (s : Mach) : (lifeReset v s).life = s.life := by simp [lifeReset]

@[simp] theorem resyncRequested_life (s : Mach) : (resyncRequested s).life = s.life := rfl

@[simp] theorem mdlControl_life (v : Nat) (s : Mach) : (mdlControl v s).2.life = s.life := by
  simp only [mdlControl]
  repeat' split
  all_goals simp

@[simp] theorem updControl_fuses (v mgr : Nat) (s : Mach) : (updControl v mgr s).2.life.fuses = s.life.fuses := by
  simp only [updControl]
  repeat' split
  all_goals simp

@[simp] theorem partnerClear_life (v mgr : Nat) (s : Mach) :
    (partnerClear v mgr s).life = s.life := by simp [partnerClear]

@[simp] theorem onOne_fuses (v : Nat) (f : Mach → Mach) (s : Mach) (h : Keeps (·.life.fuses) f) :
    (onOne v f s).life.fuses = s.life.fuses := by
  rw [keeps_iff] at h
  simp [onOne, h]

@[simp] theorem actWrite_fuses (idx sub off : Nat) (data : List Byte) (mgr : Nat) (ok : Bool × Bool) (s : Mach) :
    (actWrite idx sub off data mgr ok s).2.life.fuses = s.life.fuses := by
  simp [actWrite, snd_ite]

@[simp] theorem forwardWrite_life (idx sub off : Nat) (data : List Byte) (mgr : Nat) (s : Mach) :
    (forwardWrite idx sub off data mgr s).life = s.life := by
  simp only [forwardWrite]
  split <;> simp

@[simp] theorem performWrite_fuses (idx sub off : Nat) (data : List Byte) (mgr : Nat) (ok : Bool × Bool) (s : Mach) :
    (performWrite idx sub off data mgr ok s).2.life.fuses = s.life.fuses := by
  simp only [performWrite]
  split <;> simp

@[simp] theorem forwardedWrite_fuses (x : ObjVal) (mgr : Nat) (s : Mach) :
    (forwardedWrite x mgr s).life.fuses = s.life.fuses := by
  simp only [forwardedWrite]
  split <;> simp

end Sys2Proof.Machine
end

section
/-! PROOFS. The fuses (R381) under every operation of
the partner and the forwarded inputs (chapter 11). -/

namespace Sys2Proof.Machine

/-! ### What a following module executes -/

@[simp] theorem orderedCap_life (reason w : Nat) (s : Mach) :
    (orderedCap reason w s).life = s.life := by simp [orderedCap]

@[simp] theorem canFrame_fuses (id f : Nat) (s : Mach) :
    (canFrame id f s).life.fuses = s.life.fuses := by simp [canFrame]

@[simp] theorem orderedEvent_fuses (kind v : Nat) (s : Mach) : (orderedEvent kind v s).life.fuses = s.life.fuses := by
  simp only [orderedEvent]
  repeat' split
  all_goals simp

@[simp] theorem forwardedTicket_fuses (g : Option Nat) (b : List Byte) (s : Mach) :
    (forwardedTicket g b s).life.fuses = s.life.fuses := by simp [forwardedTicket]

@[simp] theorem inputActs_fuses (x : LoopInput) (s : Mach) : (inputActs x s).life.fuses = s.life.fuses := by
  simp only [inputActs]
  split <;> simp

@[simp] theorem dueActs_fuses (e : Epoch) (kind : Nat) (s : Mach) : (dueActs e kind s).life.fuses = s.life.fuses := by
  simp only [dueActs]
  repeat' split
  all_goals simp

@[simp] theorem advance_fuses (e : Epoch) (t fuel : Nat) (s : Mach) :
    (advance e t fuel s).life.fuses = s.life.fuses := by
  induction fuel generalizing s with
  | zero => rfl
  | succ fuel ih =>
    simp only [advance]
    split
    · rfl
    · split
      · rfl
      · simp [ih]

@[simp] theorem runOn_fuses (e : Epoch) (t fuel : Nat) (s : Mach) : (runOn e t fuel s).life.fuses = s.life.fuses := by
  induction fuel generalizing s with
  | zero => simp [runOn]
  | succ fuel ih => simp [runOn, ih]

@[simp] theorem runTo_fuses (e : Epoch) (t : Nat) (s : Mach) :
    (runTo e t s).life.fuses = s.life.fuses := by simp [runTo]

@[simp] theorem runItems_fuses (e : Epoch) (s : Mach) : (runItems e s).life.fuses = s.life.fuses := by simp [runItems]

@[simp] theorem frameTransitions_fuses (s : Mach) :
    (frameTransitions s).life.fuses = s.life.fuses := by simp [frameTransitions]

@[simp] theorem stateAtEnd_fuses (e : Epoch) (s : Mach) :
    (stateAtEnd e s).life.fuses = s.life.fuses := by simp [stateAtEnd]

@[simp] theorem epochCloses_fuses (e : Epoch) (s : Mach) :
    (epochCloses e s).life.fuses = s.life.fuses := by simp [epochCloses]

@[simp] theorem inEpoch_fuses (e : Epoch) (f : Mach → Mach) (s : Mach) (h : Keeps (·.life.fuses) f) :
    (inEpoch e f s).life.fuses = s.life.fuses := by
  rw [keeps_iff] at h
  simp [inEpoch, h]

@[simp] theorem compareDigests_fuses (e : Epoch) (s : Mach) :
    (compareDigests e s).life.fuses = s.life.fuses := by simp [compareDigests]

@[simp] theorem executeEpoch_fuses (e : Epoch) (s : Mach) :
    (executeEpoch e s).life.fuses = s.life.fuses := by simp [executeEpoch]

@[simp] theorem catchUp_fuses (s : Mach) : (catchUp s).life.fuses = s.life.fuses := by simp [catchUp]

@[simp] theorem openGroups_life (l : List (Nat × Nat)) (s : Mach) :
    (openGroups l s).life = s.life := by simp [openGroups]

@[simp] theorem replayOwn_fuses (l : List (Nat × LoopInput)) (s : Mach) :
    (replayOwn l s).life.fuses = s.life.fuses := by
  refine (each_fuses (fun q s => ?_) _ _).trans (by simp)
  dsimp only
  split <;> simp

@[simp] theorem startDriving_life (s : Mach) : (startDriving s).life = s.life := rfl

@[simp] theorem takeover_fuses (s : Mach) : (takeover s).life.fuses = s.life.fuses := by simp [takeover]

@[simp] theorem enterResync_fuses (reason : Nat) (s : Mach) :
    (enterResync reason s).life.fuses = s.life.fuses := by simp [enterResync]

@[simp] theorem compareFailure_fuses (s : Mach) :
    (compareFailure s).life.fuses = s.life.fuses := by simp [compareFailure]

@[simp] theorem cmdStandbyEpochExecute_fuses (s : Mach) : (cmdStandbyEpochExecute s).life.fuses = s.life.fuses := by
  simp only [cmdStandbyEpochExecute]
  split <;> simp

/-! ### The partner -/

@[simp] theorem sendIdent_life (s : Mach) : (sendIdent s).life = s.life := rfl

@[simp] theorem cmdIdentSend_life (s : Mach) : (cmdIdentSend s).life = s.life := by simp [cmdIdentSend]

@[simp] theorem toStage_life (n : Nat) (s : Mach) : (toStage n s).life = s.life := rfl

@[simp] theorem resyncFailed_life (why : Nat) (s : Mach) : (resyncFailed why s).life = s.life := rfl

@[simp] theorem resyncStart_life (s : Mach) : (resyncStart s).life = s.life := by simp [resyncStart]

@[simp] theorem compareReleases_life (s : Mach) : (compareReleases s).life = s.life := by
  simp only [compareReleases]
  split <;> simp

@[simp] theorem cmdResyncComplete_fuses (s : Mach) :
    (cmdResyncComplete s).life.fuses = s.life.fuses := by simp [cmdResyncComplete]

@[simp] theorem sendConfig_life (s : Mach) : (sendConfig s).life = s.life := by simp [sendConfig]

@[simp] theorem configAcked_life (s : Mach) : (configAcked s).life = s.life := by simp [configAcked]

@[simp] theorem feedStops_life (s : Mach) : (feedStops s).life = s.life := rfl

@[simp] theorem toSolo_fuses (s : Mach) : (toSolo s).life.fuses = s.life.fuses := by simp [toSolo]

@[simp] theorem aloneInStart_fuses (s : Mach) : (aloneInStart s).life.fuses = s.life.fuses := by simp [aloneInStart]

@[simp] theorem cmdDiscoveryEnd_fuses (s : Mach) : (cmdDiscoveryEnd s).life.fuses = s.life.fuses := by
  simp only [cmdDiscoveryEnd]
  repeat' split
  all_goals simp

@[simp] theorem cmdDiscoveryHoldTimeout_fuses (s : Mach) : (cmdDiscoveryHoldTimeout s).life.fuses = s.life.fuses := by
  simp only [cmdDiscoveryHoldTimeout]
  split <;> simp

@[simp] theorem takeoverDone_life (t : Nat) (s : Mach) : (takeoverDone t s).life = s.life := by simp [takeoverDone]

@[simp] theorem switchoverDone_life (s : Mach) : (switchoverDone s).life = s.life := by simp [switchoverDone]

@[simp] theorem shareCheck_life (s : Mach) : (shareCheck s).life = s.life := by
  simp only [shareCheck]
  split <;> simp

@[simp] theorem handedOver_fuses (s : Mach) : (handedOver s).life.fuses = s.life.fuses := by simp [handedOver]

@[simp] theorem cmdTokenShareTimeout_fuses (s : Mach) : (cmdTokenShareTimeout s).life.fuses = s.life.fuses := by
  simp only [cmdTokenShareTimeout]
  split <;> simp

@[simp] theorem oldHolders_life (s : Mach) : (oldHolders s).life = s.life := by
  simp only [oldHolders]
  split <;> simp

@[simp] theorem promote_fuses (s : Mach) : (promote s).life.fuses = s.life.fuses := by simp [promote]

@[simp] theorem switchStep_fuses (s : Mach) : (switchStep s).life.fuses = s.life.fuses := by
  simp only [switchStep]
  split <;> simp

@[simp] theorem cmdComputePoint_fuses (s : Mach) :
    (cmdComputePoint s).life.fuses = s.life.fuses := by simp [cmdComputePoint]

@[simp] theorem coldClaim_fuses (s : Mach) : (coldClaim s).life.fuses = s.life.fuses := by
  -- the named intermediate modules keep the module from being written out again in each of its fields
  delta coldClaim
  extract_lets faulted active cleared f tt bnk grd fdr fed closed moded tracked cnv regulating
  have cleared_fuses : cleared.life.fuses = s.life.fuses := by
    simp only [cleared, active, faulted, setObj_life, setMode_fuses, setRole_life, pulse_fuses, arbiterDrop_life]
  have closed_life : closed.life = cleared.life := by simp [closed, fed]
  have tracked_life : tracked.life = closed.life :=
    (converterTrack_life _).trans ((feedMode_life ..).trans (forgetAllSeq_life _))
  have regulating_life : regulating.life = tracked.life := life_withCnv _ tracked
  rw [startDriving_life, life_ite, fuses_ite, engineStart_fuses, ite_self, regulating_life, tracked_life, closed_life,
    cleared_fuses]

@[simp] theorem cmdPartnerFailureDetect_fuses (s : Mach) : (cmdPartnerFailureDetect s).life.fuses = s.life.fuses := by
  simp only [cmdPartnerFailureDetect]
  repeat' split
  all_goals simp

@[simp] theorem cmdHeartbeatPathLoss_fuses (wire : Bool) (s : Mach) :
    (cmdHeartbeatPathLoss wire s).life.fuses = s.life.fuses := by simp [cmdHeartbeatPathLoss]

@[simp] theorem demoted_fuses (wire : Bool) (s : Mach) : (demoted wire s).life.fuses = s.life.fuses := by simp [demoted]

@[simp] theorem cmdHbWPulse_fuses (width : Nat) (s : Mach) :
    (cmdHbWPulse width s).life.fuses = s.life.fuses := by simp [cmdHbWPulse]

@[simp] theorem alignGrid_life (k : Nat) (s : Mach) : (alignGrid k s).life = s.life := by simp [alignGrid]

@[simp] theorem partnerRole_fuses (r : Nat) (s : Mach) : (partnerRole r s).life.fuses = s.life.fuses := by
  simp only [partnerRole]
  repeat' split
  all_goals simp

@[simp] theorem heartbeatIn_fuses (p : List Byte) (s : Mach) :
    (heartbeatIn p s).life.fuses = s.life.fuses := by simp [heartbeatIn]

@[simp] theorem received_life (x : LoopInput) (s : Mach) : (received x s).life = s.life := rfl

@[simp] theorem orderedTicket_life (cyc rid low : Nat) (s : Mach) : (orderedTicket cyc rid low s).life = s.life := by
  simp only [orderedTicket]
  split <;> simp

@[simp] theorem orderIn_life (w : Nat) (s : Mach) : (orderIn w s).life = s.life := by
  simp only [orderIn]
  split <;> simp

@[simp] theorem orderCellIn_life (count : Nat) (p : List Byte) (s : Mach) :
    (orderCellIn count p s).life = s.life := by simp [orderCellIn]

@[simp] theorem senseCellIn_life (p : List Byte) (s : Mach) : (senseCellIn p s).life = s.life := rfl

@[simp] theorem linkEntries_life (n : Nat) (l : List Byte) (s : Mach) : (linkEntries n l s).life = s.life := by
  induction n generalizing l s with
  | zero => rfl
  | succ n ih => simp [linkEntries, ih]

@[simp] theorem canEntries_life (n : Nat) (l : List Byte) (s : Mach) : (canEntries n l s).life = s.life := by
  induction n generalizing l s with
  | zero => rfl
  | succ n ih => simp [canEntries, ih]

@[simp] theorem epochEndIn_life (p : List Byte) (s : Mach) : (epochEndIn p s).life = s.life := rfl

@[simp] theorem fetchIn_life (p : List Byte) (s : Mach) : (fetchIn p s).life = s.life := by
  simp only [fetchIn]
  split <;> simp

@[simp] theorem ticketCellIn_life (p : List Byte) (s : Mach) :
    (ticketCellIn p s).life = s.life := by simp [ticketCellIn]

@[simp] theorem sendAck_life (id outcome why : Nat) (s : Mach) : (sendAck id outcome why s).life = s.life := rfl

@[simp] theorem pageIn_life (l : List Byte) (s : Mach) : (pageIn l s).life = s.life := by simp [pageIn]

@[simp] theorem modelIn_life (id : Nat) (l : List Byte) (s : Mach) : (modelIn id l s).life = s.life := by
  -- the equation lemma would run the checks of the container
  delta modelIn
  extract_lets
  split
  · rw [sendAck_life, setLoad_life, noteCheck_life]
  · rw [sendAck_life, setLoad_life, reportRefusal_life]

@[simp] theorem imageIn_fuses (id : Nat) (l : List Byte) (s : Mach) : (imageIn id l s).life.fuses = s.life.fuses := by
  -- the equation lemma would run the checks of the image
  delta imageIn
  extract_lets
  split
  · rw [sendAck_life, setUpd_life, eraseNamed_fuses]
    rfl
  · rw [sendAck_life, setObj_life, setObj_life, setUpd_life, eraseNamed_fuses]
    rfl

@[simp] theorem commitIn_life (l : List Byte) (s : Mach) : (commitIn l s).life = s.life := by simp [commitIn]

@[simp] theorem resyncIn_fuses (id : Nat) (l : List Byte) (s : Mach) :
    (resyncIn id l s).life.fuses = s.life.fuses := by simp [resyncIn]

@[simp] theorem corrIn_life (l : List Byte) (s : Mach) : (corrIn l s).life = s.life := by simp [corrIn]

@[simp] theorem turnIn_life (l : List Byte) (s : Mach) : (turnIn l s).life = s.life := by simp [turnIn]

@[simp] theorem bulkDone_fuses (id : Nat) (l : List Byte) (s : Mach) :
    (bulkDone id l s).life.fuses = s.life.fuses := by simp [bulkDone]

@[simp] theorem bulkCellIn_fuses (count : Nat) (p : List Byte) (s : Mach) :
    (bulkCellIn count p s).life.fuses = s.life.fuses := by simp [bulkCellIn]

@[simp] theorem ackIn_life (p : List Byte) (s : Mach) : (ackIn p s).life = s.life := by simp [ackIn]

@[simp] theorem identIn_life (p : List Byte) (s : Mach) : (identIn p s).life = s.life := by simp [identIn]

@[simp] theorem switchIn_life (p : List Byte) (s : Mach) : (switchIn p s).life = s.life := by simp [switchIn]

@[simp] theorem resyncCellIn_fuses (p : List Byte) (s : Mach) : (resyncCellIn p s).life.fuses = s.life.fuses := by
  simp only [resyncCellIn]
  split <;> simp

@[simp] theorem cellActs_fuses (c : Nat) (s : Mach) : (cellActs c s).life.fuses = s.life.fuses := by simp [cellActs]

@[simp] theorem releaseHeld_fuses (fuel : Nat) (s : Mach) : (releaseHeld fuel s).life.fuses = s.life.fuses := by
  induction fuel generalizing s with
  | zero => rfl
  | succ fuel ih =>
    simp only [releaseHeld]
    split
    · rfl
    · simp [ih]

@[simp] theorem holdCell_life (seq c : Nat) (s : Mach) : (holdCell seq c s).life = s.life := rfl

@[simp] theorem dropGaps_fuses (s : Mach) : (dropGaps s).life.fuses = s.life.fuses := by simp [dropGaps]

@[simp] theorem sendNaks_life (fuel : Nat) (l : List Nat) (s : Mach) : (sendNaks fuel l s).life = s.life := by
  induction fuel generalizing l s with
  | zero => rfl
  | succ fuel ih => simp [sendNaks, ih]

@[simp] theorem cellInTurn_fuses (seq c : Nat) (s : Mach) :
    (cellInTurn seq c s).life.fuses = s.life.fuses := by simp [cellInTurn]

@[simp] theorem numbered_fuses (c : Nat) (s : Mach) : (numbered c s).life.fuses = s.life.fuses := by
  simp only [numbered]
  split <;> simp

@[simp] theorem nakIn_life (count : Nat) (p : List Byte) (s : Mach) : (nakIn count p s).life = s.life := by
  refine each_life (fun i s => ?_) _ _
  dsimp only
  split <;> simp

@[simp] theorem cellIn_fuses (kind c : Nat) (s : Mach) : (cellIn kind c s).life.fuses = s.life.fuses := by simp [cellIn]

@[simp] theorem cmdFetchTimeout_life (s : Mach) : (cmdFetchTimeout s).life = s.life := by simp [cmdFetchTimeout]

@[simp] theorem cmdStandbyFallBehind_fuses (s : Mach) :
    (cmdStandbyFallBehind s).life.fuses = s.life.fuses := by simp [cmdStandbyFallBehind]

@[simp] theorem cmdPartnerLinkLoss_fuses (s : Mach) :
    (cmdPartnerLinkLoss s).life.fuses = s.life.fuses := by simp [cmdPartnerLinkLoss]

@[simp] theorem cmdPartnerLaneSilence_fuses (s : Mach) :
    (cmdPartnerLaneSilence s).life.fuses = s.life.fuses := by simp [cmdPartnerLaneSilence]

/-! ### The loop's inputs -/

@[simp] theorem refreshOwn_fuses (kind n : Nat) (s : Mach) :
    (refreshOwn kind n s).life.fuses = s.life.fuses := by simp [refreshOwn]

@[simp] theorem ownFrame_fuses (kind n : Nat) (good : Bool) (s : Mach) :
    (ownFrame kind n good s).life.fuses = s.life.fuses := by simp [ownFrame]

@[simp] theorem ownSilent_fuses (kind n ns : Nat) (s : Mach) :
    (ownSilent kind n ns s).life.fuses = s.life.fuses := by simp [ownSilent]

@[simp] theorem keepOwn_life (x : LoopInput) (s : Mach) : (keepOwn x s).life = s.life := by simp [keepOwn]

@[simp] theorem linkTimer_fuses (own loop : Mach → Mach) (s : Mach) (own_keeps : Keeps (·.life.fuses) own)
    (loop_keeps : Keeps (·.life.fuses) loop) : (linkTimer own loop s).life.fuses = s.life.fuses := by
  rw [keeps_iff] at *
  simp [linkTimer, own_keeps, loop_keeps]

@[simp] theorem forwardLink_life (n len frame : Nat) (s : Mach) :
    (forwardLink n len frame s).life = s.life := by simp [forwardLink]

@[simp] theorem forwardCan_life (id frame : Nat) (s : Mach) :
    (forwardCan id frame s).life = s.life := by simp [forwardCan]

@[simp] theorem forwardSet_life (l : List (Option Nat)) (s : Mach) : (forwardSet l s).life = s.life := by
  simp only [forwardSet]
  repeat' split
  all_goals simp

@[simp] theorem senseIn_fuses (f : Nat) (s : Mach) : (senseIn f s).life.fuses = s.life.fuses := by simp [senseIn]

@[simp] theorem senseLate_fuses (c : Nat) (s : Mach) : (senseLate c s).life.fuses = s.life.fuses := by simp [senseLate]

@[simp] theorem cardIn_fuses (c f : Nat) (s : Mach) : (cardIn c f s).life.fuses = s.life.fuses := by simp [cardIn]

@[simp] theorem cardLate_fuses (c : Nat) (s : Mach) : (cardLate c s).life.fuses = s.life.fuses := by simp [cardLate]

@[simp] theorem feederIn_fuses (t f : Nat) (s : Mach) : (feederIn t f s).life.fuses = s.life.fuses := by simp [feederIn]

@[simp] theorem feederLate_fuses (t : Nat) (s : Mach) :
    (feederLate t s).life.fuses = s.life.fuses := by simp [feederLate]

@[simp] theorem identityIn_fuses (t : Nat) (r : Option Nat) (s : Mach) :
    (identityIn t r s).life.fuses = s.life.fuses := by
  simp only [identityIn]
  repeat' split
  all_goals simp

@[simp] theorem rectIn_fuses (r f : Nat) (s : Mach) : (rectIn r f s).life.fuses = s.life.fuses := by simp [rectIn]

@[simp] theorem rectLate_fuses (r : Nat) (s : Mach) : (rectLate r s).life.fuses = s.life.fuses := by simp [rectLate]

@[simp] theorem monitorIn_fuses (k m f : Nat) (s : Mach) :
    (monitorIn k m f s).life.fuses = s.life.fuses := by simp [monitorIn]

@[simp] theorem monitorLate_fuses (k m : Nat) (s : Mach) :
    (monitorLate k m s).life.fuses = s.life.fuses := by simp [monitorLate]

@[simp] theorem busChanged_fuses (bus : Nat) (bad : Bool) (s : Mach) :
    (busChanged bus bad s).life.fuses = s.life.fuses := by simp [busChanged]

@[simp] theorem tenMicros_life (s : Mach) : (tenMicros s).life = s.life := by simp [tenMicros]

@[simp] theorem runEntry_fuses (s : Mach) : (runEntry s).life.fuses = s.life.fuses := by simp [runEntry]

@[simp] theorem ownLoop_fuses (f : Mach → Mach) (s : Mach) (h : Keeps (·.life.fuses) f) :
    (ownLoop f s).life.fuses = s.life.fuses := by
  rw [keeps_iff] at h
  simp [ownLoop, h]

end Sys2Proof.Machine
end

section
/-! PROOFS. The fuses (R381) under every operation of
management (chapter 13). -/

namespace Sys2Proof.Machine

/-! ### Requests -/

@[simp] theorem cmdTokenLapse_fuses (s : Mach) : (cmdTokenLapse s).life.fuses = s.life.fuses := by
  simp only [cmdTokenLapse]
  repeat' split
  all_goals simp

@[simp] theorem tokenWrite_life (k m v : Nat) (s : Mach) : (tokenWrite k m v s).2.life = s.life := by
  simp only [tokenWrite]
  repeat' split
  all_goals simp

@[simp] theorem shadowWrite_life (off : Nat) (data : List Byte) (s : Mach) :
    (shadowWrite off data s).life = s.life := rfl

@[simp] theorem writeRw_life (d : ObjDef) (idx sub off : Nat) (data : List Byte) (mgr : Nat) (s : Mach) :
    (writeRw d idx sub off data mgr s).2.life = s.life := by
  simp only [writeRw]
  repeat' split
  all_goals simp

@[simp] theorem commitResult_life (code idx sub mask : Nat) (s : Mach) :
    (commitResult code idx sub mask s).life = s.life := rfl

@[simp] theorem commitRefused_life (f : Fail) (mask mgr : Nat) (s : Mach) :
    (commitRefused f mask mgr s).life = s.life := by simp [commitRefused]

@[simp] theorem commitAccepted_fuses (page : Bool) (mask mgr : Nat) (s : Mach) :
    (commitAccepted page mask mgr s).life.fuses = s.life.fuses := by simp [commitAccepted]

@[simp] theorem withHeader_fuses (s : Mach) : (withHeader s).life.fuses = s.life.fuses := by simp [withHeader]

@[simp] theorem commitPage_fuses (mask mgr : Nat) (s : Mach) : (commitPage mask mgr s).2.life.fuses = s.life.fuses := by
  simp only [commitPage]
  repeat' split
  all_goals simp

@[simp] theorem commitStart_fuses (k mgr reqId mask : Nat) (s : Mach) :
    (commitStart k mgr reqId mask s).2.life.fuses = s.life.fuses := by
  simp only [commitStart]
  repeat' split
  all_goals simp

@[simp] theorem restoreScalar_fuses (key : Nat) (s : Mach) : (restoreScalar key s).life.fuses = s.life.fuses := by
  simp only [restoreScalar]
  split <;> simp

@[simp] theorem restoreByte_fuses (key : Nat) (s : Mach) :
    (restoreByte key s).life.fuses = s.life.fuses := by simp [restoreByte]

@[simp] theorem restoreDefaults_fuses (mgr : Nat) (s : Mach) :
    (restoreDefaults mgr s).life.fuses = s.life.fuses := by simp [restoreDefaults]

@[simp] theorem doWrite_fuses (k reqId : Nat) (env : Bool × Bool) (dom : Bool) (idx sub off : Nat) (data : List Byte)
    (s : Mach) : (doWrite k reqId env dom idx sub off data s).2.life.fuses = s.life.fuses := by
  simp only [doWrite]
  repeat' split
  all_goals simp

@[simp] theorem doOp_fuses (k reqId : Nat) (op : VopOp) (s : Mach) :
    (doOp k reqId op s).2.life.fuses = s.life.fuses := by
  simp only [doOp]
  repeat' split
  all_goals simp

@[simp] theorem closeCleared_life (s : Mach) : (closeCleared s).life = s.life := by simp [closeCleared]

@[simp] theorem finish_life (k reqId : Nat) (op : VopOp) (a : VopAnswer) (s : Mach) :
    (finish k reqId op a s).life = s.life := by simp [finish]

@[simp] theorem runReq_fuses (k reqId : Nat) (op : VopOp) (s : Mach) :
    (runReq k reqId op s).life.fuses = s.life.fuses := by
  have done := doOp_fuses k reqId op s
  unfold runReq
  split <;> simp_all

@[simp] theorem runHeld_fuses (k fuel : Nat) (s : Mach) : (runHeld k fuel s).life.fuses = s.life.fuses := by
  induction fuel generalizing s with
  | zero => rfl
  | succ fuel ih =>
    simp only [runHeld]
    split
    · rfl
    · split
      · rfl
      · simp [ih]

@[simp] theorem heard_fuses (k : Nat) (s : Mach) : (heard k s).life.fuses = s.life.fuses := by simp [heard]

@[simp] theorem request_fuses (r : Req) (asked : VopOp) (s : Mach) : (request r asked s).life.fuses = s.life.fuses := by
  simp only [request]
  repeat' split
  all_goals simp

@[simp] theorem cmdPageValidationComplete_fuses (s : Mach) :
    (cmdPageValidationComplete s).life.fuses = s.life.fuses := by
  simp only [cmdPageValidationComplete]
  repeat' split
  all_goals simp

@[simp] theorem cmdNotifySend_life (k obj : Nat) (s : Mach) :
    (cmdNotifySend k obj s).life = s.life := by simp [cmdNotifySend]

@[simp] theorem handshakeAlert_life (port : Nat) (s : Mach) : (handshakeAlert port s).life = s.life := rfl

@[simp] theorem authFailed_life (port : Nat) (who : Option Nat) (s : Mach) : (authFailed port who s).life = s.life := by
  simp only [authFailed]
  split <;> simp

@[simp] theorem openSession_life (k mgr port slot : Nat) (addr : List Byte) (s : Mach) :
    (openSession k mgr port slot addr s).life = s.life := by simp [openSession]

@[simp] theorem beginHandshake_life (k mgr port slot : Nat) (addr : List Byte) (s : Mach) :
    (beginHandshake k mgr port slot addr s).life = s.life := rfl

@[simp] theorem handshakeFor_life (m slot port : Nat) (proved : Option Bool) (addr : List Byte) (s : Mach) :
    (handshakeFor m slot port proved addr s).life = s.life := by
  simp only [handshakeFor]
  repeat' split
  all_goals simp

@[simp] theorem handshakeMsg_life (m slot port : Nat) (msg : DtlsMsg) (addr : List Byte) (s : Mach) :
    (handshakeMsg m slot port msg addr s).life = s.life := by
  simp only [handshakeMsg]
  split <;> simp

@[simp] theorem cmdDtlsHandshake_fuses (port : Nat) (identity : List Byte) (msg : DtlsMsg) (addr : List Byte)
    (s : Mach) : (cmdDtlsHandshake port identity msg addr s).life.fuses = s.life.fuses := by
  simp only [cmdDtlsHandshake]
  repeat' split
  all_goals simp

@[simp] theorem cmdHandshakeTimeout_life (k : Nat) (s : Mach) :
    (cmdHandshakeTimeout k s).life = s.life := by simp [cmdHandshakeTimeout]

@[simp] theorem cmdReqIdHoldTimeout_life (k : Nat) (s : Mach) :
    (cmdReqIdHoldTimeout k s).life = s.life := by simp [cmdReqIdHoldTimeout]

@[simp] theorem cmdSessionTimeout_life (k : Nat) (s : Mach) :
    (cmdSessionTimeout k s).life = s.life := by simp [cmdSessionTimeout]

@[simp] theorem cmdMgmtLinkChange_life (port : Nat) (up : Bool) (s : Mach) :
    (cmdMgmtLinkChange port up s).life = s.life := by simp [cmdMgmtLinkChange]

@[simp] theorem cmdSessionLinkDown_life (port : Nat) (s : Mach) :
    (cmdSessionLinkDown port s).life = s.life := by simp [cmdSessionLinkDown]

/-! ### A write command -/

@[simp] theorem writeReq_fuses (r : Req) (idx sub n v : Nat) (s : Mach) :
    (writeReq r idx sub n v s).life.fuses = s.life.fuses := by simp [writeReq]

end Sys2Proof.Machine
end

section
/-! PROOFS. No command but IMAGE_CONFIRM programs a fuse (R381), and IMAGE_CONFIRM only raises the SVN and adds revoked
slots (R388). -/

namespace Sys2Proof.Machine

/-! ### IMAGE_CONFIRM (R388) -/

/-- From `s` to `t` the fused SVN does not fall, and a key slot that is revoked stays so. -/
def FusesRise (s t : Mach) : Prop :=
  s.life.svn ≤ t.life.svn ∧ ∀ k, s.life.revoked.testBit k = true → t.life.revoked.testBit k = true

theorem FusesRise.trans {s t u : Mach} (h : FusesRise s t) (g : FusesRise t u) : FusesRise s u :=
  ⟨h.1.trans g.1, fun k hk => g.2 k (h.2 k hk)⟩

theorem fuses_eq_iff {s t : Mach} :
    t.life.fuses = s.life.fuses ↔ t.life.svn = s.life.svn ∧ t.life.revoked = s.life.revoked := Prod.mk_inj

theorem fusesRise_of_fuses_eq {s t : Mach} (h : t.life.fuses = s.life.fuses) : FusesRise s t := by
  obtain ⟨hsvn, hrevoked⟩ := fuses_eq_iff.mp h
  exact ⟨hsvn.ge, fun k hk => hrevoked ▸ hk⟩

/-- R388 item 2: the slots that the image names join those revoked before. -/
theorem revokeKeys_fusesRise (v : Nat) (s : Mach) : FusesRise s (revokeKeys v s) := by
  simp only [revokeKeys]
  split
  · exact fusesRise_of_fuses_eq (by simp)
  · have marked : FusesRise s { s with life := { s.life with revoked := s.life.revoked ||| v % 8 } } :=
      ⟨le_rfl, fun k hk => by simp [hk]⟩
    exact marked.trans (fusesRise_of_fuses_eq (by simp))

/-- R388 item 3: the fused SVN becomes the lower one of the GOOD slots only where that is higher. -/
theorem advanceSvn_fusesRise (s : Mach) : FusesRise s (advanceSvn s) := by
  simp only [advanceSvn]
  split
  · exact fusesRise_of_fuses_eq rfl
  · rename_i higher
    refine FusesRise.trans ⟨?_, fun k hk => ?_⟩ (fusesRise_of_fuses_eq (congrArg Life.fuses (log_life ..)))
    · exact (not_le.mp fun h => higher (.inr h)).le
    · exact hk

theorem cmdImageConfirm_fusesRise (s : Mach) : FusesRise s (cmdImageConfirm s) := by
  simp only [cmdImageConfirm]
  split
  · refine .trans ?_ (advanceSvn_fusesRise _)
    split
    · exact .trans (fusesRise_of_fuses_eq (by simp)) (revokeKeys_fusesRise ..)
    · exact fusesRise_of_fuses_eq (by simp)
  · exact fusesRise_of_fuses_eq rfl

theorem exec_imageConfirm_fusesRise {s t : State} (h : exec .imageConfirm s = .next t) : FusesRise s.m t.m := by
  obtain rfl : { s with m := if powerless s.m then s.m else cmdImageConfirm s.m } = t := by
    injection h
  cases hp : powerless s.m with
  | true => exact fusesRise_of_fuses_eq (by simp)
  | false => simpa [hp] using cmdImageConfirm_fusesRise s.m

/-! ### Every other command -/

/-- An outcome of a command taken in `s` leaves the fuses as they are in `s`. -/
def FusesStay (s : State) (o : Out) : Prop := ∀ t, o = .next t → t.m.life.fuses = s.m.life.fuses

theorem drive_fusesStay {f : Mach → Mach} {s : State} (h : Keeps (·.life.fuses) f) : FusesStay s (drive f s) := by
  rintro _ ⟨⟩
  cases hp : powerless s.m with
  | true => simp
  | false => simpa [hp] using h s.m

theorem driveAlways_fusesStay {f : Mach → Mach} {s : State} (h : Keeps (·.life.fuses) f) :
    FusesStay s (driveAlways f s) := by
  rintro _ ⟨⟩
  exact h s.m

/-- R381: the events of the power supply reach the module in any condition, every other command where it has power, and
none but IMAGE_CONFIRM changes a fuse. -/
theorem exec_fusesStay {c : Instr} (h : c ≠ .imageConfirm) (s : State) : FusesStay s (exec c s) := by
  cases c with
  | imageConfirm => contradiction
  | powerOnReset slotB => exact driveAlways_fusesStay (by simp)
  | powerRestart => exact driveAlways_fusesStay (by simp)
  | holdUpEnd => exact driveAlways_fusesStay (by simp)
  | hbWPulse widthNs positive => cases positive <;> exact drive_fusesStay (by simp)
  | _ => exact drive_fusesStay (by simp)

/-! ### Every step -/

theorem step_of_nil {s : State} (h : s.pending = []) : step s = .next (tick s) := by
  simp [step, h]

theorem step_of_cons {s : State} {c : Instr} {rest : List Instr} (h : s.pending = c :: rest) :
    step s = exec c { s with pending := rest } := by
  simp [step, h]

/-- A step that does not take IMAGE_CONFIRM from the queue leaves the fuses alone. -/
theorem step_fuses {s t : State} (h : ∀ rest, s.pending ≠ .imageConfirm :: rest) (e : step s = .next t) :
    t.m.life.fuses = s.m.life.fuses := by
  cases hpending : s.pending with
  | nil =>
    rw [step_of_nil hpending] at e
    injection e with e
    rw [← e]
    rfl
  | cons c rest =>
    rw [step_of_cons hpending] at e
    exact exec_fusesStay (fun hc => h rest (hc ▸ hpending)) { s with pending := rest } t e

/-- Settles O50: IMAGE_CONFIRM makes the fuses rise, and every other step leaves them alone. -/
theorem fusesOneTime : Obligations.FusesOneTime := by
  intro s t e
  have kept (h : ∀ rest, s.pending ≠ .imageConfirm :: rest) := step_fuses h e
  have rise : FusesRise s.m t.m := by
    by_cases h : ∃ rest, s.pending = .imageConfirm :: rest
    · obtain ⟨rest, hpending⟩ := h
      rw [step_of_cons hpending] at e
      exact exec_imageConfirm_fusesRise (s := { s with pending := rest }) e
    · exact fusesRise_of_fuses_eq (kept fun rest hpending => h ⟨rest, hpending⟩)
  exact ⟨rise.1, rise.2, fun h => fuses_eq_iff.mp (kept h)⟩

end Sys2Proof.Machine
end
